-- ==== Sys2Proof/Word.lean ====
section
/-! DEFINITION. Word.lean: the word types of the machine (00_scope.md R8: XLEN = 32; R9). -/

namespace Sys2Proof

/-- A 32-bit pattern: a register's content, an address, an instruction word (00_scope.md R9, R10). -/
abbrev Word := BitVec 32

/-- A 16-bit pattern: a halfword, an immediate field, a binary16 pattern. -/
abbrev Half := BitVec 16

/-- One byte of memory. -/
abbrev Byte := BitVec 8

/-- A 64-bit pattern: the `HL = hi || lo` pair of 40_alu.md R203. -/
abbrev DWord := BitVec 64

end Sys2Proof
end

