-- ==== Sys2Proof/Syntax.lean ====
section
/-! DEFINITION. Syntax.lean: the instructions, one constructor for every row of spec/opcode_table.json, its arguments the row's
fields in the row's order and at the row's widths. A field the instruction ignores (30_encoding.md R129: `sa` of `add`, the `code` of
`syscall`, the `wb` hint of `sv.q`) is kept as an operand, so that a listing shows the whole row [log 26]. -/

namespace Sys2Proof

/-- The size field of a VFPU instruction, `sz = w[7] + 2*w[15]` (30_encoding.md R124): one to four lanes, or a matrix of that side. -/
inductive Size where
  | single
  | pair
  | triple
  | quad
  deriving DecidableEq, Repr

/-- The number of a general register (10_state.md R31). -/
abbrev GReg := BitVec 5

/-- The number of a COP1 register (10_state.md R37). -/
abbrev FReg := BitVec 5

/-- A 7-bit VFPU register field (45_vfpu_engine.md R421). -/
abbrev VReg := BitVec 7

/-- One instruction of the opcode table (30_encoding.md R129). -/
inductive Instr where
  /-- `sll`, R228. -/
  | sll (rt rd : GReg) (sa : BitVec 5)
  /-- `sra`, R230. -/
  | sra (rt rd : GReg) (sa : BitVec 5)
  /-- `sllv`, R231. -/
  | sllv (rs rt rd : GReg) (sa : BitVec 5)
  /-- `srav`, R233. -/
  | srav (rs rt rd : GReg) (sa : BitVec 5)
  /-- `jr`, R309. -/
  | jr (rs : GReg)
  /-- `jalr`, R310. -/
  | jalr (rs rd : GReg)
  /-- `movz`, R236. -/
  | movz (rs rt rd : GReg) (sa : BitVec 5)
  /-- `movn`, R237. -/
  | movn (rs rt rd : GReg) (sa : BitVec 5)
  /-- `syscall`, R404. -/
  | syscall (code : BitVec 20)
  /-- `break`, R405. -/
  | brk (code : BitVec 20)
  /-- `sync`, R406. -/
  | sync (stype : BitVec 5)
  /-- `mfhi`, R250. -/
  | mfhi (rd : GReg)
  /-- `mthi`, R251. -/
  | mthi (rs : GReg)
  /-- `mflo`, R252. -/
  | mflo (rd : GReg)
  /-- `mtlo`, R253. -/
  | mtlo (rs : GReg)
  /-- `clz`, R238. -/
  | clz (rs rd : GReg)
  /-- `clo`, R239. -/
  | clo (rs rd : GReg)
  /-- `mult`, R242. -/
  | mult (rs rt : GReg)
  /-- `multu`, R243. -/
  | multu (rs rt : GReg)
  /-- `div`, R244. -/
  | div (rs rt : GReg)
  /-- `divu`, R245. -/
  | divu (rs rt : GReg)
  /-- `madd`, R246. -/
  | madd (rs rt : GReg)
  /-- `maddu`, R247. -/
  | maddu (rs rt : GReg)
  /-- `add`, R210. -/
  | add (rs rt rd : GReg) (sa : BitVec 5)
  /-- `addu`, R211. -/
  | addu (rs rt rd : GReg) (sa : BitVec 5)
  /-- `sub`, R212. -/
  | sub (rs rt rd : GReg) (sa : BitVec 5)
  /-- `subu`, R213. -/
  | subu (rs rt rd : GReg) (sa : BitVec 5)
  /-- `and`, R220. -/
  | and (rs rt rd : GReg) (sa : BitVec 5)
  /-- `or`, R221. -/
  | or (rs rt rd : GReg) (sa : BitVec 5)
  /-- `xor`, R222. -/
  | xor (rs rt rd : GReg) (sa : BitVec 5)
  /-- `nor`, R223. -/
  | nor (rs rt rd : GReg) (sa : BitVec 5)
  /-- `slt`, R216. -/
  | slt (rs rt rd : GReg) (sa : BitVec 5)
  /-- `sltu`, R217. -/
  | sltu (rs rt rd : GReg) (sa : BitVec 5)
  /-- `max`, R240. -/
  | max (rs rt rd : GReg) (sa : BitVec 5)
  /-- `min`, R241. -/
  | min (rs rt rd : GReg) (sa : BitVec 5)
  /-- `msub`, R248. -/
  | msub (rs rt : GReg)
  /-- `msubu`, R249. -/
  | msubu (rs rt : GReg)
  /-- `srl`, R229. -/
  | srl (rt rd : GReg) (sa : BitVec 5)
  /-- `rotr`, R234. -/
  | rotr (rt rd : GReg) (sa : BitVec 5)
  /-- `srlv`, R232. -/
  | srlv (rs rt rd : GReg) (sa : BitVec 5)
  /-- `rotrv`, R235. -/
  | rotrv (rs rt rd : GReg) (sa : BitVec 5)
  /-- `bltz`, R299. -/
  | bltz (rs : GReg) (imm : BitVec 16)
  /-- `bgez`, R300. -/
  | bgez (rs : GReg) (imm : BitVec 16)
  /-- `bltzl`, R301. -/
  | bltzl (rs : GReg) (imm : BitVec 16)
  /-- `bgezl`, R302. -/
  | bgezl (rs : GReg) (imm : BitVec 16)
  /-- `bltzal`, R303. -/
  | bltzal (rs : GReg) (imm : BitVec 16)
  /-- `bgezal`, R304. -/
  | bgezal (rs : GReg) (imm : BitVec 16)
  /-- `bltzall`, R305. -/
  | bltzall (rs : GReg) (imm : BitVec 16)
  /-- `bgezall`, R306. -/
  | bgezall (rs : GReg) (imm : BitVec 16)
  /-- `j`, R307. -/
  | j (target : BitVec 26)
  /-- `jal`, R308. -/
  | jal (target : BitVec 26)
  /-- `beq`, R291. -/
  | beq (rs rt : GReg) (imm : BitVec 16)
  /-- `bne`, R292. -/
  | bne (rs rt : GReg) (imm : BitVec 16)
  /-- `blez`, R293. -/
  | blez (rs rt : GReg) (imm : BitVec 16)
  /-- `bgtz`, R294. -/
  | bgtz (rs rt : GReg) (imm : BitVec 16)
  /-- `addi`, R214. -/
  | addi (rs rt : GReg) (imm : BitVec 16)
  /-- `addiu`, R215. -/
  | addiu (rs rt : GReg) (imm : BitVec 16)
  /-- `slti`, R218. -/
  | slti (rs rt : GReg) (imm : BitVec 16)
  /-- `sltiu`, R219. -/
  | sltiu (rs rt : GReg) (imm : BitVec 16)
  /-- `andi`, R224. -/
  | andi (rs rt : GReg) (imm : BitVec 16)
  /-- `ori`, R225. -/
  | ori (rs rt : GReg) (imm : BitVec 16)
  /-- `xori`, R226. -/
  | xori (rs rt : GReg) (imm : BitVec 16)
  /-- `lui`, R227. -/
  | lui (rt : GReg) (imm : BitVec 16)
  /-- `beql`, R295. -/
  | beql (rs rt : GReg) (imm : BitVec 16)
  /-- `bnel`, R296. -/
  | bnel (rs rt : GReg) (imm : BitVec 16)
  /-- `blezl`, R297. -/
  | blezl (rs rt : GReg) (imm : BitVec 16)
  /-- `bgtzl`, R298. -/
  | bgtzl (rs rt : GReg) (imm : BitVec 16)
  /-- `lb`, R321. -/
  | lb (rs rt : GReg) (imm : BitVec 16)
  /-- `lh`, R323. -/
  | lh (rs rt : GReg) (imm : BitVec 16)
  /-- `lwl`, R326. -/
  | lwl (rs rt : GReg) (imm : BitVec 16)
  /-- `lw`, R325. -/
  | lw (rs rt : GReg) (imm : BitVec 16)
  /-- `lbu`, R322. -/
  | lbu (rs rt : GReg) (imm : BitVec 16)
  /-- `lhu`, R324. -/
  | lhu (rs rt : GReg) (imm : BitVec 16)
  /-- `lwr`, R327. -/
  | lwr (rs rt : GReg) (imm : BitVec 16)
  /-- `sb`, R328. -/
  | sb (rs rt : GReg) (imm : BitVec 16)
  /-- `sh`, R329. -/
  | sh (rs rt : GReg) (imm : BitVec 16)
  /-- `swl`, R331. -/
  | swl (rs rt : GReg) (imm : BitVec 16)
  /-- `sw`, R330. -/
  | sw (rs rt : GReg) (imm : BitVec 16)
  /-- `swr`, R332. -/
  | swr (rs rt : GReg) (imm : BitVec 16)
  /-- `cache`, R407. -/
  | cache (rs : GReg) (op : BitVec 5) (imm : BitVec 16)
  /-- `ll`, R334. -/
  | ll (rs rt : GReg) (imm : BitVec 16)
  /-- `lwc1`, R336. -/
  | lwc1 (rs : GReg) (ft : FReg) (imm : BitVec 16)
  /-- `sc`, R335. -/
  | sc (rs rt : GReg) (imm : BitVec 16)
  /-- `swc1`, R337. -/
  | swc1 (rs : GReg) (ft : FReg) (imm : BitVec 16)
  /-- `ext`, R254. -/
  | ext (rs rt : GReg) (msbd lsb : BitVec 5)
  /-- `ins`, R255. -/
  | ins (rs rt : GReg) (msb lsb : BitVec 5)
  /-- `wsbh`, R256. -/
  | wsbh (rt rd : GReg)
  /-- `wsbw`, R257. -/
  | wsbw (rt rd : GReg)
  /-- `seb`, R258. -/
  | seb (rt rd : GReg)
  /-- `bitrev`, R260. -/
  | bitrev (rt rd : GReg)
  /-- `seh`, R259. -/
  | seh (rt rd : GReg)
  /-- `mfc1`, R362. -/
  | mfc1 (rt : GReg) (fs : FReg)
  /-- `cfc1`, R364. -/
  | cfc1 (rt : GReg) (fs : FReg)
  /-- `mtc1`, R363. -/
  | mtc1 (rt : GReg) (fs : FReg)
  /-- `ctc1`, R365. -/
  | ctc1 (rt : GReg) (fs : FReg)
  /-- `bc1f`, R397. -/
  | bc1f (imm : BitVec 16)
  /-- `bc1t`, R398. -/
  | bc1t (imm : BitVec 16)
  /-- `bc1fl`, R399. -/
  | bc1fl (imm : BitVec 16)
  /-- `bc1tl`, R400. -/
  | bc1tl (imm : BitVec 16)
  /-- `add.s`, R366. -/
  | addS (ft fs fd : FReg)
  /-- `sub.s`, R367. -/
  | subS (ft fs fd : FReg)
  /-- `mul.s`, R368. -/
  | mulS (ft fs fd : FReg)
  /-- `div.s`, R369. -/
  | divS (ft fs fd : FReg)
  /-- `sqrt.s`, R370. -/
  | sqrtS (fs fd : FReg)
  /-- `abs.s`, R371. -/
  | absS (fs fd : FReg)
  /-- `mov.s`, R372. -/
  | movS (fs fd : FReg)
  /-- `neg.s`, R373. -/
  | negS (fs fd : FReg)
  /-- `round.w.s`, R376. -/
  | roundWS (fs fd : FReg)
  /-- `trunc.w.s`, R377. -/
  | truncWS (fs fd : FReg)
  /-- `ceil.w.s`, R378. -/
  | ceilWS (fs fd : FReg)
  /-- `floor.w.s`, R379. -/
  | floorWS (fs fd : FReg)
  /-- `cvt.w.s`, R375. -/
  | cvtWS (fs fd : FReg)
  /-- `cvt.s.w`, R380. -/
  | cvtSW (fs fd : FReg)
  /-- `c.f.s`, R381. -/
  | cFS (ft fs : FReg)
  /-- `c.un.s`, R382. -/
  | cUnS (ft fs : FReg)
  /-- `c.eq.s`, R383. -/
  | cEqS (ft fs : FReg)
  /-- `c.ueq.s`, R384. -/
  | cUeqS (ft fs : FReg)
  /-- `c.olt.s`, R385. -/
  | cOltS (ft fs : FReg)
  /-- `c.ult.s`, R386. -/
  | cUltS (ft fs : FReg)
  /-- `c.ole.s`, R387. -/
  | cOleS (ft fs : FReg)
  /-- `c.ule.s`, R388. -/
  | cUleS (ft fs : FReg)
  /-- `c.sf.s`, R389. -/
  | cSfS (ft fs : FReg)
  /-- `c.ngle.s`, R390. -/
  | cNgleS (ft fs : FReg)
  /-- `c.seq.s`, R391. -/
  | cSeqS (ft fs : FReg)
  /-- `c.ngl.s`, R392. -/
  | cNglS (ft fs : FReg)
  /-- `c.lt.s`, R393. -/
  | cLtS (ft fs : FReg)
  /-- `c.nge.s`, R394. -/
  | cNgeS (ft fs : FReg)
  /-- `c.le.s`, R395. -/
  | cLeS (ft fs : FReg)
  /-- `c.ngt.s`, R396. -/
  | cNgtS (ft fs : FReg)
  /-- `mfv`, R445. -/
  | mfv (rt : GReg) (idx : BitVec 8)
  /-- `mfvc`, R446. -/
  | mfvc (rt : GReg) (c : BitVec 7)
  /-- `mtv`, R451. -/
  | mtv (rt : GReg) (idx : BitVec 8)
  /-- `mtvc`, R452. -/
  | mtvc (rt : GReg) (c : BitVec 7)
  /-- `bvf`, R447. -/
  | bvf (cc : BitVec 3) (imm : BitVec 16)
  /-- `bvt`, R448. -/
  | bvt (cc : BitVec 3) (imm : BitVec 16)
  /-- `bvfl`, R449. -/
  | bvfl (cc : BitVec 3) (imm : BitVec 16)
  /-- `bvtl`, R450. -/
  | bvtl (cc : BitVec 3) (imm : BitVec 16)
  /-- `vadd`, R470. -/
  | vadd (vd vs vt : VReg) (sz : Size)
  /-- `vsub`, R471. -/
  | vsub (vd vs vt : VReg) (sz : Size)
  /-- `vsbn`, R472. -/
  | vsbn (vd vs vt : VReg) (sz : Size)
  /-- `vdiv`, R473. -/
  | vdiv (vd vs vt : VReg) (sz : Size)
  /-- `vmul`, R474. -/
  | vmul (vd vs vt : VReg) (sz : Size)
  /-- `vdot`, R475. -/
  | vdot (vd vs vt : VReg) (sz : Size)
  /-- `vscl`, R476. -/
  | vscl (vd vs vt : VReg) (sz : Size)
  /-- `vhdp`, R477. -/
  | vhdp (vd vs vt : VReg) (sz : Size)
  /-- `vcrs.t`, R478. -/
  | vcrsT (vd vs vt : VReg) (sz : Size)
  /-- `vdet.p`, R479. -/
  | vdetP (vd vs vt : VReg) (sz : Size)
  /-- `vcmp`, R495. -/
  | vcmp (vs vt : VReg) (sz : Size) (cond : BitVec 4)
  /-- `vmin`, R480. -/
  | vmin (vd vs vt : VReg) (sz : Size)
  /-- `vmax`, R481. -/
  | vmax (vd vs vt : VReg) (sz : Size)
  /-- `vscmp`, R482. -/
  | vscmp (vd vs vt : VReg) (sz : Size)
  /-- `vsge`, R483. -/
  | vsge (vd vs vt : VReg) (sz : Size)
  /-- `vslt`, R484. -/
  | vslt (vd vs vt : VReg) (sz : Size)
  /-- `vmov`, R485. -/
  | vmov (vd vs : VReg) (sz : Size)
  /-- `vabs`, R486. -/
  | vabs (vd vs : VReg) (sz : Size)
  /-- `vneg`, R487. -/
  | vneg (vd vs : VReg) (sz : Size)
  /-- `vidt`, R488. -/
  | vidt (vd vs : VReg) (sz : Size)
  /-- `vsat0`, R489. -/
  | vsat0 (vd vs : VReg) (sz : Size)
  /-- `vsat1`, R490. -/
  | vsat1 (vd vs : VReg) (sz : Size)
  /-- `vzero`, R491. -/
  | vzero (vd vs : VReg) (sz : Size)
  /-- `vone`, R492. -/
  | vone (vd vs : VReg) (sz : Size)
  /-- `vrcp`, R496. -/
  | vrcp (vd vs : VReg) (sz : Size)
  /-- `vrsq`, R497. -/
  | vrsq (vd vs : VReg) (sz : Size)
  /-- `vsin`, R498. -/
  | vsin (vd vs : VReg) (sz : Size)
  /-- `vcos`, R499. -/
  | vcos (vd vs : VReg) (sz : Size)
  /-- `vexp2`, R500. -/
  | vexp2 (vd vs : VReg) (sz : Size)
  /-- `vlog2`, R501. -/
  | vlog2 (vd vs : VReg) (sz : Size)
  /-- `vsqrt`, R502. -/
  | vsqrt (vd vs : VReg) (sz : Size)
  /-- `vasin`, R503. -/
  | vasin (vd vs : VReg) (sz : Size)
  /-- `vnrcp`, R504. -/
  | vnrcp (vd vs : VReg) (sz : Size)
  /-- `vnsin`, R505. -/
  | vnsin (vd vs : VReg) (sz : Size)
  /-- `vrexp2`, R506. -/
  | vrexp2 (vd vs : VReg) (sz : Size)
  /-- `vrnds`, R507. -/
  | vrnds (vd vs : VReg) (sz : Size)
  /-- `vrndi`, R508. -/
  | vrndi (vd vs : VReg) (sz : Size)
  /-- `vrndf1`, R509. -/
  | vrndf1 (vd vs : VReg) (sz : Size)
  /-- `vrndf2`, R510. -/
  | vrndf2 (vd vs : VReg) (sz : Size)
  /-- `vf2h`, R511. -/
  | vf2h (vd vs : VReg) (sz : Size)
  /-- `vh2f`, R512. -/
  | vh2f (vd vs : VReg) (sz : Size)
  /-- `vsbz`, R513. -/
  | vsbz (vd vs : VReg) (sz : Size)
  /-- `vlgb`, R514. -/
  | vlgb (vd vs : VReg) (sz : Size)
  /-- `vuc2i`, R515. -/
  | vuc2i (vd vs : VReg) (sz : Size)
  /-- `vc2i`, R516. -/
  | vc2i (vd vs : VReg) (sz : Size)
  /-- `vus2i`, R517. -/
  | vus2i (vd vs : VReg) (sz : Size)
  /-- `vs2i`, R518. -/
  | vs2i (vd vs : VReg) (sz : Size)
  /-- `vi2uc`, R519. -/
  | vi2uc (vd vs : VReg) (sz : Size)
  /-- `vi2c`, R520. -/
  | vi2c (vd vs : VReg) (sz : Size)
  /-- `vi2us`, R521. -/
  | vi2us (vd vs : VReg) (sz : Size)
  /-- `vi2s`, R522. -/
  | vi2s (vd vs : VReg) (sz : Size)
  /-- `vsrt1`, R561. -/
  | vsrt1 (vd vs : VReg) (sz : Size)
  /-- `vsrt2`, R562. -/
  | vsrt2 (vd vs : VReg) (sz : Size)
  /-- `vbfy1`, R563. -/
  | vbfy1 (vd vs : VReg) (sz : Size)
  /-- `vbfy2`, R564. -/
  | vbfy2 (vd vs : VReg) (sz : Size)
  /-- `vocp`, R565. -/
  | vocp (vd vs : VReg) (sz : Size)
  /-- `vsocp`, R566. -/
  | vsocp (vd vs : VReg) (sz : Size)
  /-- `vfad`, R567. -/
  | vfad (vd vs : VReg) (sz : Size)
  /-- `vavg`, R568. -/
  | vavg (vd vs : VReg) (sz : Size)
  /-- `vsrt3`, R569. -/
  | vsrt3 (vd vs : VReg) (sz : Size)
  /-- `vsrt4`, R570. -/
  | vsrt4 (vd vs : VReg) (sz : Size)
  /-- `vsgn`, R571. -/
  | vsgn (vd vs : VReg) (sz : Size)
  /-- `vt4444`, R572. -/
  | vt4444 (vd vs : VReg) (sz : Size)
  /-- `vt5551`, R573. -/
  | vt5551 (vd vs : VReg) (sz : Size)
  /-- `vt5650`, R574. -/
  | vt5650 (vd vs : VReg) (sz : Size)
  /-- `vmfvc`, R453. -/
  | vmfvc (vd : VReg) (c : BitVec 7)
  /-- `vmtvc`, R454. -/
  | vmtvc (vs : VReg) (c : BitVec 7)
  /-- `vcst`, R523. -/
  | vcst (vd : VReg) (k : BitVec 5) (sz : Size)
  /-- `vf2in`, R525. -/
  | vf2in (vd vs : VReg) (scale : BitVec 5) (sz : Size)
  /-- `vf2iz`, R526. -/
  | vf2iz (vd vs : VReg) (scale : BitVec 5) (sz : Size)
  /-- `vf2iu`, R527. -/
  | vf2iu (vd vs : VReg) (scale : BitVec 5) (sz : Size)
  /-- `vf2id`, R528. -/
  | vf2id (vd vs : VReg) (scale : BitVec 5) (sz : Size)
  /-- `vi2f`, R529. -/
  | vi2f (vd vs : VReg) (scale : BitVec 5) (sz : Size)
  /-- `vcmovt`, R530. -/
  | vcmovt (vd vs : VReg) (imm3 : BitVec 3) (sz : Size)
  /-- `vcmovf`, R531. -/
  | vcmovf (vd vs : VReg) (imm3 : BitVec 3) (sz : Size)
  /-- `vwbn`, R532. -/
  | vwbn (vd vs : VReg) (imm8 : BitVec 8) (sz : Size)
  /-- `vpfxs`, R442. -/
  | vpfxs (data : BitVec 20)
  /-- `vpfxt`, R443. -/
  | vpfxt (data : BitVec 20)
  /-- `vpfxd`, R444. -/
  | vpfxd (data : BitVec 12)
  /-- `viim.s`, R575. -/
  | viimS (vt : VReg) (imm16 : BitVec 16)
  /-- `vfim.s`, R576. -/
  | vfimS (vt : VReg) (imm16 : BitVec 16)
  /-- `vmmul`, R577. -/
  | vmmul (vd vs vt : VReg) (sz : Size)
  /-- `vtfm2.p`, R578. -/
  | vtfm2P (vd vs vt : VReg)
  /-- `vhtfm2.p`, R579. -/
  | vhtfm2P (vd vs vt : VReg)
  /-- `vtfm3.t`, R580. -/
  | vtfm3T (vd vs vt : VReg)
  /-- `vhtfm3.t`, R581. -/
  | vhtfm3T (vd vs vt : VReg)
  /-- `vtfm4.q`, R582. -/
  | vtfm4Q (vd vs vt : VReg)
  /-- `vhtfm4.q`, R583. -/
  | vhtfm4Q (vd vs vt : VReg)
  /-- `vmscl`, R584. -/
  | vmscl (vd vs vt : VReg) (sz : Size)
  /-- `vcrsp.t`, R585. -/
  | vcrspT (vd vs vt : VReg)
  /-- `vqmul.q`, R586. -/
  | vqmulQ (vd vs vt : VReg)
  /-- `vmmov`, R587. -/
  | vmmov (vd vs : VReg) (sz : Size)
  /-- `vmidt`, R588. -/
  | vmidt (vd vs : VReg) (sz : Size)
  /-- `vmzero`, R589. -/
  | vmzero (vd vs : VReg) (sz : Size)
  /-- `vmone`, R590. -/
  | vmone (vd vs : VReg) (sz : Size)
  /-- `vrot`, R591. -/
  | vrot (vd vs : VReg) (imm5 : BitVec 5) (sz : Size)
  /-- `vnop`, R592. -/
  | vnop
  /-- `vsync`, R593. -/
  | vsync
  /-- `vflush`, R594. -/
  | vflush
  /-- `lv.s`, R338. -/
  | lvS (rs : GReg) (vt5 : BitVec 5) (off : BitVec 14) (vthi : BitVec 2)
  /-- `sv.s`, R339. -/
  | svS (rs : GReg) (vt5 : BitVec 5) (off : BitVec 14) (vthi : BitVec 2)
  /-- `lv.q`, R340. -/
  | lvQ (rs : GReg) (vt5 : BitVec 5) (off : BitVec 14) (vthi : BitVec 1)
  /-- `sv.q`, R341. -/
  | svQ (rs : GReg) (vt5 : BitVec 5) (off : BitVec 14) (vthi wb : BitVec 1)
  /-- `lvl.q`, R342. -/
  | lvlQ (rs : GReg) (vt5 : BitVec 5) (off : BitVec 14) (vthi : BitVec 1)
  /-- `lvr.q`, R343. -/
  | lvrQ (rs : GReg) (vt5 : BitVec 5) (off : BitVec 14) (vthi : BitVec 1)
  /-- `svl.q`, R344. -/
  | svlQ (rs : GReg) (vt5 : BitVec 5) (off : BitVec 14) (vthi : BitVec 1)
  /-- `svr.q`, R345. -/
  | svrQ (rs : GReg) (vt5 : BitVec 5) (off : BitVec 14) (vthi : BitVec 1)
  deriving DecidableEq, Repr

end Sys2Proof
end

