-- ==== Sys2Proof/WellFormed.lean ====
section
/-! DEFINITION. WellFormed.lean: which terms of `Instr` an instruction word can stand for. Every field has its exact width, so only the
bits that a row fixes INSIDE one of its own fields are left to check (30_encoding.md R131: `sa[0]` tells `srlv` from `rotrv`; R135: `w[7]`
tells `mfv` from `mfvc` and `mtv` from `mtvc`). -/

namespace Sys2Proof

/-- Whether `i` is an instruction of the opcode table: the bits that its row fixes inside an operand field have the row's value. -/
def Instr.wellFormed (i : Instr) : Bool :=
  match i with
  | .srlv _ _ _ sa => !sa.getLsbD 0                    -- R131: w[6] = 0
  | .rotrv _ _ _ sa => sa.getLsbD 0                    -- R131: w[6] = 1
  | .mfv _ idx => !idx.getLsbD 7                       -- R135: w[7] = 0
  | .mtv _ idx => !idx.getLsbD 7                       -- R135: w[7] = 0
  | .sll .. | .sra .. | .sllv .. | .srav .. | .jr .. | .jalr .. | .movz .. | .movn .. | .syscall .. | .brk ..
  | .sync .. | .mfhi .. | .mthi .. | .mflo .. | .mtlo .. | .clz .. | .clo .. | .mult .. | .multu .. | .div ..
  | .divu .. | .madd .. | .maddu .. | .add .. | .addu .. | .sub .. | .subu .. | .and .. | .or .. | .xor .. | .nor ..
  | .slt .. | .sltu .. | .max .. | .min .. | .msub .. | .msubu .. | .srl .. | .rotr .. | .bltz .. | .bgez ..
  | .bltzl .. | .bgezl .. | .bltzal .. | .bgezal .. | .bltzall .. | .bgezall .. | .j .. | .jal .. | .beq .. | .bne ..
  | .blez .. | .bgtz .. | .addi .. | .addiu .. | .slti .. | .sltiu .. | .andi .. | .ori .. | .xori .. | .lui ..
  | .beql .. | .bnel .. | .blezl .. | .bgtzl .. | .lb .. | .lh .. | .lwl .. | .lw .. | .lbu .. | .lhu .. | .lwr ..
  | .sb .. | .sh .. | .swl .. | .sw .. | .swr .. | .cache .. | .ll .. | .lwc1 .. | .sc .. | .swc1 .. | .ext ..
  | .ins .. | .wsbh .. | .wsbw .. | .seb .. | .bitrev .. | .seh .. | .mfc1 .. | .cfc1 .. | .mtc1 .. | .ctc1 ..
  | .bc1f .. | .bc1t .. | .bc1fl .. | .bc1tl .. | .addS .. | .subS .. | .mulS .. | .divS .. | .sqrtS .. | .absS ..
  | .movS .. | .negS .. | .roundWS .. | .truncWS .. | .ceilWS .. | .floorWS .. | .cvtWS .. | .cvtSW .. | .cFS ..
  | .cUnS .. | .cEqS .. | .cUeqS .. | .cOltS .. | .cUltS .. | .cOleS .. | .cUleS .. | .cSfS .. | .cNgleS ..
  | .cSeqS .. | .cNglS .. | .cLtS .. | .cNgeS .. | .cLeS .. | .cNgtS .. | .mfvc .. | .mtvc .. | .bvf .. | .bvt ..
  | .bvfl .. | .bvtl .. | .vadd .. | .vsub .. | .vsbn .. | .vdiv .. | .vmul .. | .vdot .. | .vscl .. | .vhdp ..
  | .vcrsT .. | .vdetP .. | .vcmp .. | .vmin .. | .vmax .. | .vscmp .. | .vsge .. | .vslt .. | .vmov .. | .vabs ..
  | .vneg .. | .vidt .. | .vsat0 .. | .vsat1 .. | .vzero .. | .vone .. | .vrcp .. | .vrsq .. | .vsin .. | .vcos ..
  | .vexp2 .. | .vlog2 .. | .vsqrt .. | .vasin .. | .vnrcp .. | .vnsin .. | .vrexp2 .. | .vrnds .. | .vrndi ..
  | .vrndf1 .. | .vrndf2 .. | .vf2h .. | .vh2f .. | .vsbz .. | .vlgb .. | .vuc2i .. | .vc2i .. | .vus2i .. | .vs2i ..
  | .vi2uc .. | .vi2c .. | .vi2us .. | .vi2s .. | .vsrt1 .. | .vsrt2 .. | .vbfy1 .. | .vbfy2 .. | .vocp .. | .vsocp ..
  | .vfad .. | .vavg .. | .vsrt3 .. | .vsrt4 .. | .vsgn .. | .vt4444 .. | .vt5551 .. | .vt5650 .. | .vmfvc ..
  | .vmtvc .. | .vcst .. | .vf2in .. | .vf2iz .. | .vf2iu .. | .vf2id .. | .vi2f .. | .vcmovt .. | .vcmovf ..
  | .vwbn .. | .vpfxs .. | .vpfxt .. | .vpfxd .. | .viimS .. | .vfimS .. | .vmmul .. | .vtfm2P .. | .vhtfm2P ..
  | .vtfm3T .. | .vhtfm3T .. | .vtfm4Q .. | .vhtfm4Q .. | .vmscl .. | .vcrspT .. | .vqmulQ .. | .vmmov .. | .vmidt ..
  | .vmzero .. | .vmone .. | .vrot .. | .vnop .. | .vsync .. | .vflush .. | .lvS .. | .svS .. | .lvQ .. | .svQ ..
  | .lvlQ .. | .lvrQ .. | .svlQ .. | .svrQ .. => true

end Sys2Proof
end

