-- ==== Sys2Proof/Decode.lean ====
section
/-! DEFINITION. Decode.lean: from instruction words to instructions and back. Every map is one rule of 30_encoding.md (R130 to R142), read
field by field; a word that no map names is rejected by the name of its fatal cause (R142). The encoder at the end is written from the
formats R122 to R126, with 0 in the bits an instruction ignores [log 26]. -/

namespace Sys2Proof

/-- Why a word, or a list of bytes, is no instruction. -/
inductive DecodeError where
  /-- No row, under a primary opcode that is no VFPU opcode (R142: `Fatal(UNKNOWN_OPCODE)`). -/
  | unknownOpcode
  /-- No row, under a VFPU primary opcode (R142: `Fatal(UNKNOWN_VFPU)`). -/
  | unknownVfpu
  /-- Fewer than four bytes (R120: a decoder always consumes 4 bytes). -/
  | truncated
  deriving DecidableEq, Repr

/-! ### Fields of a word -/

/-- `w[25:21]`: `rs` (R121); also `fmt` (R123) and the `j` of VFPU4 (R137). -/
def fRs (w : Word) : BitVec 5 := w.extractLsb' 21 5

/-- `w[20:16]`: `rt` (R121); also `ft`, `vt5`, `scale` and the other fields at `w[20:16]`. -/
def fRt (w : Word) : BitVec 5 := w.extractLsb' 16 5

/-- `w[15:11]`: `rd` (R121); also `fs`, `msb`. -/
def fRd (w : Word) : BitVec 5 := w.extractLsb' 11 5

/-- `w[10:6]`: `sa` (R121); also `fd`, `lsb`. -/
def fSa (w : Word) : BitVec 5 := w.extractLsb' 6 5

/-- `w[5:0]`: `funct` (R121). -/
def fFunct (w : Word) : BitVec 6 := w.extractLsb' 0 6

/-- `w[31:26]`: the primary opcode (R121). -/
def fOp (w : Word) : BitVec 6 := w.extractLsb' 26 6

/-- `w[25:6]`: the code field of `syscall` and `break`. -/
def fCode (w : Word) : BitVec 20 := w.extractLsb' 6 20

/-- `w[15:0]`: `imm` (R121). -/
def fImm (w : Word) : BitVec 16 := w.extractLsb' 0 16

/-- `w[25:0]`: `target` (R121). -/
def fTarget (w : Word) : BitVec 26 := w.extractLsb' 0 26

/-- `w[7:0]`: the index of `mfv`/`mtv` (R126). -/
def fIdx (w : Word) : BitVec 8 := w.extractLsb' 0 8

/-- `w[6:0]`: `vd` (R124). -/
def fVd (w : Word) : BitVec 7 := w.extractLsb' 0 7

/-- `w[14:8]`: `vs` (R124). -/
def fVs (w : Word) : BitVec 7 := w.extractLsb' 8 7

/-- `w[22:16]`: `vt` (R124). -/
def fVt (w : Word) : BitVec 7 := w.extractLsb' 16 7

/-- `w[25:23]`: the VFPU sub-opcode `w[25:23]` (R136, R141). -/
def fSub3 (w : Word) : BitVec 3 := w.extractLsb' 23 3

/-- `w[25:24]`: the prefix selector `w[25:24]` (R126). -/
def fSub2 (w : Word) : BitVec 2 := w.extractLsb' 24 2

/-- `w[20:18]`: the CC bit number (R126). -/
def fCc (w : Word) : BitVec 3 := w.extractLsb' 18 3

/-- `w[17:16]`: the branch form `w[17:16]` (R123, R126). -/
def fTf (w : Word) : BitVec 2 := w.extractLsb' 16 2

/-- `w[3:0]`: the `vcmp` condition. -/
def fCond (w : Word) : BitVec 4 := w.extractLsb' 0 4

/-- `w[18:16]`: `imm3` of `vcmovt`/`vcmovf`. -/
def fImm3 (w : Word) : BitVec 3 := w.extractLsb' 16 3

/-- `w[23:16]`: `imm8` of `vwbn`. -/
def fImm8 (w : Word) : BitVec 8 := w.extractLsb' 16 8

/-- `w[19:0]`: the data of `vpfxs`/`vpfxt`. -/
def fData20 (w : Word) : BitVec 20 := w.extractLsb' 0 20

/-- `w[11:0]`: the data of `vpfxd`. -/
def fData12 (w : Word) : BitVec 12 := w.extractLsb' 0 12

/-- `w[15:2]`: the VFPU offset (R125). -/
def fOff (w : Word) : BitVec 14 := w.extractLsb' 2 14

/-- `w[1:0]`: `w[1:0]` of `lv.s`/`sv.s` (R125). -/
def fVthi2 (w : Word) : BitVec 2 := w.extractLsb' 0 2

/-- `w[0:0]`: `w[0]` of the quad transfers (R125). -/
def fVthi1 (w : Word) : BitVec 1 := w.extractLsb' 0 1

/-- `w[1:1]`: `w[1]` of the VFPU memory format (R125). -/
def fBit1 (w : Word) : BitVec 1 := w.extractLsb' 1 1

/-- `w[6:6]`: `sa[0]` (R131). -/
def fBit6 (w : Word) : BitVec 1 := w.extractLsb' 6 1

/-- `w[7:7]`: the low size bit (R124). -/
def fBit7 (w : Word) : BitVec 1 := w.extractLsb' 7 1

/-- `w[15:15]`: the high size bit (R124). -/
def fBit15 (w : Word) : BitVec 1 := w.extractLsb' 15 1

/-- `w[19:19]`: `tf` of `vcmovt`/`vcmovf` (R126). -/
def fBit19 (w : Word) : BitVec 1 := w.extractLsb' 19 1

/-- `w[21:21]`: `rs[0]` (R131). -/
def fBit21 (w : Word) : BitVec 1 := w.extractLsb' 21 1

/-- `w[22:21]`: `w[22:21]` of VFPU6 sub-op 7 (R141). -/
def fMset (w : Word) : BitVec 2 := w.extractLsb' 21 2

/-- `w[19:16]`: `w[19:16]` of the matrix-set group (R141). -/
def fMsel (w : Word) : BitVec 4 := w.extractLsb' 16 4

/-- The size `sz = lo + 2*hi` of two field bits (R124). -/
def Size.ofBits (hi lo : BitVec 1) : Size :=
  if hi = 1#1 then (if lo = 1#1 then .quad else .triple) else (if lo = 1#1 then .pair else .single)

/-- `n(sz)`, the number of lanes or the side of a matrix (00_scope.md R13). -/
def Size.lanes (sz : Size) : Nat :=
  match sz with
  | .single => 1 | .pair => 2 | .triple => 3 | .quad => 4

/-- The size field `w[7] + 2*w[15]` (R124). -/
def fSize (w : Word) : Size := Size.ofBits (fBit15 w) (fBit7 w)

/-! ### The maps -/

/-- The SPECIAL map, by `funct` (R131). -/
def decodeSpecial (w : Word) : Except DecodeError Instr :=
  if fFunct w = 0x0#6 then .ok (.sll (fRt w) (fRd w) (fSa w))
  else if fFunct w = 0x2#6 then if fBit21 w = 0#1 then .ok (.srl (fRt w) (fRd w) (fSa w)) else .ok (.rotr (fRt w) (fRd w) (fSa w))
  else if fFunct w = 0x3#6 then .ok (.sra (fRt w) (fRd w) (fSa w))
  else if fFunct w = 0x4#6 then .ok (.sllv (fRs w) (fRt w) (fRd w) (fSa w))
  else if fFunct w = 0x6#6 then if fBit6 w = 0#1 then .ok (.srlv (fRs w) (fRt w) (fRd w) (fSa w)) else .ok (.rotrv (fRs w) (fRt w) (fRd w) (fSa w))
  else if fFunct w = 0x7#6 then .ok (.srav (fRs w) (fRt w) (fRd w) (fSa w))
  else if fFunct w = 0x8#6 then .ok (.jr (fRs w))
  else if fFunct w = 0x9#6 then .ok (.jalr (fRs w) (fRd w))
  else if fFunct w = 0xa#6 then .ok (.movz (fRs w) (fRt w) (fRd w) (fSa w))
  else if fFunct w = 0xb#6 then .ok (.movn (fRs w) (fRt w) (fRd w) (fSa w))
  else if fFunct w = 0xc#6 then .ok (.syscall (fCode w))
  else if fFunct w = 0xd#6 then .ok (.brk (fCode w))
  else if fFunct w = 0xf#6 then .ok (.sync (fSa w))
  else if fFunct w = 0x10#6 then .ok (.mfhi (fRd w))
  else if fFunct w = 0x11#6 then .ok (.mthi (fRs w))
  else if fFunct w = 0x12#6 then .ok (.mflo (fRd w))
  else if fFunct w = 0x13#6 then .ok (.mtlo (fRs w))
  else if fFunct w = 0x16#6 then .ok (.clz (fRs w) (fRd w))
  else if fFunct w = 0x17#6 then .ok (.clo (fRs w) (fRd w))
  else if fFunct w = 0x18#6 then .ok (.mult (fRs w) (fRt w))
  else if fFunct w = 0x19#6 then .ok (.multu (fRs w) (fRt w))
  else if fFunct w = 0x1a#6 then .ok (.div (fRs w) (fRt w))
  else if fFunct w = 0x1b#6 then .ok (.divu (fRs w) (fRt w))
  else if fFunct w = 0x1c#6 then .ok (.madd (fRs w) (fRt w))
  else if fFunct w = 0x1d#6 then .ok (.maddu (fRs w) (fRt w))
  else if fFunct w = 0x20#6 then .ok (.add (fRs w) (fRt w) (fRd w) (fSa w))
  else if fFunct w = 0x21#6 then .ok (.addu (fRs w) (fRt w) (fRd w) (fSa w))
  else if fFunct w = 0x22#6 then .ok (.sub (fRs w) (fRt w) (fRd w) (fSa w))
  else if fFunct w = 0x23#6 then .ok (.subu (fRs w) (fRt w) (fRd w) (fSa w))
  else if fFunct w = 0x24#6 then .ok (.and (fRs w) (fRt w) (fRd w) (fSa w))
  else if fFunct w = 0x25#6 then .ok (.or (fRs w) (fRt w) (fRd w) (fSa w))
  else if fFunct w = 0x26#6 then .ok (.xor (fRs w) (fRt w) (fRd w) (fSa w))
  else if fFunct w = 0x27#6 then .ok (.nor (fRs w) (fRt w) (fRd w) (fSa w))
  else if fFunct w = 0x2a#6 then .ok (.slt (fRs w) (fRt w) (fRd w) (fSa w))
  else if fFunct w = 0x2b#6 then .ok (.sltu (fRs w) (fRt w) (fRd w) (fSa w))
  else if fFunct w = 0x2c#6 then .ok (.max (fRs w) (fRt w) (fRd w) (fSa w))
  else if fFunct w = 0x2d#6 then .ok (.min (fRs w) (fRt w) (fRd w) (fSa w))
  else if fFunct w = 0x2e#6 then .ok (.msub (fRs w) (fRt w))
  else if fFunct w = 0x2f#6 then .ok (.msubu (fRs w) (fRt w))
  else .error .unknownOpcode

/-- The REGIMM map, by `rt` (R132). -/
def decodeRegimm (w : Word) : Except DecodeError Instr :=
  if fRt w = 0x0#5 then .ok (.bltz (fRs w) (fImm w))
  else if fRt w = 0x1#5 then .ok (.bgez (fRs w) (fImm w))
  else if fRt w = 0x2#5 then .ok (.bltzl (fRs w) (fImm w))
  else if fRt w = 0x3#5 then .ok (.bgezl (fRs w) (fImm w))
  else if fRt w = 0x10#5 then .ok (.bltzal (fRs w) (fImm w))
  else if fRt w = 0x11#5 then .ok (.bgezal (fRs w) (fImm w))
  else if fRt w = 0x12#5 then .ok (.bltzall (fRs w) (fImm w))
  else if fRt w = 0x13#5 then .ok (.bgezall (fRs w) (fImm w))
  else .error .unknownOpcode

/-- The BSHFL sub-map of SPECIAL3, by `w[10:6]` (R133). -/
def decodeBshfl (w : Word) : Except DecodeError Instr :=
  if fSa w = 0x2#5 then .ok (.wsbh (fRt w) (fRd w))
  else if fSa w = 0x3#5 then .ok (.wsbw (fRt w) (fRd w))
  else if fSa w = 0x10#5 then .ok (.seb (fRt w) (fRd w))
  else if fSa w = 0x14#5 then .ok (.bitrev (fRt w) (fRd w))
  else if fSa w = 0x18#5 then .ok (.seh (fRt w) (fRd w))
  else .error .unknownOpcode

/-- The SPECIAL3 map, by `funct` (R133). -/
def decodeSpecial3 (w : Word) : Except DecodeError Instr :=
  if fFunct w = 0x0#6 then .ok (.ext (fRs w) (fRt w) (fRd w) (fSa w))
  else if fFunct w = 0x4#6 then .ok (.ins (fRs w) (fRt w) (fRd w) (fSa w))
  else if fFunct w = 0x20#6 then decodeBshfl w
  else .error .unknownOpcode

/-- The COP1 branches, by `w[17:16]` (R134). -/
def decodeBc1 (w : Word) : Except DecodeError Instr :=
  if fTf w = 0x0#2 then .ok (.bc1f (fImm w))
  else if fTf w = 0x1#2 then .ok (.bc1t (fImm w))
  else if fTf w = 0x2#2 then .ok (.bc1fl (fImm w))
  else .ok (.bc1tl (fImm w))

/-- The S-format group of COP1, by `funct` (R134). -/
def decodeCop1S (w : Word) : Except DecodeError Instr :=
  if fFunct w = 0x0#6 then .ok (.addS (fRt w) (fRd w) (fSa w))
  else if fFunct w = 0x1#6 then .ok (.subS (fRt w) (fRd w) (fSa w))
  else if fFunct w = 0x2#6 then .ok (.mulS (fRt w) (fRd w) (fSa w))
  else if fFunct w = 0x3#6 then .ok (.divS (fRt w) (fRd w) (fSa w))
  else if fFunct w = 0x4#6 then .ok (.sqrtS (fRd w) (fSa w))
  else if fFunct w = 0x5#6 then .ok (.absS (fRd w) (fSa w))
  else if fFunct w = 0x6#6 then .ok (.movS (fRd w) (fSa w))
  else if fFunct w = 0x7#6 then .ok (.negS (fRd w) (fSa w))
  else if fFunct w = 0xc#6 then .ok (.roundWS (fRd w) (fSa w))
  else if fFunct w = 0xd#6 then .ok (.truncWS (fRd w) (fSa w))
  else if fFunct w = 0xe#6 then .ok (.ceilWS (fRd w) (fSa w))
  else if fFunct w = 0xf#6 then .ok (.floorWS (fRd w) (fSa w))
  else if fFunct w = 0x24#6 then .ok (.cvtWS (fRd w) (fSa w))
  else if fFunct w = 0x30#6 then .ok (.cFS (fRt w) (fRd w))
  else if fFunct w = 0x31#6 then .ok (.cUnS (fRt w) (fRd w))
  else if fFunct w = 0x32#6 then .ok (.cEqS (fRt w) (fRd w))
  else if fFunct w = 0x33#6 then .ok (.cUeqS (fRt w) (fRd w))
  else if fFunct w = 0x34#6 then .ok (.cOltS (fRt w) (fRd w))
  else if fFunct w = 0x35#6 then .ok (.cUltS (fRt w) (fRd w))
  else if fFunct w = 0x36#6 then .ok (.cOleS (fRt w) (fRd w))
  else if fFunct w = 0x37#6 then .ok (.cUleS (fRt w) (fRd w))
  else if fFunct w = 0x38#6 then .ok (.cSfS (fRt w) (fRd w))
  else if fFunct w = 0x39#6 then .ok (.cNgleS (fRt w) (fRd w))
  else if fFunct w = 0x3a#6 then .ok (.cSeqS (fRt w) (fRd w))
  else if fFunct w = 0x3b#6 then .ok (.cNglS (fRt w) (fRd w))
  else if fFunct w = 0x3c#6 then .ok (.cLtS (fRt w) (fRd w))
  else if fFunct w = 0x3d#6 then .ok (.cNgeS (fRt w) (fRd w))
  else if fFunct w = 0x3e#6 then .ok (.cLeS (fRt w) (fRd w))
  else if fFunct w = 0x3f#6 then .ok (.cNgtS (fRt w) (fRd w))
  else .error .unknownOpcode

/-- The COP1 map, by `fmt = w[25:21]` (R134). -/
def decodeCop1 (w : Word) : Except DecodeError Instr :=
  if fRs w = 0x0#5 then .ok (.mfc1 (fRt w) (fRd w))
  else if fRs w = 0x2#5 then .ok (.cfc1 (fRt w) (fRd w))
  else if fRs w = 0x4#5 then .ok (.mtc1 (fRt w) (fRd w))
  else if fRs w = 0x6#5 then .ok (.ctc1 (fRt w) (fRd w))
  else if fRs w = 0x8#5 then decodeBc1 w
  else if fRs w = 0x10#5 then decodeCop1S w
  else if fRs w = 0x14#5 then if fFunct w = 0x20#6 then .ok (.cvtSW (fRd w) (fSa w)) else .error .unknownOpcode
  else .error .unknownOpcode

/-- The VFPU branches, by `w[17:16]` (R126). -/
def decodeBv (w : Word) : Except DecodeError Instr :=
  if fTf w = 0x0#2 then .ok (.bvf (fCc w) (fImm w))
  else if fTf w = 0x1#2 then .ok (.bvt (fCc w) (fImm w))
  else if fTf w = 0x2#2 then .ok (.bvfl (fCc w) (fImm w))
  else .ok (.bvtl (fCc w) (fImm w))

/-- The COP2 map, by `w[25:21]` (R135). -/
def decodeCop2 (w : Word) : Except DecodeError Instr :=
  if fRs w = 0x3#5 then if fBit7 w = 0#1 then .ok (.mfv (fRt w) (fIdx w)) else .ok (.mfvc (fRt w) (fVd w))
  else if fRs w = 0x7#5 then if fBit7 w = 0#1 then .ok (.mtv (fRt w) (fIdx w)) else .ok (.mtvc (fRt w) (fVd w))
  else if fRs w = 0x8#5 then decodeBv w
  else .error .unknownVfpu

/-- VFPU0, by `w[25:23]` (R136). -/
def decodeVfpu0 (w : Word) : Except DecodeError Instr :=
  if fSub3 w = 0x0#3 then .ok (.vadd (fVd w) (fVs w) (fVt w) (fSize w))
  else if fSub3 w = 0x1#3 then .ok (.vsub (fVd w) (fVs w) (fVt w) (fSize w))
  else if fSub3 w = 0x2#3 then .ok (.vsbn (fVd w) (fVs w) (fVt w) (fSize w))
  else if fSub3 w = 0x7#3 then .ok (.vdiv (fVd w) (fVs w) (fVt w) (fSize w))
  else .error .unknownVfpu

/-- VFPU1, by `w[25:23]` (R136). -/
def decodeVfpu1 (w : Word) : Except DecodeError Instr :=
  if fSub3 w = 0x0#3 then .ok (.vmul (fVd w) (fVs w) (fVt w) (fSize w))
  else if fSub3 w = 0x1#3 then .ok (.vdot (fVd w) (fVs w) (fVt w) (fSize w))
  else if fSub3 w = 0x2#3 then .ok (.vscl (fVd w) (fVs w) (fVt w) (fSize w))
  else if fSub3 w = 0x4#3 then .ok (.vhdp (fVd w) (fVs w) (fVt w) (fSize w))
  else if fSub3 w = 0x5#3 then .ok (.vcrsT (fVd w) (fVs w) (fVt w) (fSize w))
  else if fSub3 w = 0x6#3 then .ok (.vdetP (fVd w) (fVs w) (fVt w) (fSize w))
  else .error .unknownVfpu

/-- VFPU3, by `w[25:23]` (R136). -/
def decodeVfpu3 (w : Word) : Except DecodeError Instr :=
  if fSub3 w = 0x0#3 then .ok (.vcmp (fVs w) (fVt w) (fSize w) (fCond w))
  else if fSub3 w = 0x2#3 then .ok (.vmin (fVd w) (fVs w) (fVt w) (fSize w))
  else if fSub3 w = 0x3#3 then .ok (.vmax (fVd w) (fVs w) (fVt w) (fSize w))
  else if fSub3 w = 0x5#3 then .ok (.vscmp (fVd w) (fVs w) (fVt w) (fSize w))
  else if fSub3 w = 0x6#3 then .ok (.vsge (fVd w) (fVs w) (fVt w) (fSize w))
  else if fSub3 w = 0x7#3 then .ok (.vslt (fVd w) (fVs w) (fVt w) (fSize w))
  else .error .unknownVfpu

/-- The VFPU4 one-operand group, by `w[20:16]` (R138). -/
def decodeVfpu4One (w : Word) : Except DecodeError Instr :=
  if fRt w = 0x0#5 then .ok (.vmov (fVd w) (fVs w) (fSize w))
  else if fRt w = 0x1#5 then .ok (.vabs (fVd w) (fVs w) (fSize w))
  else if fRt w = 0x2#5 then .ok (.vneg (fVd w) (fVs w) (fSize w))
  else if fRt w = 0x3#5 then .ok (.vidt (fVd w) (fVs w) (fSize w))
  else if fRt w = 0x4#5 then .ok (.vsat0 (fVd w) (fVs w) (fSize w))
  else if fRt w = 0x5#5 then .ok (.vsat1 (fVd w) (fVs w) (fSize w))
  else if fRt w = 0x6#5 then .ok (.vzero (fVd w) (fVs w) (fSize w))
  else if fRt w = 0x7#5 then .ok (.vone (fVd w) (fVs w) (fSize w))
  else if fRt w = 0x10#5 then .ok (.vrcp (fVd w) (fVs w) (fSize w))
  else if fRt w = 0x11#5 then .ok (.vrsq (fVd w) (fVs w) (fSize w))
  else if fRt w = 0x12#5 then .ok (.vsin (fVd w) (fVs w) (fSize w))
  else if fRt w = 0x13#5 then .ok (.vcos (fVd w) (fVs w) (fSize w))
  else if fRt w = 0x14#5 then .ok (.vexp2 (fVd w) (fVs w) (fSize w))
  else if fRt w = 0x15#5 then .ok (.vlog2 (fVd w) (fVs w) (fSize w))
  else if fRt w = 0x16#5 then .ok (.vsqrt (fVd w) (fVs w) (fSize w))
  else if fRt w = 0x17#5 then .ok (.vasin (fVd w) (fVs w) (fSize w))
  else if fRt w = 0x18#5 then .ok (.vnrcp (fVd w) (fVs w) (fSize w))
  else if fRt w = 0x1a#5 then .ok (.vnsin (fVd w) (fVs w) (fSize w))
  else if fRt w = 0x1c#5 then .ok (.vrexp2 (fVd w) (fVs w) (fSize w))
  else .error .unknownVfpu

/-- The VFPU4 conversion group, by `w[20:16]` (R139). -/
def decodeVfpu4Conv (w : Word) : Except DecodeError Instr :=
  if fRt w = 0x0#5 then .ok (.vrnds (fVd w) (fVs w) (fSize w))
  else if fRt w = 0x1#5 then .ok (.vrndi (fVd w) (fVs w) (fSize w))
  else if fRt w = 0x2#5 then .ok (.vrndf1 (fVd w) (fVs w) (fSize w))
  else if fRt w = 0x3#5 then .ok (.vrndf2 (fVd w) (fVs w) (fSize w))
  else if fRt w = 0x12#5 then .ok (.vf2h (fVd w) (fVs w) (fSize w))
  else if fRt w = 0x13#5 then .ok (.vh2f (fVd w) (fVs w) (fSize w))
  else if fRt w = 0x16#5 then .ok (.vsbz (fVd w) (fVs w) (fSize w))
  else if fRt w = 0x17#5 then .ok (.vlgb (fVd w) (fVs w) (fSize w))
  else if fRt w = 0x18#5 then .ok (.vuc2i (fVd w) (fVs w) (fSize w))
  else if fRt w = 0x19#5 then .ok (.vc2i (fVd w) (fVs w) (fSize w))
  else if fRt w = 0x1a#5 then .ok (.vus2i (fVd w) (fVs w) (fSize w))
  else if fRt w = 0x1b#5 then .ok (.vs2i (fVd w) (fVs w) (fSize w))
  else if fRt w = 0x1c#5 then .ok (.vi2uc (fVd w) (fVs w) (fSize w))
  else if fRt w = 0x1d#5 then .ok (.vi2c (fVd w) (fVs w) (fSize w))
  else if fRt w = 0x1e#5 then .ok (.vi2us (fVd w) (fVs w) (fSize w))
  else if fRt w = 0x1f#5 then .ok (.vi2s (fVd w) (fVs w) (fSize w))
  else .error .unknownVfpu

/-- The VFPU4 miscellaneous group, by `w[20:16]` (R140). -/
def decodeVfpu4Misc (w : Word) : Except DecodeError Instr :=
  if fRt w = 0x0#5 then .ok (.vsrt1 (fVd w) (fVs w) (fSize w))
  else if fRt w = 0x1#5 then .ok (.vsrt2 (fVd w) (fVs w) (fSize w))
  else if fRt w = 0x2#5 then .ok (.vbfy1 (fVd w) (fVs w) (fSize w))
  else if fRt w = 0x3#5 then .ok (.vbfy2 (fVd w) (fVs w) (fSize w))
  else if fRt w = 0x4#5 then .ok (.vocp (fVd w) (fVs w) (fSize w))
  else if fRt w = 0x5#5 then .ok (.vsocp (fVd w) (fVs w) (fSize w))
  else if fRt w = 0x6#5 then .ok (.vfad (fVd w) (fVs w) (fSize w))
  else if fRt w = 0x7#5 then .ok (.vavg (fVd w) (fVs w) (fSize w))
  else if fRt w = 0x8#5 then .ok (.vsrt3 (fVd w) (fVs w) (fSize w))
  else if fRt w = 0x9#5 then .ok (.vsrt4 (fVd w) (fVs w) (fSize w))
  else if fRt w = 0xa#5 then .ok (.vsgn (fVd w) (fVs w) (fSize w))
  else if fRt w = 0x10#5 then .ok (.vmfvc (fVd w) (fVs w))
  else if fRt w = 0x11#5 then .ok (.vmtvc (fVs w) (fVd w))
  else if fRt w = 0x19#5 then .ok (.vt4444 (fVd w) (fVs w) (fSize w))
  else if fRt w = 0x1a#5 then .ok (.vt5551 (fVd w) (fVs w) (fSize w))
  else if fRt w = 0x1b#5 then .ok (.vt5650 (fVd w) (fVs w) (fSize w))
  else .error .unknownVfpu

/-- VFPU4, by `j = w[25:21]` (R137). -/
def decodeVfpu4 (w : Word) : Except DecodeError Instr :=
  if fRs w = 0x0#5 then decodeVfpu4One w
  else if fRs w = 0x1#5 then decodeVfpu4Conv w
  else if fRs w = 0x2#5 then decodeVfpu4Misc w
  else if fRs w = 0x3#5 then .ok (.vcst (fVd w) (fRt w) (fSize w))
  else if fRs w = 0x10#5 then .ok (.vf2in (fVd w) (fVs w) (fRt w) (fSize w))
  else if fRs w = 0x11#5 then .ok (.vf2iz (fVd w) (fVs w) (fRt w) (fSize w))
  else if fRs w = 0x12#5 then .ok (.vf2iu (fVd w) (fVs w) (fRt w) (fSize w))
  else if fRs w = 0x13#5 then .ok (.vf2id (fVd w) (fVs w) (fRt w) (fSize w))
  else if fRs w = 0x14#5 then .ok (.vi2f (fVd w) (fVs w) (fRt w) (fSize w))
  else if fRs w = 0x15#5 then if fBit19 w = 0#1 then .ok (.vcmovt (fVd w) (fVs w) (fImm3 w) (fSize w)) else .ok (.vcmovf (fVd w) (fVs w) (fImm3 w) (fSize w))
  else if fSub2 w = 3#2 then .ok (.vwbn (fVd w) (fVs w) (fImm8 w) (fSize w)) else .error .unknownVfpu

/-- VFPU5, by `w[25:23]` (R141). -/
def decodeVfpu5 (w : Word) : Except DecodeError Instr :=
  if fSub3 w = 0x6#3 then .ok (.viimS (fVt w) (fImm w))
  else if fSub3 w = 0x7#3 then .ok (.vfimS (fVt w) (fImm w))
  else if fSub2 w = 0#2 then .ok (.vpfxs (fData20 w)) else if fSub2 w = 1#2 then .ok (.vpfxt (fData20 w)) else .ok (.vpfxd (fData12 w))

/-- The matrix-set group of VFPU6, by `w[19:16]` (R141). -/
def decodeMatrixSet (w : Word) : Except DecodeError Instr :=
  if fMsel w = 0x0#4 then .ok (.vmmov (fVd w) (fVs w) (fSize w))
  else if fMsel w = 0x3#4 then .ok (.vmidt (fVd w) (fVs w) (fSize w))
  else if fMsel w = 0x6#4 then .ok (.vmzero (fVd w) (fVs w) (fSize w))
  else if fMsel w = 0x7#4 then .ok (.vmone (fVd w) (fVs w) (fSize w))
  else .error .unknownVfpu

/-- VFPU6, by `w[25:23]`, then by the size field or by `w[22:21]` (R141). -/
def decodeVfpu6 (w : Word) : Except DecodeError Instr :=
  if fSub3 w = 0x0#3 then .ok (.vmmul (fVd w) (fVs w) (fVt w) (fSize w))
  else if fSub3 w = 0x1#3 then if fSize w = .pair then .ok (.vtfm2P (fVd w) (fVs w) (fVt w)) else if fSize w = .single then .ok (.vhtfm2P (fVd w) (fVs w) (fVt w)) else .error .unknownVfpu
  else if fSub3 w = 0x2#3 then if fSize w = .triple then .ok (.vtfm3T (fVd w) (fVs w) (fVt w)) else if fSize w = .pair then .ok (.vhtfm3T (fVd w) (fVs w) (fVt w)) else .error .unknownVfpu
  else if fSub3 w = 0x3#3 then if fSize w = .quad then .ok (.vtfm4Q (fVd w) (fVs w) (fVt w)) else if fSize w = .triple then .ok (.vhtfm4Q (fVd w) (fVs w) (fVt w)) else .error .unknownVfpu
  else if fSub3 w = 0x4#3 then .ok (.vmscl (fVd w) (fVs w) (fVt w) (fSize w))
  else if fSub3 w = 0x5#3 then if fSize w = .triple then .ok (.vcrspT (fVd w) (fVs w) (fVt w)) else if fSize w = .quad then .ok (.vqmulQ (fVd w) (fVs w) (fVt w)) else .error .unknownVfpu
  else if fSub3 w = 0x7#3 then if fMset w = 0#2 then decodeMatrixSet w else if fMset w = 1#2 then .ok (.vrot (fVd w) (fVs w) (fRt w) (fSize w)) else .error .unknownVfpu
  else .error .unknownVfpu

/-- VFPU7: three whole words (R141). -/
def decodeVfpu7 (w : Word) : Except DecodeError Instr :=
  if w = 0xffff0000#32 then .ok (.vnop)
  else if w = 0xffff0320#32 then .ok (.vsync)
  else if w = 0xffff040d#32 then .ok (.vflush)
  else .error .unknownVfpu

/-- The decoder: the primary opcode map (R130), total on every word (R129). -/
def decode (w : Word) : Except DecodeError Instr :=
  if fOp w = 0x0#6 then decodeSpecial w
  else if fOp w = 0x1#6 then decodeRegimm w
  else if fOp w = 0x2#6 then .ok (.j (fTarget w))
  else if fOp w = 0x3#6 then .ok (.jal (fTarget w))
  else if fOp w = 0x4#6 then .ok (.beq (fRs w) (fRt w) (fImm w))
  else if fOp w = 0x5#6 then .ok (.bne (fRs w) (fRt w) (fImm w))
  else if fOp w = 0x6#6 then .ok (.blez (fRs w) (fRt w) (fImm w))
  else if fOp w = 0x7#6 then .ok (.bgtz (fRs w) (fRt w) (fImm w))
  else if fOp w = 0x8#6 then .ok (.addi (fRs w) (fRt w) (fImm w))
  else if fOp w = 0x9#6 then .ok (.addiu (fRs w) (fRt w) (fImm w))
  else if fOp w = 0xa#6 then .ok (.slti (fRs w) (fRt w) (fImm w))
  else if fOp w = 0xb#6 then .ok (.sltiu (fRs w) (fRt w) (fImm w))
  else if fOp w = 0xc#6 then .ok (.andi (fRs w) (fRt w) (fImm w))
  else if fOp w = 0xd#6 then .ok (.ori (fRs w) (fRt w) (fImm w))
  else if fOp w = 0xe#6 then .ok (.xori (fRs w) (fRt w) (fImm w))
  else if fOp w = 0xf#6 then .ok (.lui (fRt w) (fImm w))
  else if fOp w = 0x11#6 then decodeCop1 w
  else if fOp w = 0x12#6 then decodeCop2 w
  else if fOp w = 0x14#6 then .ok (.beql (fRs w) (fRt w) (fImm w))
  else if fOp w = 0x15#6 then .ok (.bnel (fRs w) (fRt w) (fImm w))
  else if fOp w = 0x16#6 then .ok (.blezl (fRs w) (fRt w) (fImm w))
  else if fOp w = 0x17#6 then .ok (.bgtzl (fRs w) (fRt w) (fImm w))
  else if fOp w = 0x18#6 then decodeVfpu0 w
  else if fOp w = 0x19#6 then decodeVfpu1 w
  else if fOp w = 0x1b#6 then decodeVfpu3 w
  else if fOp w = 0x1f#6 then decodeSpecial3 w
  else if fOp w = 0x20#6 then .ok (.lb (fRs w) (fRt w) (fImm w))
  else if fOp w = 0x21#6 then .ok (.lh (fRs w) (fRt w) (fImm w))
  else if fOp w = 0x22#6 then .ok (.lwl (fRs w) (fRt w) (fImm w))
  else if fOp w = 0x23#6 then .ok (.lw (fRs w) (fRt w) (fImm w))
  else if fOp w = 0x24#6 then .ok (.lbu (fRs w) (fRt w) (fImm w))
  else if fOp w = 0x25#6 then .ok (.lhu (fRs w) (fRt w) (fImm w))
  else if fOp w = 0x26#6 then .ok (.lwr (fRs w) (fRt w) (fImm w))
  else if fOp w = 0x28#6 then .ok (.sb (fRs w) (fRt w) (fImm w))
  else if fOp w = 0x29#6 then .ok (.sh (fRs w) (fRt w) (fImm w))
  else if fOp w = 0x2a#6 then .ok (.swl (fRs w) (fRt w) (fImm w))
  else if fOp w = 0x2b#6 then .ok (.sw (fRs w) (fRt w) (fImm w))
  else if fOp w = 0x2e#6 then .ok (.swr (fRs w) (fRt w) (fImm w))
  else if fOp w = 0x2f#6 then .ok (.cache (fRs w) (fRt w) (fImm w))
  else if fOp w = 0x30#6 then .ok (.ll (fRs w) (fRt w) (fImm w))
  else if fOp w = 0x31#6 then .ok (.lwc1 (fRs w) (fRt w) (fImm w))
  else if fOp w = 0x32#6 then .ok (.lvS (fRs w) (fRt w) (fOff w) (fVthi2 w))
  else if fOp w = 0x34#6 then decodeVfpu4 w
  else if fOp w = 0x35#6 then if fBit1 w = 0#1 then .ok (.lvlQ (fRs w) (fRt w) (fOff w) (fVthi1 w)) else .ok (.lvrQ (fRs w) (fRt w) (fOff w) (fVthi1 w))
  else if fOp w = 0x36#6 then .ok (.lvQ (fRs w) (fRt w) (fOff w) (fVthi1 w))
  else if fOp w = 0x37#6 then decodeVfpu5 w
  else if fOp w = 0x38#6 then .ok (.sc (fRs w) (fRt w) (fImm w))
  else if fOp w = 0x39#6 then .ok (.swc1 (fRs w) (fRt w) (fImm w))
  else if fOp w = 0x3a#6 then .ok (.svS (fRs w) (fRt w) (fOff w) (fVthi2 w))
  else if fOp w = 0x3c#6 then decodeVfpu6 w
  else if fOp w = 0x3d#6 then if fBit1 w = 0#1 then .ok (.svlQ (fRs w) (fRt w) (fOff w) (fVthi1 w)) else .ok (.svrQ (fRs w) (fRt w) (fOff w) (fVthi1 w))
  else if fOp w = 0x3e#6 then .ok (.svQ (fRs w) (fRt w) (fOff w) (fVthi1 w) (fBit1 w))
  else if fOp w = 0x3f#6 then decodeVfpu7 w
  else .error .unknownOpcode

/-- The word of four bytes, the first at the lowest address: little-endian (20_memory.md R90, R95). -/
def wordOfBytes (b0 b1 b2 b3 : Byte) : Word := b3 ++ b2 ++ b1 ++ b0

/-- Decoding a list of bytes: one word is consumed, the rest is given back (R120). -/
def decodeBytes (bytes : List Byte) : Except DecodeError (Instr × List Byte) :=
  match bytes with
  | b0 :: b1 :: b2 :: b3 :: rest =>
    match decode (wordOfBytes b0 b1 b2 b3) with
    | .ok i => .ok (i, rest)
    | .error e => .error e
  | _ => .error .truncated

/-- The four bytes of a word as memory holds them (20_memory.md R91). -/
def bytesOfWord (w : Word) : List Byte :=
  [w.extractLsb' 0 8, w.extractLsb' 8 8, w.extractLsb' 16 8, w.extractLsb' 24 8]

/-- What the decoder reads from an instruction whose bits are `w`, laid out as the hardware stores them; every row of the opcode table
has 32 bits, so bits of `w` above `nbits` do not count. -/
def decodeTableWord (nbits w : Nat) : Option Instr :=
  match decodeBytes (bytesOfWord (BitVec.ofNat 32 (w % 2 ^ nbits))) with
  | .ok (i, _) => some i
  | .error _ => none

/-! ### The encoder -/

/-- Bit `lo` of a size (R124: `w[7]`). -/
def Size.lo (sz : Size) : BitVec 1 :=
  match sz with
  | .single => 0#1 | .pair => 1#1 | .triple => 0#1 | .quad => 1#1

/-- Bit `hi` of a size (R124: `w[15]`). -/
def Size.hi (sz : Size) : BitVec 1 :=
  match sz with
  | .single => 0#1 | .pair => 0#1 | .triple => 1#1 | .quad => 1#1

/-- The R format (R122), COP1 arithmetic and moves (R123) and SPECIAL3 (R122): `op || rs || rt || rd || sa || funct`. -/
def encR (op : BitVec 6) (rs rt rd sa : BitVec 5) (funct : BitVec 6) : Word := op ++ rs ++ rt ++ rd ++ sa ++ funct

/-- The I format (R122): `op || rs || rt || imm`. -/
def encI (op : BitVec 6) (rs rt : BitVec 5) (imm : Half) : Word := op ++ rs ++ rt ++ imm

/-- The J format (R122): `op || target`. -/
def encJ (op : BitVec 6) (target : BitVec 26) : Word := op ++ target

/-- The code format of `syscall` and `break` (R404, R405): `op || code || funct`. -/
def encCode (op : BitVec 6) (code : BitVec 20) (funct : BitVec 6) : Word := op ++ code ++ funct

/-- A COP1 or VFPU branch (R123, R126): `op || sub || cc || tf || imm`. -/
def encBranch (op : BitVec 6) (sub : BitVec 5) (cc : BitVec 3) (tf : BitVec 2) (imm : Half) : Word := op ++ sub ++ cc ++ tf ++ imm

/-- The COP2 transfers (R126): `op || sub || rt || 0 || idx`. -/
def encCop2 (op : BitVec 6) (sub rt : BitVec 5) (idx : BitVec 8) : Word := op ++ sub ++ rt ++ 0#8 ++ idx

/-- The VFPU arithmetic format (R124): `op || sub || vt || w[15] || vs || w[7] || vd`. -/
def encV3 (op : BitVec 6) (sub : BitVec 3) (vt : VReg) (hi : BitVec 1) (vs : VReg) (lo : BitVec 1) (vd : VReg) : Word :=
  op ++ sub ++ vt ++ hi ++ vs ++ lo ++ vd

/-- The VFPU4 format (R124, R137): `op || j || code || w[15] || vs || w[7] || vd`. -/
def encV4 (op : BitVec 6) (j code : BitVec 5) (hi : BitVec 1) (vs : VReg) (lo : BitVec 1) (vd : VReg) : Word :=
  op ++ j ++ code ++ hi ++ vs ++ lo ++ vd

/-- `vcmovt`/`vcmovf` (R126): `op || j || 0 || tf || imm3 || w[15] || vs || w[7] || vd`. -/
def encCmov (op : BitVec 6) (j : BitVec 5) (tf : BitVec 1) (imm3 : BitVec 3) (hi : BitVec 1) (vs : VReg) (lo : BitVec 1) (vd : VReg) :
    Word := op ++ j ++ 0#1 ++ tf ++ imm3 ++ hi ++ vs ++ lo ++ vd

/-- `vwbn` (R126): `op || w[25:24] || imm8 || w[15] || vs || w[7] || vd`. -/
def encWbn (op : BitVec 6) (sub : BitVec 2) (imm8 : BitVec 8) (hi : BitVec 1) (vs : VReg) (lo : BitVec 1) (vd : VReg) : Word :=
  op ++ sub ++ imm8 ++ hi ++ vs ++ lo ++ vd

/-- `vpfxs`, `vpfxt`, and with `data` zero-extended `vpfxd` (R126): `op || w[25:24] || 0 || data`. -/
def encPfx (op : BitVec 6) (sub : BitVec 2) (data : BitVec 20) : Word := op ++ sub ++ 0#4 ++ data

/-- `viim.s`, `vfim.s` (R126): `op || w[25:23] || vt || imm16`. -/
def encVim (op : BitVec 6) (sub : BitVec 3) (vt : VReg) (imm16 : Half) : Word := op ++ sub ++ vt ++ imm16

/-- The VFPU memory format (R125): `op || rs || vt5 || off || w[1:0]`. -/
def encVMem (op : BitVec 6) (rs vt5 : BitVec 5) (off : BitVec 14) (low : BitVec 2) : Word := op ++ rs ++ vt5 ++ off ++ low

/-- The word of an instruction, from the encoding tables of 30_encoding.md; bits the instruction ignores are 0 [log 26]. -/
def encode (i : Instr) : Word :=
  match i with
  | .sll rt rd sa => encR 0x0#6 0x0#5 rt rd sa 0x0#6
  | .sra rt rd sa => encR 0x0#6 0x0#5 rt rd sa 0x3#6
  | .sllv rs rt rd sa => encR 0x0#6 rs rt rd sa 0x4#6
  | .srav rs rt rd sa => encR 0x0#6 rs rt rd sa 0x7#6
  | .jr rs => encR 0x0#6 rs 0x0#5 0x0#5 0x0#5 0x8#6
  | .jalr rs rd => encR 0x0#6 rs 0x0#5 rd 0x0#5 0x9#6
  | .movz rs rt rd sa => encR 0x0#6 rs rt rd sa 0xa#6
  | .movn rs rt rd sa => encR 0x0#6 rs rt rd sa 0xb#6
  | .syscall code => encCode 0x0#6 code 0xc#6
  | .brk code => encCode 0x0#6 code 0xd#6
  | .sync stype => encR 0x0#6 0x0#5 0x0#5 0x0#5 stype 0xf#6
  | .mfhi rd => encR 0x0#6 0x0#5 0x0#5 rd 0x0#5 0x10#6
  | .mthi rs => encR 0x0#6 rs 0x0#5 0x0#5 0x0#5 0x11#6
  | .mflo rd => encR 0x0#6 0x0#5 0x0#5 rd 0x0#5 0x12#6
  | .mtlo rs => encR 0x0#6 rs 0x0#5 0x0#5 0x0#5 0x13#6
  | .clz rs rd => encR 0x0#6 rs 0x0#5 rd 0x0#5 0x16#6
  | .clo rs rd => encR 0x0#6 rs 0x0#5 rd 0x0#5 0x17#6
  | .mult rs rt => encR 0x0#6 rs rt 0x0#5 0x0#5 0x18#6
  | .multu rs rt => encR 0x0#6 rs rt 0x0#5 0x0#5 0x19#6
  | .div rs rt => encR 0x0#6 rs rt 0x0#5 0x0#5 0x1a#6
  | .divu rs rt => encR 0x0#6 rs rt 0x0#5 0x0#5 0x1b#6
  | .madd rs rt => encR 0x0#6 rs rt 0x0#5 0x0#5 0x1c#6
  | .maddu rs rt => encR 0x0#6 rs rt 0x0#5 0x0#5 0x1d#6
  | .add rs rt rd sa => encR 0x0#6 rs rt rd sa 0x20#6
  | .addu rs rt rd sa => encR 0x0#6 rs rt rd sa 0x21#6
  | .sub rs rt rd sa => encR 0x0#6 rs rt rd sa 0x22#6
  | .subu rs rt rd sa => encR 0x0#6 rs rt rd sa 0x23#6
  | .and rs rt rd sa => encR 0x0#6 rs rt rd sa 0x24#6
  | .or rs rt rd sa => encR 0x0#6 rs rt rd sa 0x25#6
  | .xor rs rt rd sa => encR 0x0#6 rs rt rd sa 0x26#6
  | .nor rs rt rd sa => encR 0x0#6 rs rt rd sa 0x27#6
  | .slt rs rt rd sa => encR 0x0#6 rs rt rd sa 0x2a#6
  | .sltu rs rt rd sa => encR 0x0#6 rs rt rd sa 0x2b#6
  | .max rs rt rd sa => encR 0x0#6 rs rt rd sa 0x2c#6
  | .min rs rt rd sa => encR 0x0#6 rs rt rd sa 0x2d#6
  | .msub rs rt => encR 0x0#6 rs rt 0x0#5 0x0#5 0x2e#6
  | .msubu rs rt => encR 0x0#6 rs rt 0x0#5 0x0#5 0x2f#6
  | .srl rt rd sa => encR 0x0#6 0x0#5 rt rd sa 0x2#6
  | .rotr rt rd sa => encR 0x0#6 0x1#5 rt rd sa 0x2#6
  | .srlv rs rt rd sa => encR 0x0#6 rs rt rd sa 0x6#6
  | .rotrv rs rt rd sa => encR 0x0#6 rs rt rd sa 0x6#6
  | .bltz rs imm => encI 0x1#6 rs 0x0#5 imm
  | .bgez rs imm => encI 0x1#6 rs 0x1#5 imm
  | .bltzl rs imm => encI 0x1#6 rs 0x2#5 imm
  | .bgezl rs imm => encI 0x1#6 rs 0x3#5 imm
  | .bltzal rs imm => encI 0x1#6 rs 0x10#5 imm
  | .bgezal rs imm => encI 0x1#6 rs 0x11#5 imm
  | .bltzall rs imm => encI 0x1#6 rs 0x12#5 imm
  | .bgezall rs imm => encI 0x1#6 rs 0x13#5 imm
  | .j target => encJ 0x2#6 target
  | .jal target => encJ 0x3#6 target
  | .beq rs rt imm => encI 0x4#6 rs rt imm
  | .bne rs rt imm => encI 0x5#6 rs rt imm
  | .blez rs rt imm => encI 0x6#6 rs rt imm
  | .bgtz rs rt imm => encI 0x7#6 rs rt imm
  | .addi rs rt imm => encI 0x8#6 rs rt imm
  | .addiu rs rt imm => encI 0x9#6 rs rt imm
  | .slti rs rt imm => encI 0xa#6 rs rt imm
  | .sltiu rs rt imm => encI 0xb#6 rs rt imm
  | .andi rs rt imm => encI 0xc#6 rs rt imm
  | .ori rs rt imm => encI 0xd#6 rs rt imm
  | .xori rs rt imm => encI 0xe#6 rs rt imm
  | .lui rt imm => encI 0xf#6 0x0#5 rt imm
  | .beql rs rt imm => encI 0x14#6 rs rt imm
  | .bnel rs rt imm => encI 0x15#6 rs rt imm
  | .blezl rs rt imm => encI 0x16#6 rs rt imm
  | .bgtzl rs rt imm => encI 0x17#6 rs rt imm
  | .lb rs rt imm => encI 0x20#6 rs rt imm
  | .lh rs rt imm => encI 0x21#6 rs rt imm
  | .lwl rs rt imm => encI 0x22#6 rs rt imm
  | .lw rs rt imm => encI 0x23#6 rs rt imm
  | .lbu rs rt imm => encI 0x24#6 rs rt imm
  | .lhu rs rt imm => encI 0x25#6 rs rt imm
  | .lwr rs rt imm => encI 0x26#6 rs rt imm
  | .sb rs rt imm => encI 0x28#6 rs rt imm
  | .sh rs rt imm => encI 0x29#6 rs rt imm
  | .swl rs rt imm => encI 0x2a#6 rs rt imm
  | .sw rs rt imm => encI 0x2b#6 rs rt imm
  | .swr rs rt imm => encI 0x2e#6 rs rt imm
  | .cache rs op imm => encI 0x2f#6 rs op imm
  | .ll rs rt imm => encI 0x30#6 rs rt imm
  | .lwc1 rs ft imm => encI 0x31#6 rs ft imm
  | .sc rs rt imm => encI 0x38#6 rs rt imm
  | .swc1 rs ft imm => encI 0x39#6 rs ft imm
  | .ext rs rt msbd lsb => encR 0x1f#6 rs rt msbd lsb 0x0#6
  | .ins rs rt msb lsb => encR 0x1f#6 rs rt msb lsb 0x4#6
  | .wsbh rt rd => encR 0x1f#6 0x0#5 rt rd 0x2#5 0x20#6
  | .wsbw rt rd => encR 0x1f#6 0x0#5 rt rd 0x3#5 0x20#6
  | .seb rt rd => encR 0x1f#6 0x0#5 rt rd 0x10#5 0x20#6
  | .bitrev rt rd => encR 0x1f#6 0x0#5 rt rd 0x14#5 0x20#6
  | .seh rt rd => encR 0x1f#6 0x0#5 rt rd 0x18#5 0x20#6
  | .mfc1 rt fs => encR 0x11#6 0x0#5 rt fs 0x0#5 0x0#6
  | .cfc1 rt fs => encR 0x11#6 0x2#5 rt fs 0x0#5 0x0#6
  | .mtc1 rt fs => encR 0x11#6 0x4#5 rt fs 0x0#5 0x0#6
  | .ctc1 rt fs => encR 0x11#6 0x6#5 rt fs 0x0#5 0x0#6
  | .bc1f imm => encBranch 0x11#6 0x8#5 0x0#3 0#2 imm
  | .bc1t imm => encBranch 0x11#6 0x8#5 0x0#3 1#2 imm
  | .bc1fl imm => encBranch 0x11#6 0x8#5 0x0#3 2#2 imm
  | .bc1tl imm => encBranch 0x11#6 0x8#5 0x0#3 3#2 imm
  | .addS ft fs fd => encR 0x11#6 0x10#5 ft fs fd 0x0#6
  | .subS ft fs fd => encR 0x11#6 0x10#5 ft fs fd 0x1#6
  | .mulS ft fs fd => encR 0x11#6 0x10#5 ft fs fd 0x2#6
  | .divS ft fs fd => encR 0x11#6 0x10#5 ft fs fd 0x3#6
  | .sqrtS fs fd => encR 0x11#6 0x10#5 0x0#5 fs fd 0x4#6
  | .absS fs fd => encR 0x11#6 0x10#5 0x0#5 fs fd 0x5#6
  | .movS fs fd => encR 0x11#6 0x10#5 0x0#5 fs fd 0x6#6
  | .negS fs fd => encR 0x11#6 0x10#5 0x0#5 fs fd 0x7#6
  | .roundWS fs fd => encR 0x11#6 0x10#5 0x0#5 fs fd 0xc#6
  | .truncWS fs fd => encR 0x11#6 0x10#5 0x0#5 fs fd 0xd#6
  | .ceilWS fs fd => encR 0x11#6 0x10#5 0x0#5 fs fd 0xe#6
  | .floorWS fs fd => encR 0x11#6 0x10#5 0x0#5 fs fd 0xf#6
  | .cvtWS fs fd => encR 0x11#6 0x10#5 0x0#5 fs fd 0x24#6
  | .cvtSW fs fd => encR 0x11#6 0x14#5 0x0#5 fs fd 0x20#6
  | .cFS ft fs => encR 0x11#6 0x10#5 ft fs 0x0#5 0x30#6
  | .cUnS ft fs => encR 0x11#6 0x10#5 ft fs 0x0#5 0x31#6
  | .cEqS ft fs => encR 0x11#6 0x10#5 ft fs 0x0#5 0x32#6
  | .cUeqS ft fs => encR 0x11#6 0x10#5 ft fs 0x0#5 0x33#6
  | .cOltS ft fs => encR 0x11#6 0x10#5 ft fs 0x0#5 0x34#6
  | .cUltS ft fs => encR 0x11#6 0x10#5 ft fs 0x0#5 0x35#6
  | .cOleS ft fs => encR 0x11#6 0x10#5 ft fs 0x0#5 0x36#6
  | .cUleS ft fs => encR 0x11#6 0x10#5 ft fs 0x0#5 0x37#6
  | .cSfS ft fs => encR 0x11#6 0x10#5 ft fs 0x0#5 0x38#6
  | .cNgleS ft fs => encR 0x11#6 0x10#5 ft fs 0x0#5 0x39#6
  | .cSeqS ft fs => encR 0x11#6 0x10#5 ft fs 0x0#5 0x3a#6
  | .cNglS ft fs => encR 0x11#6 0x10#5 ft fs 0x0#5 0x3b#6
  | .cLtS ft fs => encR 0x11#6 0x10#5 ft fs 0x0#5 0x3c#6
  | .cNgeS ft fs => encR 0x11#6 0x10#5 ft fs 0x0#5 0x3d#6
  | .cLeS ft fs => encR 0x11#6 0x10#5 ft fs 0x0#5 0x3e#6
  | .cNgtS ft fs => encR 0x11#6 0x10#5 ft fs 0x0#5 0x3f#6
  | .mfv rt idx => encCop2 0x12#6 0x3#5 rt idx
  | .mfvc rt c => encCop2 0x12#6 0x3#5 rt (1#1 ++ c)
  | .mtv rt idx => encCop2 0x12#6 0x7#5 rt idx
  | .mtvc rt c => encCop2 0x12#6 0x7#5 rt (1#1 ++ c)
  | .bvf cc imm => encBranch 0x12#6 0x8#5 cc 0#2 imm
  | .bvt cc imm => encBranch 0x12#6 0x8#5 cc 1#2 imm
  | .bvfl cc imm => encBranch 0x12#6 0x8#5 cc 2#2 imm
  | .bvtl cc imm => encBranch 0x12#6 0x8#5 cc 3#2 imm
  | .vadd vd vs vt sz => encV3 0x18#6 0#3 vt sz.hi vs sz.lo vd
  | .vsub vd vs vt sz => encV3 0x18#6 1#3 vt sz.hi vs sz.lo vd
  | .vsbn vd vs vt sz => encV3 0x18#6 2#3 vt sz.hi vs sz.lo vd
  | .vdiv vd vs vt sz => encV3 0x18#6 7#3 vt sz.hi vs sz.lo vd
  | .vmul vd vs vt sz => encV3 0x19#6 0#3 vt sz.hi vs sz.lo vd
  | .vdot vd vs vt sz => encV3 0x19#6 1#3 vt sz.hi vs sz.lo vd
  | .vscl vd vs vt sz => encV3 0x19#6 2#3 vt sz.hi vs sz.lo vd
  | .vhdp vd vs vt sz => encV3 0x19#6 4#3 vt sz.hi vs sz.lo vd
  | .vcrsT vd vs vt sz => encV3 0x19#6 5#3 vt sz.hi vs sz.lo vd
  | .vdetP vd vs vt sz => encV3 0x19#6 6#3 vt sz.hi vs sz.lo vd
  | .vcmp vs vt sz cond => encV3 0x1b#6 0#3 vt sz.hi vs sz.lo (0#3 ++ cond)
  | .vmin vd vs vt sz => encV3 0x1b#6 2#3 vt sz.hi vs sz.lo vd
  | .vmax vd vs vt sz => encV3 0x1b#6 3#3 vt sz.hi vs sz.lo vd
  | .vscmp vd vs vt sz => encV3 0x1b#6 5#3 vt sz.hi vs sz.lo vd
  | .vsge vd vs vt sz => encV3 0x1b#6 6#3 vt sz.hi vs sz.lo vd
  | .vslt vd vs vt sz => encV3 0x1b#6 7#3 vt sz.hi vs sz.lo vd
  | .vmov vd vs sz => encV4 0x34#6 0x0#5 0x0#5 sz.hi vs sz.lo vd
  | .vabs vd vs sz => encV4 0x34#6 0x0#5 0x1#5 sz.hi vs sz.lo vd
  | .vneg vd vs sz => encV4 0x34#6 0x0#5 0x2#5 sz.hi vs sz.lo vd
  | .vidt vd vs sz => encV4 0x34#6 0x0#5 0x3#5 sz.hi vs sz.lo vd
  | .vsat0 vd vs sz => encV4 0x34#6 0x0#5 0x4#5 sz.hi vs sz.lo vd
  | .vsat1 vd vs sz => encV4 0x34#6 0x0#5 0x5#5 sz.hi vs sz.lo vd
  | .vzero vd vs sz => encV4 0x34#6 0x0#5 0x6#5 sz.hi vs sz.lo vd
  | .vone vd vs sz => encV4 0x34#6 0x0#5 0x7#5 sz.hi vs sz.lo vd
  | .vrcp vd vs sz => encV4 0x34#6 0x0#5 0x10#5 sz.hi vs sz.lo vd
  | .vrsq vd vs sz => encV4 0x34#6 0x0#5 0x11#5 sz.hi vs sz.lo vd
  | .vsin vd vs sz => encV4 0x34#6 0x0#5 0x12#5 sz.hi vs sz.lo vd
  | .vcos vd vs sz => encV4 0x34#6 0x0#5 0x13#5 sz.hi vs sz.lo vd
  | .vexp2 vd vs sz => encV4 0x34#6 0x0#5 0x14#5 sz.hi vs sz.lo vd
  | .vlog2 vd vs sz => encV4 0x34#6 0x0#5 0x15#5 sz.hi vs sz.lo vd
  | .vsqrt vd vs sz => encV4 0x34#6 0x0#5 0x16#5 sz.hi vs sz.lo vd
  | .vasin vd vs sz => encV4 0x34#6 0x0#5 0x17#5 sz.hi vs sz.lo vd
  | .vnrcp vd vs sz => encV4 0x34#6 0x0#5 0x18#5 sz.hi vs sz.lo vd
  | .vnsin vd vs sz => encV4 0x34#6 0x0#5 0x1a#5 sz.hi vs sz.lo vd
  | .vrexp2 vd vs sz => encV4 0x34#6 0x0#5 0x1c#5 sz.hi vs sz.lo vd
  | .vrnds vd vs sz => encV4 0x34#6 0x1#5 0x0#5 sz.hi vs sz.lo vd
  | .vrndi vd vs sz => encV4 0x34#6 0x1#5 0x1#5 sz.hi vs sz.lo vd
  | .vrndf1 vd vs sz => encV4 0x34#6 0x1#5 0x2#5 sz.hi vs sz.lo vd
  | .vrndf2 vd vs sz => encV4 0x34#6 0x1#5 0x3#5 sz.hi vs sz.lo vd
  | .vf2h vd vs sz => encV4 0x34#6 0x1#5 0x12#5 sz.hi vs sz.lo vd
  | .vh2f vd vs sz => encV4 0x34#6 0x1#5 0x13#5 sz.hi vs sz.lo vd
  | .vsbz vd vs sz => encV4 0x34#6 0x1#5 0x16#5 sz.hi vs sz.lo vd
  | .vlgb vd vs sz => encV4 0x34#6 0x1#5 0x17#5 sz.hi vs sz.lo vd
  | .vuc2i vd vs sz => encV4 0x34#6 0x1#5 0x18#5 sz.hi vs sz.lo vd
  | .vc2i vd vs sz => encV4 0x34#6 0x1#5 0x19#5 sz.hi vs sz.lo vd
  | .vus2i vd vs sz => encV4 0x34#6 0x1#5 0x1a#5 sz.hi vs sz.lo vd
  | .vs2i vd vs sz => encV4 0x34#6 0x1#5 0x1b#5 sz.hi vs sz.lo vd
  | .vi2uc vd vs sz => encV4 0x34#6 0x1#5 0x1c#5 sz.hi vs sz.lo vd
  | .vi2c vd vs sz => encV4 0x34#6 0x1#5 0x1d#5 sz.hi vs sz.lo vd
  | .vi2us vd vs sz => encV4 0x34#6 0x1#5 0x1e#5 sz.hi vs sz.lo vd
  | .vi2s vd vs sz => encV4 0x34#6 0x1#5 0x1f#5 sz.hi vs sz.lo vd
  | .vsrt1 vd vs sz => encV4 0x34#6 0x2#5 0x0#5 sz.hi vs sz.lo vd
  | .vsrt2 vd vs sz => encV4 0x34#6 0x2#5 0x1#5 sz.hi vs sz.lo vd
  | .vbfy1 vd vs sz => encV4 0x34#6 0x2#5 0x2#5 sz.hi vs sz.lo vd
  | .vbfy2 vd vs sz => encV4 0x34#6 0x2#5 0x3#5 sz.hi vs sz.lo vd
  | .vocp vd vs sz => encV4 0x34#6 0x2#5 0x4#5 sz.hi vs sz.lo vd
  | .vsocp vd vs sz => encV4 0x34#6 0x2#5 0x5#5 sz.hi vs sz.lo vd
  | .vfad vd vs sz => encV4 0x34#6 0x2#5 0x6#5 sz.hi vs sz.lo vd
  | .vavg vd vs sz => encV4 0x34#6 0x2#5 0x7#5 sz.hi vs sz.lo vd
  | .vsrt3 vd vs sz => encV4 0x34#6 0x2#5 0x8#5 sz.hi vs sz.lo vd
  | .vsrt4 vd vs sz => encV4 0x34#6 0x2#5 0x9#5 sz.hi vs sz.lo vd
  | .vsgn vd vs sz => encV4 0x34#6 0x2#5 0xa#5 sz.hi vs sz.lo vd
  | .vt4444 vd vs sz => encV4 0x34#6 0x2#5 0x19#5 sz.hi vs sz.lo vd
  | .vt5551 vd vs sz => encV4 0x34#6 0x2#5 0x1a#5 sz.hi vs sz.lo vd
  | .vt5650 vd vs sz => encV4 0x34#6 0x2#5 0x1b#5 sz.hi vs sz.lo vd
  | .vmfvc vd c => encV4 0x34#6 0x2#5 0x10#5 0#1 c 0#1 vd
  | .vmtvc vs c => encV4 0x34#6 0x2#5 0x11#5 0#1 vs 0#1 c
  | .vcst vd k sz => encV4 0x34#6 0x3#5 k sz.hi 0x0#7 sz.lo vd
  | .vf2in vd vs scale sz => encV4 0x34#6 0x10#5 scale sz.hi vs sz.lo vd
  | .vf2iz vd vs scale sz => encV4 0x34#6 0x11#5 scale sz.hi vs sz.lo vd
  | .vf2iu vd vs scale sz => encV4 0x34#6 0x12#5 scale sz.hi vs sz.lo vd
  | .vf2id vd vs scale sz => encV4 0x34#6 0x13#5 scale sz.hi vs sz.lo vd
  | .vi2f vd vs scale sz => encV4 0x34#6 0x14#5 scale sz.hi vs sz.lo vd
  | .vcmovt vd vs imm3 sz => encCmov 0x34#6 0x15#5 0#1 imm3 sz.hi vs sz.lo vd
  | .vcmovf vd vs imm3 sz => encCmov 0x34#6 0x15#5 1#1 imm3 sz.hi vs sz.lo vd
  | .vwbn vd vs imm8 sz => encWbn 0x34#6 3#2 imm8 sz.hi vs sz.lo vd
  | .vpfxs data => encPfx 0x37#6 0#2 data
  | .vpfxt data => encPfx 0x37#6 1#2 data
  | .vpfxd data => encPfx 0x37#6 2#2 (0#8 ++ data)
  | .viimS vt imm16 => encVim 0x37#6 6#3 vt imm16
  | .vfimS vt imm16 => encVim 0x37#6 7#3 vt imm16
  | .vmmul vd vs vt sz => encV3 0x3c#6 0#3 vt sz.hi vs sz.lo vd
  | .vtfm2P vd vs vt => encV3 0x3c#6 1#3 vt 0#1 vs 1#1 vd
  | .vhtfm2P vd vs vt => encV3 0x3c#6 1#3 vt 0#1 vs 0#1 vd
  | .vtfm3T vd vs vt => encV3 0x3c#6 2#3 vt 1#1 vs 0#1 vd
  | .vhtfm3T vd vs vt => encV3 0x3c#6 2#3 vt 0#1 vs 1#1 vd
  | .vtfm4Q vd vs vt => encV3 0x3c#6 3#3 vt 1#1 vs 1#1 vd
  | .vhtfm4Q vd vs vt => encV3 0x3c#6 3#3 vt 1#1 vs 0#1 vd
  | .vmscl vd vs vt sz => encV3 0x3c#6 4#3 vt sz.hi vs sz.lo vd
  | .vcrspT vd vs vt => encV3 0x3c#6 5#3 vt 1#1 vs 0#1 vd
  | .vqmulQ vd vs vt => encV3 0x3c#6 5#3 vt 1#1 vs 1#1 vd
  | .vmmov vd vs sz => encV4 0x3c#6 0x1c#5 0x0#5 sz.hi vs sz.lo vd
  | .vmidt vd vs sz => encV4 0x3c#6 0x1c#5 0x3#5 sz.hi vs sz.lo vd
  | .vmzero vd vs sz => encV4 0x3c#6 0x1c#5 0x6#5 sz.hi vs sz.lo vd
  | .vmone vd vs sz => encV4 0x3c#6 0x1c#5 0x7#5 sz.hi vs sz.lo vd
  | .vrot vd vs imm5 sz => encV4 0x3c#6 0x1d#5 imm5 sz.hi vs sz.lo vd
  | .vnop => 0xFFFF0000#32
  | .vsync => 0xFFFF0320#32
  | .vflush => 0xFFFF040D#32
  | .lvS rs vt5 off vthi => encVMem 0x32#6 rs vt5 off vthi
  | .svS rs vt5 off vthi => encVMem 0x3a#6 rs vt5 off vthi
  | .lvQ rs vt5 off vthi => encVMem 0x36#6 rs vt5 off (0#1 ++ vthi)
  | .svQ rs vt5 off vthi wb => encVMem 0x3e#6 rs vt5 off (wb ++ vthi)
  | .lvlQ rs vt5 off vthi => encVMem 0x35#6 rs vt5 off (0#1 ++ vthi)
  | .lvrQ rs vt5 off vthi => encVMem 0x35#6 rs vt5 off (1#1 ++ vthi)
  | .svlQ rs vt5 off vthi => encVMem 0x3d#6 rs vt5 off (0#1 ++ vthi)
  | .svrQ rs vt5 off vthi => encVMem 0x3d#6 rs vt5 off (1#1 ++ vthi)

end Sys2Proof
end

