-- ==== Sys2Proof/Config.lean ====
section
/-! DEFINITION. Config.lean: the parameters of 00_scope.md R8. Those that are plain data are the fields of `Params`, which the state
carries unchanged [log 1]; those that are functions the spec leaves open, and every value it draws (R12), are opaque constants: no
statement can see what they are [log 9, 10, 12, 13, 14, 29]. -/

namespace Sys2Proof

/-- `RESET_REG_POLICY` (70_reset_and_hazards.md R743). -/
inductive ResetRegPolicy where
  | zero
  | unwritten
  deriving DecidableEq, Repr

/-- `SAT2_POLICY` (45_vfpu_engine.md R435). -/
inductive Sat2Policy where
  | draw
  | passthrough
  deriving DecidableEq, Repr

/-- The values of `INVALID_SWIZZLE(op)` (45_vfpu_engine.md R434). -/
inductive SwizzlePolicy where
  | zero
  | priorDest
  | draw
  deriving DecidableEq, Repr

/-- The four memory windows (20_memory.md R81). -/
inductive WindowKind where
  | scratchpad
  | vram
  | kernelRam
  | userRam
  deriving DecidableEq, Repr

/-- One window: the addresses `base`, ..., `base + size - 1` (20_memory.md R81). -/
structure Window where
  kind : WindowKind
  base : Nat
  size : Nat
  deriving DecidableEq, Repr

/-- The VFPU instructions that read an operand through a prefix: the arguments `op` of `INVALID_SWIZZLE(op)` and `PREFIX_OVERRIDE(op)`
(45_vfpu_engine.md R434, R441). -/
inductive VfpuOp where
  | vadd | vsub | vsbn | vdiv | vmul | vdot | vscl | vhdp | vcrs | vdet | vcmp | vmin | vmax | vscmp | vsge | vslt
  | vmov | vabs | vneg | vidt | vsat0 | vsat1 | vzero | vone
  | vrcp | vrsq | vsin | vcos | vexp2 | vlog2 | vsqrt | vasin | vnrcp | vnsin | vrexp2
  | vrnds | vrndi | vrndf1 | vrndf2 | vf2h | vh2f | vuc2i | vc2i | vus2i | vs2i | vi2uc | vi2c | vi2us | vi2s
  | vsrt1 | vsrt2 | vbfy1 | vbfy2 | vocp | vsocp | vfad | vavg | vsrt3 | vsrt4 | vsgn | vt4444 | vt5551 | vt5650
  | vcst | vf2in | vf2iz | vf2iu | vf2id | vi2f | vcmovt | vcmovf | viim | vfim | vcrsp | vqmul | vrot
  deriving DecidableEq, Repr

/-- The commands of the scheduler (48_scheduler.md R654 to R693). -/
inductive Command where
  | createThread | startThread | exitThread | exitDeleteThread | deleteThread | getThreadId
  | sleepThread | sleepThreadCB | wakeupThread | delayThread | delayThreadCB | waitThreadEnd
  | rotateThreadReadyQueue | changeThreadPriority
  | createSema | deleteSema | signalSema | waitSema | waitSemaCB | pollSema
  | createEventFlag | deleteEventFlag | setEventFlag | clearEventFlag | waitEventFlag | waitEventFlagCB | pollEventFlag
  | createCallback | deleteCallback | notifyCallback | checkCallback
  | setAlarm | cancelAlarm
  | registerSubIntrHandler | releaseSubIntrHandler | enableSubIntr | disableSubIntr | cpuSuspendIntr | cpuResumeIntr
  deriving DecidableEq, Repr

/-- The kernel result codes (92_eei_decisions.md D31, D85): `OK` and the distinct negative error words. -/
structure ErrorCodes where
  ok : Word
  waitTimeout : Word
  illegalPriority : Word
  unknownUid : Word
  semaOvf : Word
  semaZero : Word
  evfCond : Word
  illegalMode : Word
  notDormant : Word
  dormant : Word
  illegalCount : Word
  noMemory : Word
  deriving DecidableEq, Repr

/-- What D31 asks of the kernel result codes: `OK` is no error, and the errors are distinct words with bit 31 set. -/
def ErrorCodes.wf (e : ErrorCodes) : Bool :=
  let errors := [e.waitTimeout, e.illegalPriority, e.unknownUid, e.semaOvf, e.semaZero, e.evfCond, e.illegalMode, e.notDormant,
    e.dormant, e.illegalCount, e.noMemory]
  !e.ok.getLsbD 31 && errors.all (fun w => w.getLsbD 31) && decide errors.Nodup

/-- One entry of `PREFIX_OVERRIDE` (45_vfpu_engine.md R439): the bits it removes from and adds to the S, T and D prefixes. -/
structure PrefixOverride where
  sRemove : Word
  sAdd : Word
  tRemove : Word
  tAdd : Word
  dRemove : Word
  dAdd : Word
  deriving DecidableEq, Repr

/-- The values of `DISPLAY_STEP` (92_eei_decisions.md D78). -/
inductive DisplayPolicy where
  /-- The default: memory stays as it is. -/
  | identity
  /-- The bytes that `Config.displayWrites` names are written. -/
  | writes
  deriving DecidableEq, Repr

/-- The plain-data parameters of 00_scope.md R8. -/
structure Params where
  /-- `WINDOWS` (20_memory.md R81). -/
  windows : List Window
  /-- `DIVU0_SMALL_LO` (40_alu.md R245). -/
  divu0SmallLo : Word
  /-- `RESET_REG_POLICY` (70_reset_and_hazards.md R743). -/
  resetRegPolicy : ResetRegPolicy
  /-- `SAT2_POLICY` (45_vfpu_engine.md R435). -/
  sat2Policy : Sat2Policy
  /-- `INVALID_SWIZZLE`: the instructions whose policy is not `Zero` (45_vfpu_engine.md R434). -/
  invalidSwizzle : List (VfpuOp × SwizzlePolicy)
  /-- `PREFIX_OVERRIDE`: the entries that replace those of the table of 45_vfpu_engine.md R441. -/
  prefixOverrides : List ((VfpuOp × Size) × PrefixOverride)
  /-- `FTZ` (92_eei_decisions.md D25). -/
  ftz : Bool
  /-- `OVERFLOW_TRAPS` (40_alu.md R210). -/
  overflowTraps : Bool
  /-- `CYCLES_PER_INSN` (48_scheduler.md R641). -/
  cyclesPerInsn : Nat
  /-- `QUANTUM_CYCLES` (48_scheduler.md R627), OPEN. -/
  quantumCycles : Nat
  /-- `FRAME_BUDGET` (48_scheduler.md R627), OPEN. -/
  frameBudget : Nat
  /-- `READY_CAPACITY` (48_scheduler.md R624), OPEN. -/
  readyCapacity : Nat
  /-- `THREAD_EXIT_ADDR` (92_eei_decisions.md D29), OPEN. -/
  threadExitAddr : Word
  /-- `HANDLER_RETURN_ADDR` (92_eei_decisions.md D29), OPEN. -/
  handlerReturnAddr : Word
  /-- `DELAY_MIN_US` (48_scheduler.md R648). -/
  delayMinUs : Nat
  /-- `DELAY_FLOOR_US` (48_scheduler.md R648). -/
  delayFloorUs : Nat
  /-- `DELAY_HUGE` (48_scheduler.md R648), OPEN. -/
  delayHuge : Nat
  /-- `ERR_*` (92_eei_decisions.md D31, D85). -/
  err : ErrorCodes
  /-- `NID_MAP` (44_system.md R401): the pairs (address, NID), OPEN. -/
  nidMap : List (Word × Word)
  /-- `KERNEL_NID` (48_scheduler.md R651): the pairs (NID, command), OPEN. -/
  kernelNid : List (Word × Command)
  /-- The pairs (number, sub-number) of the set `INTR_SOURCES` (60_exceptions.md R707), in any order, OPEN. -/
  intrSources : List (Word × Word)
  /-- `DISPLAY_STEP` (48_scheduler.md R629). -/
  displayStep : DisplayPolicy
  /-- `INITIAL_MEMORY` (20_memory.md R86): the bytes at reset in the canonical form of `Memory`, a byte it does not list being 0. -/
  initialMemory : List (Nat × Byte)
  /-- `BOOT_PRIORITY` (92_eei_decisions.md D97). -/
  bootPriority : Nat
  /-- `BOOT_ARG_SIZE` (92_eei_decisions.md D97). -/
  bootArgSize : Word
  /-- `BOOT_ARG_PTR` (92_eei_decisions.md D97). -/
  bootArgPtr : Word
  /-- The loader's entry point (70_reset_and_hazards.md R741), OPEN. -/
  bootEntry : Word
  /-- The loader's initial stack pointer (70_reset_and_hazards.md R741), OPEN. -/
  bootSp : Word
  /-- The loader's gp value (70_reset_and_hazards.md R741), OPEN. -/
  bootGp : Word
  deriving DecidableEq, Repr

/-- The parameters at the spec's defaults; an OPEN one without a default has the value of [log 5] or [log 6]. -/
def Params.default : Params where
  windows := [⟨.scratchpad, 0x00010000, 0x00004000⟩, ⟨.vram, 0x04000000, 0x00200000⟩,
    ⟨.kernelRam, 0x08000000, 0x00800000⟩, ⟨.userRam, 0x08800000, 0x01800000⟩]
  divu0SmallLo := 0x0000FFFF#32
  resetRegPolicy := .zero
  sat2Policy := .draw
  invalidSwizzle := []
  prefixOverrides :=                             -- vbfy1 as R563 says, for the entry of R441's table [log 41]
    [((.vbfy1, .pair), ⟨0#32, 0x000A0000#32, 0x000FFFFF#32, 0x000000B1#32, 0#32, 0#32⟩),
     ((.vbfy1, .quad), ⟨0#32, 0x000A0000#32, 0x000FFFFF#32, 0x000000B1#32, 0#32, 0#32⟩)]
  ftz := false
  overflowTraps := false
  cyclesPerInsn := 1
  quantumCycles := 100000                        -- DESIGN CHOICE [log 6]
  frameBudget := 3700000                         -- DESIGN CHOICE [log 6]
  readyCapacity := 256                           -- DESIGN CHOICE [log 6]
  threadExitAddr := 0x087FFFF0#32                -- DESIGN CHOICE [log 6]
  handlerReturnAddr := 0x087FFFF8#32             -- DESIGN CHOICE [log 6]
  delayMinUs := 200
  delayFloorUs := 210
  delayHuge := 0x80000000                        -- DESIGN CHOICE [log 6]
  err :=
    { ok := 0#32, waitTimeout := 0x800201A8#32, illegalPriority := 0x80020193#32, unknownUid := 0x80020198#32,
      semaOvf := 0x8002019A#32, semaZero := 0x800201AD#32, evfCond := 0x800201AF#32, illegalMode := 0x8002019B#32,
      notDormant := 0x800201A4#32, dormant := 0x800201A2#32, illegalCount := 0x800201BD#32, noMemory := 0x800200D9#32 }
  nidMap := []                                   -- DESIGN CHOICE [log 6]
  kernelNid := []                                -- DESIGN CHOICE [log 6]
  intrSources := []                              -- DESIGN CHOICE [log 6]
  displayStep := .identity
  initialMemory := []                            -- no image [log 3]
  bootPriority := 0x20
  bootArgSize := 0#32
  bootArgPtr := 0#32
  bootEntry := 0x08804000#32                     -- DESIGN CHOICE [log 5]
  bootSp := 0x09FFFF00#32                        -- DESIGN CHOICE [log 5]
  bootGp := 0#32                                 -- DESIGN CHOICE [log 5]

/-- `CPU_HZ`, cycles a second (70_reset_and_hazards.md R760). -/
abbrev Config.cpuHz : Nat := 222000000

/-- `UNCACHED_MIRROR` (20_memory.md R82). -/
abbrev Config.uncachedMirror : Nat := 0x40000000

/-- `PRIO_MIN`, the most urgent priority (00_scope.md R8). -/
abbrev Config.prioMin : Nat := 0x08

/-- `PRIO_MAX`, the least urgent priority (00_scope.md R8). -/
abbrev Config.prioMax : Nat := 0x77

/-- `fcr0` (10_state.md R38). -/
abbrev Config.fcr0 : Word := 0x00003351#32

/-- The `n`-th free value of a run: every `draw` of 00_scope.md R12 is read from it [log 9]. -/
opaque Config.freeWord : Nat → Word

/-- `VFPU_DOT` on `k` lane pairs, `k` in 1 to 4 (45_vfpu_engine.md R456; D20) [log 10]. -/
opaque Config.vfpuDot : List Word → List Word → Word

/-- `rcp` of `VFPU_APPROX` (45_vfpu_engine.md R457; D21) [log 10]. -/
opaque Config.vfpuRcp : Word → Word

/-- `rsq` of `VFPU_APPROX` [log 10]. -/
opaque Config.vfpuRsq : Word → Word

/-- `sin` of `VFPU_APPROX` [log 10]. -/
opaque Config.vfpuSin : Word → Word

/-- `cos` of `VFPU_APPROX` [log 10]. -/
opaque Config.vfpuCos : Word → Word

/-- `exp2` of `VFPU_APPROX` [log 10]. -/
opaque Config.vfpuExp2 : Word → Word

/-- `log2` of `VFPU_APPROX` [log 10]. -/
opaque Config.vfpuLog2 : Word → Word

/-- `sqrt` of `VFPU_APPROX` [log 10]. -/
opaque Config.vfpuSqrt : Word → Word

/-- `asin` of `VFPU_APPROX` [log 10]. -/
opaque Config.vfpuAsin : Word → Word

/-- The bytes that the `n`-th display list step writes, from memory alone (48_scheduler.md R629; D78) [log 29]. -/
opaque Config.displayWrites : Nat → List (Nat × Byte) → List (Word × Byte)

/-- Whether the interrupt source (number, sub-number) becomes pending at the step 5 whose draw has this number (60_exceptions.md R707;
D49) [log 14]. -/
opaque Config.intrArrives : Nat → Word × Word → Bool

/-- `PRIO_MIN` to `PRIO_MAX` (00_scope.md R8). -/
def Config.priorityOk (p : Nat) : Bool := decide (Config.prioMin ≤ p) && decide (p ≤ Config.prioMax)

end Sys2Proof
end

