-- ==== Sys2Proof/Machine/State.lean ====
section
/-! DEFINITION. Machine/State.lean: everything the spec gives the machine (10_state.md R30 to R55), as plain data, its reset
(70_reset_and_hazards.md R740 to R743), and the names under which a step stops. -/

namespace Sys2Proof.Machine

open Sys2Proof

/-- The registers of a Context (10_state.md R52): what a thread switch saves and loads. -/
structure Context where
  /-- `gpr[0..31]` (R31, R32). -/
  gpr : Vector Word 32
  /-- `fpr[0..31]` (R37). -/
  fpr : Vector Word 32
  /-- `vpr[0..127]` (R40). -/
  vpr : Vector Word 128
  /-- `vfpuCtrl[0..15]` (R41): SPFX, TPFX, DPFX, CC, INF4, RSV5, RSV6, REV, RCX0 to RCX7. -/
  vfpuCtrl : Vector Word 16
  /-- `hi` (R34). -/
  hi : Word
  /-- `lo` (R34). -/
  lo : Word
  /-- `pc` (R33). -/
  pc : Word
  /-- `fcr31` (R38). -/
  fcr31 : Word
  /-- `fpcond` (R39). -/
  fpcond : Bool
  /-- `llBit` (R36). -/
  llBit : Bool
  deriving DecidableEq, Repr

/-- The live ProcessorState (R30): a Context and the pending control transfer of R35, which no Context holds. -/
structure ProcessorState extends Context where
  /-- `branchPC` (R35). -/
  branchPC : Word
  /-- `requiredBranching` (R35). -/
  requiredBranching : Bool
  /-- `requiredJumping` (R35). -/
  requiredJumping : Bool
  deriving DecidableEq, Repr

/-- The causes of a fatal failure (60_exceptions.md R701). -/
inductive FatalCause where
  | unknownOpcode
  | unknownVfpu
  | fetchAddress
  | fetchAlign
  | dataAddress
  | misalignedData
  | syscall
  | brk
  | unmodelled
  deriving DecidableEq, Repr

/-- The spec's codes of the causes (60_exceptions.md R701). -/
def FatalCause.code (c : FatalCause) : Nat :=
  match c with
  | .unknownOpcode => 1 | .unknownVfpu => 2 | .fetchAddress => 3 | .fetchAlign => 4 | .dataAddress => 5
  | .misalignedData => 6 | .syscall => 7 | .brk => 8 | .unmodelled => 9

/-- What the processor-failed latch records (10_state.md R47, 60_exceptions.md R704). -/
structure FailRecord where
  /-- `failCause`. -/
  cause : FatalCause
  /-- `failPC`. -/
  pc : Word
  /-- `failWord`. -/
  word : Word
  /-- `failAddr`. -/
  addr : Word
  deriving DecidableEq, Repr

/-- Why a step does not exist. -/
inductive Fault where
  /-- The latch is set (R701): `step` on a latched machine, of which the spec says that no step runs again until reset (R630). Safe. -/
  | processorFailed (cause : FatalCause)
  deriving DecidableEq, Repr

/-- The refusals (60_exceptions.md R703): the cases to which the spec gives no meaning [log 8]. -/
inductive Refusal where
  /-- An arm of `exec` without a meaning. Safe. -/
  | notModelled (mnemonic : String)
  /-- 101, a branch or jump in a delay slot (41_branch.md R287): every branch and jump. Safe. -/
  | ctiInDelaySlot
  /-- 102, a matrix instruction under a non-identity prefix (45_vfpu_engine.md R461): the matrix instructions. Safe. -/
  | prefixOnMatrixOp
  /-- 103, `vsbz`, `vlgb`, `vwbn` (45_vfpu_engine.md R462). Safe. -/
  | unmodelledVfpuOp
  /-- 104, a size the instruction's rule does not define (45_vfpu_engine.md R430): the sized VFPU instructions. Safe. -/
  | vfpuBadSize
  /-- 105, the scheduler cases of D63, D68, D82, D86 (48_scheduler.md): `syscall` and the scheduler's own steps. Safe. -/
  | unmodelledKernelCase
  /-- 106, `ext` or `ins` with a field out of range (40_alu.md R254, R255). Safe. -/
  | extInsRange
  /-- 107, `vcmovt` or `vcmovf` with `imm3 = 7` (46_vfpu_vector.md R530, R531). Safe. -/
  | vfpuBadField
  /-- An external handler blocks its caller, or ends it, after an earlier action of it has already done so (48_scheduler.md R622: only a
  RUNNING thread blocks or exits). The spec gives no case [log 11]. Safe. -/
  | callerNotRunning
  /-- No fresh positive 31-bit UID is left (48_scheduler.md R621): the create commands. The spec gives no case [log 15]. Safe. -/
  | uidSpaceExhausted
  deriving DecidableEq, Repr

/-- The spec's codes of the refusals (60_exceptions.md R703); 0 for the model's own three. -/
def Refusal.code (r : Refusal) : Nat :=
  match r with
  | .notModelled _ => 0 | .ctiInDelaySlot => 101 | .prefixOnMatrixOp => 102 | .unmodelledVfpuOp => 103 | .vfpuBadSize => 104
  | .unmodelledKernelCase => 105 | .extInsRange => 106 | .vfpuBadField => 107 | .callerNotRunning => 0
  | .uidSpaceExhausted => 0

/-- The status of a thread (10_state.md R50). No rule enters or leaves SUSPEND (48_scheduler.md R623). -/
inductive ThreadStatus where
  | running
  | ready
  | waiting
  | suspend
  | dormant
  deriving DecidableEq, Repr

/-- `waitType`, `waitId` and `waitData` of a thread (10_state.md R50, 48_scheduler.md R650) as one record [log 31]. -/
inductive Wait where
  /-- Not waiting. -/
  | none
  | sleep
  | delay
  | sema (uid : Word) (need : Int)
  | eventFlag (uid pattern mode outAddr : Word)
  | threadEnd (uid : Word)
  | external (id : Word)
  deriving DecidableEq, Repr

/-- A PSPThread record (10_state.md R50). -/
structure PSPThread where
  uid : Word
  ctx : Context
  status : ThreadStatus
  priority : Nat
  wait : Wait
  /-- A value of `now`, or none. -/
  deadline : Option Nat
  stackBottom : Word
  stackSize : Word
  entry : Word
  deletePending : Bool
  callbackPending : Bool
  wakeupCount : Nat
  gp : Word
  started : Bool
  exitStatus : Word
  deriving DecidableEq, Repr

/-- A semaphore record (10_state.md R53). -/
structure Semaphore where
  uid : Word
  count : Int
  maxCount : Int
  deriving DecidableEq, Repr

/-- An event-flag record (10_state.md R53). -/
structure EventFlag where
  uid : Word
  bits : Word
  deriving DecidableEq, Repr

/-- An interrupt record (10_state.md R54), keyed by (number, sub-number). -/
structure IntrHandler where
  number : Word
  sub : Word
  handler : Word
  arg : Word
  enabled : Bool
  deriving DecidableEq, Repr

/-- An alarm record (10_state.md R54). -/
structure Alarm where
  uid : Word
  handler : Word
  arg : Word
  deadline : Nat
  deriving DecidableEq, Repr

/-- The kind of a callback (10_state.md R54). -/
inductive CallbackKind where
  | power
  | umd
  | memoryStick
  deriving DecidableEq, Repr

/-- A callback record (10_state.md R54). Its kind changes no rule (48_scheduler.md R682) [log 42]. -/
structure Callback where
  uid : Word
  kind : CallbackKind
  handler : Word
  arg : Word
  notifyCount : Nat
  notifyArg : Word
  owner : Word
  deriving DecidableEq, Repr

/-- An entry of `pendingIntr` (48_scheduler.md R640): an interrupt, or an alarm that has expired (its record is deleted, R642). -/
inductive PendingEntry where
  | interrupt (number sub : Word)
  | alarm (handler arg : Word)
  deriving DecidableEq, Repr

/-- Where the scheduler's pseudocode (48_scheduler.md R627, R628) stands between two steps of the model [log 16]. -/
inductive Phase where
  /-- Outside a call of `runInterpreterForCycles`. -/
  | host
  /-- At the loop head of the call (R627). -/
  | frame
  /-- In the run loop, step 3 (R634). -/
  | run
  /-- In step 4 (R638), with these callbacks left. -/
  | callbacks (todo : List Word)
  /-- In step 5 (R640), with this many entries left. -/
  | interrupts (left : Nat)
  /-- Before step 6 (R642). -/
  | reevaluate
  /-- Before steps 7 and 8 (R639, R643, R644). -/
  | finish
  deriving DecidableEq, Repr

/-- The scheduler state (10_state.md R49), and what the pseudocode of R627, R628 and R637 keeps between two instructions. -/
structure Scheduler where
  threads : List PSPThread
  /-- UIDs in scheduling order (48_scheduler.md R624). -/
  readyQueue : List Word
  /-- UIDs in order of entry (48_scheduler.md R625). -/
  waitingList : List Word
  current : Option Word
  now : Nat
  downcount : Int
  idleCycles : Nat
  yieldRequested : Bool
  intrEnabled : Bool
  pendingIntr : List PendingEntry
  intrHandlers : List IntrHandler
  /-- In creation order. -/
  alarms : List Alarm
  /-- In creation order. -/
  callbacks : List Callback
  semaphores : List Semaphore
  eventFlags : List EventFlag
  /-- Every UID issued so far (48_scheduler.md R621). -/
  uids : List Word
  phase : Phase
  /-- The ProcessorState that the nested run in progress saved (R637). -/
  nested : Option ProcessorState
  /-- The arguments of the calls of `runInterpreterForCycles` that the embedding application makes next; when none is left, of the calls
  after them, `FRAME_BUDGET` (R627) [log 16]. -/
  calls : List Int
  /-- The argument of the `runInterpreterForCycles` call in progress (R627), 0 for a negative one. -/
  callCycles : Nat
  /-- Its `consumed` (R627); between two calls, what the last call returned. -/
  consumed : Nat
  deriving DecidableEq, Repr

/-- Memory (20_memory.md R80 to R83): (address, byte) pairs, the address inside a window (a mirror's address less 0x40000000, so that
both aliases of R82 name one entry), strictly rising, no byte 0. An unlisted byte reads 0 (R86) [log 3]. -/
abbrev Memory := List Host.Cell

/-- The machine. -/
structure State where
  /-- The live ProcessorState. -/
  cpu : ProcessorState
  mem : Memory
  /-- The processor-failed latch and its record (R47): `none` is `failed = 0`. -/
  failure : Option FailRecord
  /-- The refusal mark and its reason (R48): `none` is `refused = 0`. -/
  refused : Option Refusal
  sched : Scheduler
  /-- The parameters, which no step changes [log 1]. -/
  cfg : Params
  /-- The instruction word under execution, for `failWord` (R704) [log 23]. -/
  ir : Word
  /-- How many free values have been taken [log 9]. -/
  drawCount : Nat
  deriving DecidableEq, Repr

/-! ### Reset -/

/-- The value of a register that R742 marks `RESET_REG_POLICY`: 0, or under `Unwritten` the `k`-th of the values drawn from `base` on
(R743). -/
def initialWord (p : Params) (base k : Nat) : Word :=
  match p.resetRegPolicy with
  | .zero => 0#32
  | .unwritten => Config.freeWord (base + k)

/-- The register file whose register `i` holds `f i`. -/
def registerFile (n : Nat) (f : Nat → Word) : Vector Word n := ⟨⟨(List.range n).map f⟩, by simp⟩

/-- How many draws one Context, or the live state, takes under `Unwritten` (R743). -/
abbrev drawsPerContext : Nat := 200

/-- The VFPU control registers at reset (R742). -/
def resetVfpuCtrl : Vector Word 16 :=
  #v[0x000000E4#32, 0x000000E4#32, 0#32, 0x0000003F#32, 0#32, 0#32, 0#32, 0x7772CEAB#32,
     0x3F800001#32, 0x3F800002#32, 0x3F800004#32, 0x3F800008#32, 0x3F800000#32, 0x3F800000#32, 0x3F800000#32, 0x3F800000#32]

/-- A Context right after reset (R742), before any seeding; its draws start at `base`. -/
def resetContext (p : Params) (base : Nat) : Context where
  gpr := registerFile 32 fun i => if i = 0 then 0#32 else initialWord p base i
  fpr := registerFile 32 fun i => initialWord p base (32 + i)
  vpr := registerFile 128 fun i => initialWord p base (64 + i)
  vfpuCtrl := resetVfpuCtrl
  hi := initialWord p base 192
  lo := initialWord p base 193
  pc := 0#32
  fcr31 := 0#32
  fpcond := false
  llBit := false

/-- The Context that `startThread` seeds (48_scheduler.md R655; 70_reset_and_hazards.md R741, R745). -/
def startContext (p : Params) (base : Nat) (entry sp gp argSize argPtr : Word) : Context :=
  let c := resetContext p base
  { c with
    pc := entry
    gpr := ((((c.gpr.set 29 sp).set 28 gp).set 31 p.threadExitAddr).set 4 argSize).set 5 argPtr }

/-- The UID of the boot thread, DESIGN CHOICE [log 15]. -/
abbrev bootUid : Word := 1#32

/-- The boot thread (R741), ready to run. -/
def bootThread (p : Params) (base : Nat) : PSPThread where
  uid := bootUid
  ctx := startContext p base p.bootEntry p.bootSp p.bootGp p.bootArgSize p.bootArgPtr
  status := .ready
  priority := p.bootPriority
  wait := .none
  deadline := none
  stackBottom := 0#32
  stackSize := 0#32
  entry := p.bootEntry
  deletePending := false
  callbackPending := false
  wakeupCount := 0
  gp := p.bootGp
  started := true
  exitStatus := 0#32

/-- The live ProcessorState at reset (R742). Its pc is the loader's entry point, which the first context load also gives it. -/
def resetProcessor (p : Params) (base : Nat) : ProcessorState :=
  { resetContext p base with
    pc := p.bootEntry
    branchPC := initialWord p base 194
    requiredBranching := false
    requiredJumping := false }

/-- The scheduler at reset (R742): the boot thread is the only thread, and READY. -/
def resetScheduler (p : Params) (base : Nat) : Scheduler where
  threads := [bootThread p base]
  readyQueue := [bootUid]
  waitingList := []
  current := none
  now := 0
  downcount := 0
  idleCycles := 0
  yieldRequested := false
  intrEnabled := true
  pendingIntr := []
  intrHandlers := []
  alarms := []
  callbacks := []
  semaphores := []
  eventFlags := []
  uids := [bootUid]
  phase := .host
  nested := none
  calls := []
  callCycles := 0
  consumed := 0

/-- The machine right after reset under given parameters (R740 to R743), memory as `INITIAL_MEMORY` says (20_memory.md R86) [log 3]. -/
def State.resetWith (p : Params) : State where
  cpu := resetProcessor p 0
  mem := p.initialMemory
  failure := none
  refused := none
  sched := resetScheduler p drawsPerContext
  cfg := p
  ir := 0#32
  drawCount := 2 * drawsPerContext

/-- The machine right after reset. -/
def State.reset : State := State.resetWith Params.default

end Sys2Proof.Machine
end

