-- ==== Sys2Proof/Machine/Ops.lean ====
section
/-! DEFINITION. Machine/Ops.lean: the named operations over memory and registers that every meaning is written in: the byte memory
(20_memory.md), the register accessors (10_state.md), ending a step (R701, R703, R282 to R284), the draws (R12), and the entry of a nested
handler and the return from it (60_exceptions.md R710, R711), the only exception-like transfer of this core (R700). -/

namespace Sys2Proof.Machine

open Sys2Proof

/-- What a meaning, a command or a step answers. -/
abbrev Result := Host.Outcome State Fault Refusal

/-! ### Memory -/

/-- The byte at an address inside a window; an unlisted byte reads 0 (20_memory.md R86) [log 3]. -/
def Memory.readByte (m : Memory) (a : Nat) : Byte :=
  match m with
  | [] => 0#8
  | (k, b) :: rest => if k = a then b else Memory.readByte rest a

/-- Writing one byte, keeping the canonical form: sorted, and a byte 0 is not listed. -/
def Memory.writeByte (m : Memory) (a : Nat) (v : Byte) : Memory :=
  match m with
  | [] => if v = 0#8 then [] else [(a, v)]
  | (k, b) :: rest =>
    if a < k then (if v = 0#8 then (k, b) :: rest else (a, v) :: (k, b) :: rest)
    else if a = k then (if v = 0#8 then rest else (a, v) :: rest)
    else (k, b) :: Memory.writeByte rest a v

/-- The canonical form: addresses strictly rising, no entry equal to what an unlisted address reads as. -/
def Memory.wf (m : Memory) : Bool :=
  match m with
  | [] => true
  | (k, b) :: rest => decide (b ≠ 0#8) && rest.all (fun c => decide (k < c.1)) && Memory.wf rest

/-- Whether address `a` lies in the window (20_memory.md R81). -/
def windowContains (w : Window) (a : Nat) : Bool := decide (w.base ≤ a) && decide (a < w.base + w.size)

/-- The window an address lies in, itself or less the mirror offset, and its address inside the window (20_memory.md R82, R83; the
offset of R83 is that address less the window's base). -/
def resolve (p : Params) (a : Word) : Option (Window × Nat) :=
  match p.windows.find? (fun w => windowContains w a.toNat) with
  | some w => some (w, a.toNat)
  | none =>
    if Config.uncachedMirror ≤ a.toNat then
      match p.windows.find? (fun w => windowContains w (a.toNat - Config.uncachedMirror)) with
      | some w => some (w, a.toNat - Config.uncachedMirror)
      | none => none
    else none

/-- The key of `Memory` that address `a` names, if it resolves (R82, R83). -/
def byteKey (p : Params) (a : Word) : Option Nat := (resolve p a).map (·.2)

/-- Whether the `n` bytes from `a` all resolve, in the same window (20_memory.md R90). -/
def bytesResolve (p : Params) (a : Word) (n : Nat) : Bool :=
  match resolve p a with
  | none => false
  | some (w, _) => (List.range n).all fun j => decide ((resolve p (a + BitVec.ofNat 32 j)).map (·.1) = some w)

/-- What is wrong with an access of `n` bytes at `a` under an alignment (20_memory.md R93, R94): the misalignment first (R706 (6)). -/
def accessFault (p : Params) (a : Word) (n align : Nat) : Option FatalCause :=
  if a.toNat % align ≠ 0 then some .misalignedData
  else if bytesResolve p a n then none
  else some .dataAddress

/-- The byte at guest address `a`; every caller has checked the access, and an address that does not resolve reads 0 [log 35]. -/
def State.loadByte (s : State) (a : Word) : Byte :=
  match byteKey s.cfg a with
  | some k => s.mem.readByte k
  | none => 0#8

/-- `MemRead(a, 2)` after its checks (20_memory.md R90). -/
def State.loadHalf (s : State) (a : Word) : Half := s.loadByte (a + 1#32) ++ s.loadByte a

/-- `MemRead(a, 4)` after its checks (20_memory.md R90). -/
def State.loadWord (s : State) (a : Word) : Word :=
  wordOfBytes (s.loadByte a) (s.loadByte (a + 1#32)) (s.loadByte (a + 2#32)) (s.loadByte (a + 3#32))

/-- `MemWrite(a, 1, v)` after its checks (20_memory.md R91). -/
def State.storeByte (s : State) (a : Word) (v : Byte) : State :=
  match byteKey s.cfg a with
  | some k => { s with mem := s.mem.writeByte k v }
  | none => s

/-- `MemWrite(a, 2, v)` after its checks (20_memory.md R91). -/
def State.storeHalf (s : State) (a : Word) (v : Half) : State :=
  (s.storeByte a (v.extractLsb' 0 8)).storeByte (a + 1#32) (v.extractLsb' 8 8)

/-- `MemWrite(a, 4, v)` after its checks (20_memory.md R91). -/
def State.storeWord (s : State) (a : Word) (v : Word) : State :=
  (((s.storeByte a (v.extractLsb' 0 8)).storeByte (a + 1#32) (v.extractLsb' 8 8)).storeByte (a + 2#32)
    (v.extractLsb' 16 8)).storeByte (a + 3#32) (v.extractLsb' 24 8)

/-! ### Registers -/

/-- `x[i]`; `x[0]` reads 0 (10_state.md R32). -/
def State.x (s : State) (i : GReg) : Word := if i = 0#5 then 0#32 else s.cpu.gpr[i.toNat]'i.isLt

/-- `x[i] <- v`; a write of `x[0]` is discarded (10_state.md R32). -/
def State.setX (s : State) (i : GReg) (v : Word) : State :=
  if i = 0#5 then s else { s with cpu := { s.cpu with gpr := s.cpu.gpr.set i.toNat v i.isLt } }

/-- `f[i]` (10_state.md R37). -/
def State.f (s : State) (i : FReg) : Word := s.cpu.fpr[i.toNat]'i.isLt

/-- `f[i] <- v`. -/
def State.setF (s : State) (i : FReg) (v : Word) : State :=
  { s with cpu := { s.cpu with fpr := s.cpu.fpr.set i.toNat v i.isLt } }

/-- `vr[k]` (10_state.md R40). -/
def State.vr (s : State) (k : VReg) : Word := s.cpu.vpr[k.toNat]'k.isLt

/-- `vr[k] <- v`. -/
def State.setVr (s : State) (k : VReg) (v : Word) : State :=
  { s with cpu := { s.cpu with vpr := s.cpu.vpr.set k.toNat v k.isLt } }

/-- The number of a VFPU control register (10_state.md R41). -/
abbrev CReg := Fin 16

/-- SPFX, TPFX, DPFX and CC (10_state.md R41). -/
abbrev CReg.spfx : CReg := 0
abbrev CReg.tpfx : CReg := 1
abbrev CReg.dpfx : CReg := 2
abbrev CReg.cc : CReg := 3

/-- `vc[k]` (10_state.md R41). -/
def State.vc (s : State) (k : CReg) : Word := s.cpu.vfpuCtrl[k.val]'k.isLt

/-- `vc[k] <- v`, without a mask. -/
def State.setVc (s : State) (k : CReg) (v : Word) : State :=
  { s with cpu := { s.cpu with vfpuCtrl := s.cpu.vfpuCtrl.set k.val v k.isLt } }

/-- The write mask of a VFPU control register, none for a read-only one (10_state.md R41). -/
def vcMask (k : CReg) : Option Word :=
  match k with
  | 0 => some 0x000FFFFF#32
  | 1 => some 0x000FFFFF#32
  | 2 => some 0x00000FFF#32
  | 3 => some 0x0000003F#32
  | 4 => some 0xFFFFFFFF#32
  | 5 => none
  | 6 => none
  | 7 => none
  | _ => some 0x3FFFFFFF#32

/-- A software write of a VFPU control register: masked, and ignored for a read-only one (10_state.md R41). -/
def State.writeVc (s : State) (k : CReg) (v : Word) : State :=
  match vcMask k with
  | some m => s.setVc k (v &&& m)
  | none => s

/-- The control register that a 7-bit number names, if it is below 16 (45_vfpu_engine.md R446, R452 to R454). -/
def cregOf (c : BitVec 7) : Option CReg := if h : c.toNat < 16 then some ⟨c.toNat, h⟩ else none

/-- `hi <- v` (10_state.md R34). -/
def State.setHi (s : State) (v : Word) : State := { s with cpu := { s.cpu with hi := v } }

/-- `lo <- v` (10_state.md R34). -/
def State.setLo (s : State) (v : Word) : State := { s with cpu := { s.cpu with lo := v } }

/-- `HL = hi || lo` (40_alu.md R203). -/
def State.hl (s : State) : DWord := s.cpu.hi ++ s.cpu.lo

/-- `HL <- v` (40_alu.md R203). -/
def State.setHl (s : State) (v : DWord) : State := (s.setHi (v.extractLsb' 32 32)).setLo (v.extractLsb' 0 32)

/-- `pc <- v` (10_state.md R33). -/
def State.setPc (s : State) (v : Word) : State := { s with cpu := { s.cpu with pc := v } }

/-- `fcr31 <- v` (10_state.md R38). -/
def State.setFcr31 (s : State) (v : Word) : State := { s with cpu := { s.cpu with fcr31 := v } }

/-- `fpcond <- b` (10_state.md R39). -/
def State.setFpcond (s : State) (b : Bool) : State := { s with cpu := { s.cpu with fpcond := b } }

/-- `llBit <- b` (10_state.md R36). -/
def State.setLlBit (s : State) (b : Bool) : State := { s with cpu := { s.cpu with llBit := b } }

/-- `fcr31` as `cfc1` reads it: bit 23 is `fpcond` (43_cop1.md R364). -/
def State.fcr31View (s : State) : Word :=
  (s.cpu.fcr31 &&& ~~~0x00800000#32) ||| (if s.cpu.fpcond then 0x00800000#32 else 0#32)

/-! ### Draws -/

/-- The `k`-th free value of the instruction under execution (00_scope.md R12) [log 9]. -/
def State.free (s : State) (k : Nat) : Word := Config.freeWord (s.drawCount + k)

/-- Moving past `n` free values. -/
def State.takeDraws (s : State) (n : Nat) : State := { s with drawCount := s.drawCount + n }

/-- How many free values one instruction may use [log 9]. -/
abbrev drawsPerInstruction : Nat := 32

/-! ### Ending a step -/

/-- Setting the processor-failed latch and its record (60_exceptions.md R701, R704): nothing else of the state changes, and a latch that
is set stays as it is. -/
def State.latchFailure (s : State) (c : FatalCause) (word addr : Word) : State :=
  match s.failure with
  | some _ => s
  | none => { s with failure := some ⟨c, s.cpu.pc, word, addr⟩ }

/-- `raise Fatal(cause)` inside an instruction (60_exceptions.md R701): the step ends with the latch set [log 7]. -/
def raise (c : FatalCause) (addr : Word) (s : State) : Result := .next (s.latchFailure c s.ir addr)

/-- `refuse(reason)` (60_exceptions.md R703): the step has no result that the spec gives [log 8]. -/
def refuse (r : Refusal) : Result := .refused r

/-- `pc <- P + 4` (41_branch.md R280, R282). -/
def State.advance (s : State) : State := s.setPc (s.cpu.pc + 4#32)

/-- An instruction that completes: its effect is in `s`, and the pc advances by 4. -/
def done (s : State) : Result := .next s.advance

/-- Going on with the state of a result, unless the step has ended in a fatal failure, a fault or a refusal. -/
def andThen (r : Result) (k : State → Result) : Result :=
  match r with
  | .next s => if s.failure.isSome then .next s else k s
  | .fault f => .fault f
  | .refused f => .refused f

/-- `pending` (10_state.md R35). -/
def State.pending (s : State) : Bool := s.cpu.requiredBranching || s.cpu.requiredJumping

/-- `latch(target)` of a conditional branch (41_branch.md R281, R282). -/
def State.latchBranch (s : State) (target : Word) : State :=
  { s with cpu := { s.cpu with branchPC := target, requiredBranching := true, pc := s.cpu.pc + 4#32 } }

/-- `latch(target)` of a jump (41_branch.md R281, R282). -/
def State.latchJump (s : State) (target : Word) : State :=
  { s with cpu := { s.cpu with branchPC := target, requiredJumping := true, pc := s.cpu.pc + 4#32 } }

/-- Delay-slot resolution (41_branch.md R280): the pending transfer is cleared and the pc is its target. -/
def State.resolveSlot (s : State) (target : Word) : State :=
  { s with cpu := { s.cpu with requiredBranching := false, requiredJumping := false, pc := target } }

/-- A branch or jump in a delay slot is refused, any other time it runs (41_branch.md R287). -/
def outsideSlot (s : State) (r : Result) : Result := if s.pending then refuse .ctiInDelaySlot else r

/-- How a conditional branch ends (41_branch.md R282 to R284): taken, not taken, or not taken and likely. -/
def branch (likely taken : Bool) (target : Word) (s : State) : State :=
  if taken then s.latchBranch target
  else if likely then s.setPc (s.cpu.pc + 8#32)
  else s.latchBranch (s.cpu.pc + 8#32)

/-! ### The poison, and nested handler runs -/

/-- Whether `x[i]` belongs to the poisoned set (44_system.md R402). -/
def isPoisoned (i : Nat) : Bool := i == 1 || (decide (4 ≤ i) && decide (i ≤ 15)) || i == 24 || i == 25

/-- The poison pattern (44_system.md R402). -/
abbrev poisonWord : Word := 0xDEADBEEF#32

/-- Writing the poison into the set of 44_system.md R402. -/
def State.poison (s : State) : State :=
  { s with cpu := { s.cpu with
      gpr := registerFile 32 fun i => if isPoisoned i then poisonWord else s.cpu.gpr[i]?.getD 0#32
      hi := poisonWord
      lo := poisonWord } }

/-- Entry of a nested handler run (48_scheduler.md R637, 60_exceptions.md R710): the whole live ProcessorState is saved in the scheduler,
the poison is written, the arguments and the return trampoline are passed, no transfer is pending, and the pc is the handler. -/
def State.enterHandler (s : State) (handler a0 a1 a2 : Word) : State :=
  let t := ((((s.poison.setX 4 a0).setX 5 a1).setX 6 a2).setX 31 s.cfg.handlerReturnAddr).resolveSlot handler
  { t with sched := { t.sched with nested := some s.cpu } }

/-- Return from a nested handler run (48_scheduler.md R637, 60_exceptions.md R711): the saved ProcessorState is restored in full; memory
and kernel objects stay as the handler left them. -/
def State.leaveHandler (s : State) (saved : ProcessorState) : State :=
  { s with cpu := saved, sched := { s.sched with nested := none } }

end Sys2Proof.Machine
end

