-- ==== Sys2Proof/Machine/Float.lean ====
section
/-! DEFINITION. Machine/Float.lean: IEEE-754 binary32 and binary16 on raw patterns (00_scope.md R14, 43_cop1.md R360, 45_vfpu_engine.md
R455, R458). A finite value is exact, `±mant * 2^exp`; an operation computes the exact result and rounds once at the end. A NaN result is
`none` here: its pattern is a draw (92_eei_decisions.md D24), which the caller supplies. -/

namespace Sys2Proof.Machine

open Sys2Proof

/-! ### Raw-bit predicates (R14) -/

/-- `SIGN` (00_scope.md R13). -/
abbrev signBit : Word := 0x80000000#32

/-- The pattern of +1.0. -/
abbrev oneWord : Word := 0x3F800000#32

/-- The pattern of -1.0. -/
abbrev minusOneWord : Word := 0xBF800000#32

/-- `exp(p) = p[30:23]`. -/
def fExp (p : Word) : Nat := (p.extractLsb' 23 8).toNat

/-- `man(p) = p[22:0]`. -/
def fMan (p : Word) : Nat := (p.extractLsb' 0 23).toNat

/-- `neg(p) = p[31]`. -/
def fNeg (p : Word) : Bool := p.getLsbD 31

/-- `isInf(p)`. -/
def isInf (p : Word) : Bool := fExp p == 0xFF && fMan p == 0

/-- `isNaN(p)`. -/
def isNaN (p : Word) : Bool := fExp p == 0xFF && fMan p != 0

/-- `isNaNorInf(p)`. -/
def isNaNorInf (p : Word) : Bool := fExp p == 0xFF

/-- `isZero(p)`. -/
def isZero (p : Word) : Bool := p.extractLsb' 0 31 == 0#31

/-! ### Values and rounding -/

/-- The integer `mant` of a finite pattern: its fraction, with the hidden bit of a normal one. -/
def fMant (p : Word) : Nat := if fExp p = 0 then fMan p else fMan p + 2 ^ 23

/-- The exponent of a finite pattern: its value is `±fMant p * 2^(fPow p)`. -/
def fPow (p : Word) : Int := if fExp p = 0 then -149 else (fExp p : Int) - 150

/-- A binary format: `prec` significant bits, `qmin` the exponent of its smallest subnormal, `inf` the pattern of its infinity. -/
structure FloatFormat where
  prec : Nat
  qmin : Int
  inf : Nat

/-- binary32. -/
abbrev binary32 : FloatFormat := ⟨24, -149, 0x7F800000⟩

/-- binary16 (45_vfpu_engine.md R458). -/
abbrev binary16 : FloatFormat := ⟨11, -24, 0x7C00⟩

/-- `m / 2^k` rounded to nearest, ties to even. The first test only keeps the powers small: there the quotient is below a half. -/
def shiftRoundEven (m k : Nat) : Nat :=
  if Nat.log2 m + 2 < k then 0
  else
    let q := m / 2 ^ k
    let r := m % 2 ^ k
    if 2 ^ k < 2 * r ∨ (2 * r = 2 ^ k ∧ q % 2 = 1) then q + 1 else q

/-- The magnitude pattern of `m * 2^q` rounded to nearest even in a format, overflow going to infinity (43_cop1.md R360). -/
def roundMagnitude (fmt : FloatFormat) (m : Nat) (q : Int) : Nat :=
  if m = 0 then 0
  else
    let q' := max (q + (Nat.log2 m : Int) - ((fmt.prec : Int) - 1)) fmt.qmin
    let r := if q' ≤ q then m * 2 ^ (q - q').toNat else shiftRoundEven m (q' - q).toNat
    min ((q' - fmt.qmin).toNat * 2 ^ (fmt.prec - 1) + r) fmt.inf

/-- The binary32 pattern of `±m * 2^q`, rounded to nearest even. -/
def roundFloat (neg : Bool) (m : Nat) (q : Int) : Word :=
  BitVec.ofNat 32 (roundMagnitude binary32 m q) ||| (if neg then signBit else 0#32)

/-- A zero with a sign. -/
def signedZero (neg : Bool) : Word := if neg then signBit else 0#32

/-- An infinity with a sign. -/
def signedInf (neg : Bool) : Word := if neg then 0xFF800000#32 else 0x7F800000#32

/-- `P(v)` of an integer times a power of two, `v = n * 2^q`; a zero is +0 (43_cop1.md R380, 46_vfpu_vector.md R529). -/
def ofScaledInt (n : Int) (q : Int) : Word := roundFloat (decide (n < 0)) n.natAbs q

/-- Flushing a subnormal to a zero of its sign when `FTZ` is on (92_eei_decisions.md D25) [log 24]. -/
def flush (ftz : Bool) (p : Word) : Word := if ftz && fExp p == 0 then p &&& signBit else p

/-- The draw of a NaN pattern from a free value: every NaN can come, and nothing else (92_eei_decisions.md D24). -/
def nanOf (free : Word) : Word := if isNaN free then free else free ||| 0x7F800001#32

/-- The pattern of a result, where a NaN is drawn. -/
def orNaN (free : Word) (r : Option Word) : Word :=
  match r with
  | some p => p
  | none => nanOf free

/-! ### Arithmetic -/

/-- The signed integer of a finite pattern at exponent `q`, at most its own. -/
def fIntAt (p : Word) (q : Int) : Int :=
  let m : Int := ((fMant p * 2 ^ (fPow p - q).toNat : Nat) : Int)
  if fNeg p then -m else m

/-- The sum of two finite patterns: exact, rounded once; an exact zero is +0 unless both are negative (IEEE-754). -/
def addFinite (a b : Word) : Word :=
  let q := min (fPow a) (fPow b)
  let v := fIntAt a q + fIntAt b q
  if v = 0 then signedZero (fNeg a && fNeg b) else roundFloat (decide (v < 0)) v.natAbs q

/-- `F(a) + F(b)` (43_cop1.md R366). -/
def fAddRaw (a b : Word) : Option Word :=
  if isNaN a || isNaN b then none
  else if isInf a then (if isInf b && (fNeg a != fNeg b) then none else some a)
  else if isInf b then some b
  else some (addFinite a b)

/-- `F(a) * F(b)` (43_cop1.md R368). -/
def fMulRaw (a b : Word) : Option Word :=
  let neg := fNeg a != fNeg b
  if isNaN a || isNaN b then none
  else if isInf a || isInf b then (if isZero a || isZero b then none else some (signedInf neg))
  else some (roundFloat neg (fMant a * fMant b) (fPow a + fPow b))

/-- The quotient of two finite patterns, the divisor not zero: 50 further bits, then a sticky bit for the remainder. -/
def divFinite (a b : Word) : Word :=
  let m := fMant a * 2 ^ 50
  let sticky := if m % fMant b = 0 then 0 else 1
  roundFloat (fNeg a != fNeg b) (2 * (m / fMant b) + sticky) (fPow a - fPow b - 51)

/-- `F(a) / F(b)` (43_cop1.md R369). -/
def fDivRaw (a b : Word) : Option Word :=
  let neg := fNeg a != fNeg b
  if isNaN a || isNaN b then none
  else if isInf a then (if isInf b then none else some (signedInf neg))
  else if isInf b then some (signedZero neg)
  else if isZero b then (if isZero a then none else some (signedInf neg))
  else some (divFinite a b)

/-- One bit of the integer square root: the bit `k` joins `r` if its square still fits. -/
def isqrtFrom (n k r : Nat) : Nat :=
  match k with
  | 0 => r
  | k + 1 => if (r + 2 ^ k) * (r + 2 ^ k) ≤ n then isqrtFrom n k (r + 2 ^ k) else isqrtFrom n k r

/-- The integer square root of a number below 2^100. -/
def isqrt (n : Nat) : Nat := isqrtFrom n 50 0

/-- The root of a positive finite pattern: 54 or 55 further bits, then a sticky bit. -/
def sqrtFinite (p : Word) : Word :=
  let odd : Nat := ((fPow p) % 2).toNat
  let m := fMant p * 2 ^ (54 + odd)
  let r := isqrt m
  let sticky := if r * r = m then 0 else 1
  roundFloat false (2 * r + sticky) ((fPow p - (54 + odd : Int)) / 2 - 1)

/-- `sqrt(F(p))` (43_cop1.md R370). -/
def fSqrtRaw (p : Word) : Option Word :=
  if isNaN p then none
  else if isZero p then some p
  else if fNeg p then none
  else if isInf p then some p
  else some (sqrtFinite p)

/-- A two-operand operation under `FTZ`: operands and result flushed (92_eei_decisions.md D25). -/
def withFlush2 (ftz : Bool) (op : Word → Word → Option Word) (a b : Word) : Option Word :=
  (op (flush ftz a) (flush ftz b)).map (flush ftz)

/-- A one-operand operation under `FTZ`. -/
def withFlush1 (ftz : Bool) (op : Word → Option Word) (a : Word) : Option Word := (op (flush ftz a)).map (flush ftz)

/-- Addition (43_cop1.md R366, 46_vfpu_vector.md R470). -/
def fAdd (ftz : Bool) (a b : Word) : Option Word := withFlush2 ftz fAddRaw a b

/-- Subtraction (43_cop1.md R367, 46_vfpu_vector.md R471): IEEE-754 `a - b` is `a + (-b)`. -/
def fSub (ftz : Bool) (a b : Word) : Option Word := fAdd ftz a (b ^^^ signBit)

/-- Multiplication (43_cop1.md R368, 46_vfpu_vector.md R474). -/
def fMul (ftz : Bool) (a b : Word) : Option Word := withFlush2 ftz fMulRaw a b

/-- Division (43_cop1.md R369, 46_vfpu_vector.md R473). -/
def fDiv (ftz : Bool) (a b : Word) : Option Word := withFlush2 ftz fDivRaw a b

/-- Square root (43_cop1.md R370). -/
def fSqrt (ftz : Bool) (a : Word) : Option Word := withFlush1 ftz fSqrtRaw a

/-- `F(p) * 2^k` rounded to nearest even; NaN, infinities and zeros keep their class and sign (46_vfpu_vector.md R472). -/
def fScale (ftz : Bool) (p : Word) (k : Int) : Option Word :=
  withFlush1 ftz (fun a =>
    if isNaN a then none
    else if isInf a || isZero a then some a
    else some (roundFloat (fNeg a) (fMant a) (fPow a + k))) p

/-! ### Comparison (R14) -/

/-- An integer with the order of the values of the patterns that are no NaN: the magnitude bits with the sign; both zeros give 0. -/
def fKey (p : Word) : Int :=
  let m : Int := ((p.extractLsb' 0 31).toNat : Int)
  if fNeg p then -m else m

/-- `F(a) < F(b)`, false when either is NaN. -/
def fLt (a b : Word) : Bool := !isNaN a && !isNaN b && decide (fKey a < fKey b)

/-- `F(a) == F(b)`, false when either is NaN; +0 equals -0. -/
def fEq (a b : Word) : Bool := !isNaN a && !isNaN b && decide (fKey a = fKey b)

/-- `F(a) <= F(b)`, false when either is NaN. -/
def fLe (a b : Word) : Bool := fLt a b || fEq a b

/-- `clamp(v, lo, hi)` (45_vfpu_engine.md R435): a NaN passes. -/
def fClamp (lo hi v : Word) : Word := if fLe hi v then hi else if fLe v lo then lo else v

/-- `fmin(a, b)` of 47_vfpu_matrix_misc.md R560. -/
def fMinSort (a b : Word) : Word := if fLt b a then b else a

/-- `fmax(a, b)` of 47_vfpu_matrix_misc.md R560. -/
def fMaxSort (a b : Word) : Word := if fLt a b then b else a

/-! ### Conversions -/

/-- The rounding modes (43_cop1.md R374). -/
inductive Rounding where
  | nearestEven
  | towardZero
  | towardPlus
  | towardMinus
  deriving DecidableEq, Repr

/-- The rounding mode of `fcr31` RM (43_cop1.md R375). -/
def Rounding.ofRM (rm : BitVec 2) : Rounding :=
  if rm = 0#2 then .nearestEven else if rm = 1#2 then .towardZero else if rm = 2#2 then .towardPlus else .towardMinus

/-- `round(±m * 2^q, mode)`, an integer; the first test of the negative case only keeps the powers small. -/
def roundToInt (mode : Rounding) (neg : Bool) (m : Nat) (q : Int) : Int :=
  let sign (n : Nat) : Int := if neg then -(n : Int) else (n : Int)
  if 0 ≤ q then sign (m * 2 ^ q.toNat)
  else
    let k := (-q).toNat
    let down := m / 2 ^ k
    let exact := m % 2 ^ k = 0
    match mode with
    | .nearestEven => sign (shiftRoundEven m k)
    | .towardZero => sign down
    | .towardPlus => sign (if exact ∨ neg then down else down + 1)
    | .towardMinus => sign (if exact ∨ !neg then down else down + 1)

/-- `f2i(p, mode)` (43_cop1.md R374): NaN and infinity saturate by sign, and so does a value outside the 32-bit integers. -/
def f2i (mode : Rounding) (p : Word) : Word :=
  if isNaNorInf p then (if fNeg p then 0x80000000#32 else 0x7FFFFFFF#32)
  else
    let r := roundToInt mode (fNeg p) (fMant p) (fPow p)
    if r > 2147483647 then 0x7FFFFFFF#32 else if r < -2147483648 then 0x80000000#32 else BitVec.ofInt 32 r

/-- Whether `m * 2^q` is greater than `bound`, exactly. -/
def scaledGt (m : Nat) (q : Int) (bound : Nat) : Bool :=
  if 0 ≤ q then decide (bound < m * 2 ^ q.toNat) else decide (bound * 2 ^ (-q).toNat < m)

/-- Whether `m * 2^q` is at least `bound`, exactly. -/
def scaledGe (m : Nat) (q : Int) (bound : Nat) : Bool :=
  if 0 ≤ q then decide (bound ≤ m * 2 ^ q.toNat) else decide (bound * 2 ^ (-q).toNat ≤ m)

/-- `f2iv(p, scale, mode)` (46_vfpu_vector.md R524), `v = F(p) * 2^scale` compared before it is rounded. -/
def f2iv (mode : Rounding) (scale : Nat) (p : Word) : Word :=
  if isNaN p then 0x7FFFFFFF#32
  else if isInf p then (if fNeg p then 0x80000000#32 else 0x7FFFFFFF#32)
  else
    let q := fPow p + (scale : Int)
    if !fNeg p && scaledGt (fMant p) q 2147483647 then 0x7FFFFFFF#32
    else if fNeg p && scaledGe (fMant p) q 2147483648 then 0x80000000#32
    else BitVec.ofInt 32 (roundToInt mode (fNeg p) (fMant p) q)

/-- `h2f(h)` (45_vfpu_engine.md R458), exact. -/
def h2f (h : Half) : Word :=
  let neg := h.getLsbD 15
  let e := (h.extractLsb' 10 5).toNat
  let m := (h.extractLsb' 0 10).toNat
  if e = 31 then signedInf neg ||| ((h.extractLsb' 0 10).setWidth 32 <<< 13)
  else if e = 0 then roundFloat neg m (-24)
  else roundFloat neg (m + 2 ^ 10) ((e : Int) - 25)

/-- The draw of a binary16 NaN from a free value (92_eei_decisions.md D70). -/
def halfNaNOf (free : Half) : Half :=
  if free.extractLsb' 10 5 == 31#5 && free.extractLsb' 0 10 != 0#10 then free else free ||| 0x7C01#16

/-- `f2h(p)` (45_vfpu_engine.md R458): rounded to nearest even, overflow to infinity, a NaN drawn. -/
def f2h (free : Half) (p : Word) : Half :=
  let sign : Half := if fNeg p then 0x8000#16 else 0#16
  if isNaN p then halfNaNOf free
  else if isInf p then sign ||| 0x7C00#16
  else sign ||| BitVec.ofNat 16 (roundMagnitude binary16 (fMant p) (fPow p))

end Sys2Proof.Machine
end

