-- ==== Sys2Proof/Machine/Operands.lean ====
section
/-! DEFINITION. Machine/Operands.lean: every operand form: immediates, effective addresses and targets (30_encoding.md R127), the VFPU
register addressing (45_vfpu_engine.md R421 to R428) and the S, T and D prefixes with their overrides (R431 to R441). -/

namespace Sys2Proof.Machine

open Sys2Proof

/-! ### Immediates, addresses, targets (R127) -/

/-- `sext_16(imm)`. -/
def sext16 (imm : Half) : Word := imm.signExtend 32

/-- `zext_16(imm)`. -/
def zext16 (imm : Half) : Word := imm.setWidth 32

/-- The effective address of an integer or COP1 access (42_loadstore.md R320). -/
def State.ea (s : State) (rs : GReg) (imm : Half) : Word := s.x rs + sext16 imm

/-- The effective address of a VFPU access: `sext_16(off << 2)` (42_loadstore.md R320). -/
def State.vea (s : State) (rs : GReg) (off : BitVec 14) : Word := s.x rs + sext16 (off ++ 0#2)

/-- The target of a PC-relative branch at `P` (41_branch.md R285). -/
def branchTarget (P : Word) (imm : Half) : Word := P + 4#32 + (sext16 imm <<< 2)

/-- The target of `j` and `jal` at `P` (41_branch.md R286). -/
def jumpTarget (P : Word) (target : BitVec 26) : Word := (P + 4#32).extractLsb' 28 4 ++ target ++ 0#2

/-- A shift amount of a variable shift: `x[rs][4:0]` (R127). -/
def shiftAmount (v : Word) : Nat := (v.extractLsb' 0 5).toNat

/-! ### VFPU registers (R421 to R428) -/

/-- The transpose flag, 0 for Single and 1x1 (R421). -/
def regTransposed (sz : Size) (r : VReg) : Bool := sz != .single && r.getLsbD 5

/-- The base row (R421). -/
def regRow (sz : Size) (r : VReg) : BitVec 2 :=
  match sz with
  | .single => r.extractLsb' 5 2
  | .pair => r.extractLsb' 6 1 ++ 0#1
  | .triple => 0#1 ++ r.extractLsb' 6 1
  | .quad => r.extractLsb' 6 1 ++ 0#1

/-- The column, or the row when transposed (R421). -/
def regCol (r : VReg) : BitVec 2 := r.extractLsb' 0 2

/-- The matrix group (R421). -/
def regMtx (r : VReg) : BitVec 3 := r.extractLsb' 2 3

/-- The slot of element (vector `j`, lane `i`) of a matrix register (R423). -/
def matrixSlot (sz : Size) (r : VReg) (j i : Nat) : VReg :=
  let across := regCol r + BitVec.ofNat 2 j
  let along := regRow sz r + BitVec.ofNat 2 i
  if regTransposed sz r then across ++ regMtx r ++ along else along ++ regMtx r ++ across

/-- The slot of lane `i` of a vector register (R422). -/
def vectorSlot (sz : Size) (r : VReg) (i : Nat) : VReg :=
  let along := regRow sz r + BitVec.ofNat 2 i
  if regTransposed sz r then regCol r ++ regMtx r ++ along else along ++ regMtx r ++ regCol r

/-- The lanes of an operand; only the first `n(sz)` count. -/
abbrev Lanes := Nat → Word

/-- `ReadVector(r, sz)` (R425). -/
def State.readVector (s : State) (sz : Size) (r : VReg) : Lanes := fun i => s.vr (vectorSlot sz r i)

/-- `ReadMatrix(r, sz)` (R427): `m j i` is lane `i` of vector `j`. -/
def State.readMatrix (s : State) (sz : Size) (r : VReg) : Nat → Lanes := fun j i => s.vr (matrixSlot sz r j i)

/-- `msk(i)` of the D prefix (10_state.md R43). -/
def State.laneMasked (s : State) (i : Nat) : Bool := (s.vc CReg.dpfx).getLsbD (8 + i)

/-- Writing lane `i` to a slot unless the D-prefix mask holds it back (R426). -/
def State.writeLane (s : State) (k : VReg) (i : Nat) (v : Word) : State := if s.laneMasked i then s else s.setVr k v

/-- `WriteVector(r, sz, d)` (R426): the lanes in order. -/
def State.writeVector (s : State) (sz : Size) (r : VReg) (d : Lanes) : State :=
  (List.range sz.lanes).foldl (fun t i => t.writeLane (vectorSlot sz r i) i (d i)) s

/-- `WriteMatrix(r, sz, m)` (R428). -/
def State.writeMatrix (s : State) (sz : Size) (r : VReg) (m : Nat → Lanes) : State :=
  (List.range sz.lanes).foldl (fun t j =>
    (List.range sz.lanes).foldl (fun u i => u.writeLane (matrixSlot sz r j i) i (m j i)) t) s

/-! ### Prefixes -/

/-- The pass-through value of SPFX and TPFX (10_state.md R42). -/
abbrev passThrough : Word := 0x000000E4#32

/-- `EatPrefixes()` (R436). -/
def State.eat (s : State) : State := ((s.setVc CReg.spfx passThrough).setVc CReg.tpfx passThrough).setVc CReg.dpfx 0#32

/-- `CONST[k]` (R432). -/
def prefixConst (k : BitVec 3) : Word :=
  match k with
  | 0#3 => 0x00000000#32
  | 1#3 => 0x3F800000#32
  | 2#3 => 0x40000000#32
  | 3#3 => 0x3F000000#32
  | 4#3 => 0x40400000#32
  | 5#3 => 0x3EAAAAAB#32
  | 6#3 => 0x3E800000#32
  | _ => 0x3E2AAAAB#32

/-- Lane `i` under an S or T prefix (R431): the swizzled lane with its absolute value, or a constant, then the negation. -/
def prefixLane (P : Word) (orig : Lanes) (i : Nat) : Word :=
  let swz := P.extractLsb' (2 * i) 2
  let abs := P.extractLsb' (8 + i) 1
  let r :=
    if P.getLsbD (12 + i) then prefixConst (abs ++ swz)
    else if abs = 1#1 then orig swz.toNat &&& 0x7FFFFFFF#32 else orig swz.toNat
  if P.getLsbD (16 + i) then r ^^^ signBit else r

/-- `ApplyST` (R431) on an operand of `n` lanes, where `invalid` gives the lanes from `n` on. -/
def applyST (P : Word) (n : Nat) (v invalid : Lanes) : Lanes :=
  if P = passThrough then v else prefixLane P fun i => if i < n then v i else invalid i

/-- The entry of an instruction without an override (R441). -/
abbrev PrefixOverride.none : PrefixOverride := ⟨0#32, 0#32, 0#32, 0#32, 0#32, 0#32⟩

/-- The table of R441. The T entry of `vbfy1` leaves the user's abs and negate bits, as its mask says: `Params.default` replaces it by one
that removes them too, as R563 says [log 41]. -/
def defaultOverride (op : VfpuOp) (sz : Size) : PrefixOverride :=
  match op with
  | .vocp => ⟨0x000F0000#32, 0x000F0000#32, 0x000000FF#32, 0x0000F055#32, 0#32, 0#32⟩
  | .vcrs => ⟨0x0000003F#32, 0x00000009#32, 0x0000003F#32, 0x00000012#32, 0#32, 0#32⟩
  | .vsocp => ⟨0x000F00FF#32, 0x00050050#32, 0x000000FF#32, 0x0000F011#32, 0x000000FF#32, 0x00000055#32⟩
  | .vbfy1 => ⟨0#32, 0x000A0000#32, 0x0000F0FF#32, 0x000000B1#32, 0#32, 0#32⟩
  | .vbfy2 => ⟨0#32, 0x000C0000#32, 0x0000F0FF#32, 0x0000004E#32, 0#32, 0#32⟩
  | .vhdp =>
    match sz with
    | .single => PrefixOverride.none
    | .pair => ⟨0x0000000C#32, 0x00002004#32, 0#32, 0#32, 0#32, 0#32⟩
    | .triple => ⟨0x00000030#32, 0x00004010#32, 0#32, 0#32, 0#32, 0#32⟩
    | .quad => ⟨0x000000C0#32, 0x00008040#32, 0#32, 0#32, 0#32, 0#32⟩
  | .vfad => ⟨0#32, 0#32, 0x000000FF#32, 0x0000F055#32, 0#32, 0#32⟩
  | .vavg =>
    match sz with
    | .single => ⟨0#32, 0#32, 0x000000FF#32, 0x0000F055#32, 0#32, 0#32⟩
    | .pair => ⟨0#32, 0#32, 0x000000FF#32, 0x0000F0FF#32, 0#32, 0#32⟩
    | .triple => ⟨0#32, 0#32, 0x000000FF#32, 0x0000FF55#32, 0#32, 0#32⟩
    | .quad => ⟨0#32, 0#32, 0x000000FF#32, 0x0000FFAA#32, 0#32, 0#32⟩
  | _ => PrefixOverride.none

/-- `PREFIX_OVERRIDE(op)` at a size: the parameter's entry where it has one, else that of the table, which R441 lets the parameter replace (R439,
R441). -/
def prefixOverride (p : Params) (op : VfpuOp) (sz : Size) : PrefixOverride :=
  match p.prefixOverrides.find? (fun e => e.1 == (op, sz)) with
  | some e => e.2
  | none => defaultOverride op sz

/-- `eff(P, remove, add)` (R439). -/
def effective (P remove add : Word) : Word := (P &&& ~~~remove) ||| add

/-- `effS(op)` (R433). -/
def State.effS (s : State) (op : VfpuOp) (sz : Size) : Word :=
  effective (s.vc CReg.spfx) (prefixOverride s.cfg op sz).sRemove (prefixOverride s.cfg op sz).sAdd

/-- `effT(op)` (R433). -/
def State.effT (s : State) (op : VfpuOp) (sz : Size) : Word :=
  effective (s.vc CReg.tpfx) (prefixOverride s.cfg op sz).tRemove (prefixOverride s.cfg op sz).tAdd

/-- `effD(op)` (R433). -/
def State.effD (s : State) (op : VfpuOp) (sz : Size) : Word :=
  effective (s.vc CReg.dpfx) (prefixOverride s.cfg op sz).dRemove (prefixOverride s.cfg op sz).dAdd

/-- `INVALID_SWIZZLE(op)` (R434): `Zero` for an instruction the parameter does not list. -/
def swizzlePolicy (p : Params) (op : VfpuOp) : SwizzlePolicy :=
  match p.invalidSwizzle.find? (fun e => e.1 == op) with
  | some e => e.2
  | none => .zero

/-- What `PriorDest` reads (R434): the instruction's size and its destination register, or none. -/
abbrev Dest := Option (Size × VReg)

/-- `INVALIDV(op, i)` (R434); the draws of this operand start at `base` [log 25]. -/
def State.invalidLane (s : State) (op : VfpuOp) (dst : Dest) (base : Nat) : Lanes := fun i =>
  match swizzlePolicy s.cfg op with
  | .zero => 0#32
  | .draw => s.free (base + i)
  | .priorDest =>
    match dst with
    | some (sz, r) => if i < sz.lanes then s.vr (vectorSlot sz r i) else 0#32
    | none => 0#32

/-- Where in an instruction's draws each use of them starts [log 9]. -/
abbrev sDraws : Nat := 0
abbrev tDraws : Nat := 4
abbrev laneDraws : Nat := 8
abbrev satDraws : Nat := 16
abbrev rcxDraws : Nat := 20

/-- `ApplyS(ReadVector(vs, osz), osz, op)` (R433) of an instruction of size `sz`, whose entry of R439 it takes. -/
def State.sOperandAt (s : State) (op : VfpuOp) (sz osz : Size) (dst : Dest) (vs : VReg) : Lanes :=
  applyST (s.effS op sz) osz.lanes (s.readVector osz vs) (s.invalidLane op dst sDraws)

/-- `ApplyT(ReadVector(vt, osz), osz, op)` (R433) of an instruction of size `sz`, whose entry of R439 it takes. -/
def State.tOperandAt (s : State) (op : VfpuOp) (sz osz : Size) (dst : Dest) (vt : VReg) : Lanes :=
  applyST (s.effT op sz) osz.lanes (s.readVector osz vt) (s.invalidLane op dst tDraws)

/-- The S operand at the instruction's size. -/
def State.sOperand (s : State) (op : VfpuOp) (sz : Size) (dst : Dest) (vs : VReg) : Lanes := s.sOperandAt op sz sz dst vs

/-- The T operand at the instruction's size. -/
def State.tOperand (s : State) (op : VfpuOp) (sz : Size) (dst : Dest) (vt : VReg) : Lanes := s.tOperandAt op sz sz dst vt

/-- Lane `i` under the saturation mode `sat(i)` of a D prefix (R435). -/
def State.saturate (s : State) (D : Word) (i : Nat) (v : Word) : Word :=
  let mode := D.extractLsb' (2 * i) 2
  if mode = 0#2 then v
  else if mode = 1#2 then fClamp 0#32 oneWord v
  else if mode = 3#2 then fClamp minusOneWord oneWord v
  else
    match s.cfg.sat2Policy with
    | .draw => s.free (satDraws + i)
    | .passthrough => v

/-- `ApplyD(d, n, op)` (R435). -/
def State.applyD (s : State) (op : VfpuOp) (sz : Size) (d : Lanes) : Lanes := fun i => s.saturate (s.effD op sz) i (d i)

/-! ### The ends of a VFPU instruction (R420) -/

/-- A size that the instruction's rule does not list is refused (R430). -/
def sized (ok : Bool) (r : Result) : Result := if ok then r else refuse .vfpuBadSize

/-- Steps (3) to (6) of R420 with a float result: D prefix, write, pc, eat. `sz` is the instruction's size, `out` the result's. -/
def vectorEnd (op : VfpuOp) (sz out : Size) (vd : VReg) (d : Lanes) (s : State) : Result :=
  done ((s.writeVector out vd (s.applyD op sz d)).eat)

/-- Steps (4) to (6) of R420 for an integer or packed result: only the write mask applies (R460). -/
def vectorEndMasked (out : Size) (vd : VReg) (d : Lanes) (s : State) : Result := done ((s.writeVector out vd d).eat)

/-- Whether the three prefixes are the identity, as a matrix instruction asks (R461). -/
def State.prefixesIdentity (s : State) : Bool :=
  s.vc CReg.spfx == passThrough && s.vc CReg.tpfx == passThrough && s.vc CReg.dpfx == 0#32

/-- A matrix instruction: a prefix that is not the identity is refused first, then a size it does not define, Single (R461, R706 (5)). -/
def matrixOp (sz : Size) (s : State) (r : Result) : Result :=
  if s.prefixesIdentity then sized (sz != .single) r else refuse .prefixOnMatrixOp

end Sys2Proof.Machine
end

