-- ==== Sys2Proof/Machine/Alu.lean ====
section
/-! DEFINITION. Machine/Alu.lean: the integer ALU, shifts, multiply and divide, and bit manipulation (40_alu.md). -/

namespace Sys2Proof.Machine

open Sys2Proof

/-- An instruction that writes `v` to `x[rd]` and advances (40_alu.md R200). -/
def writeX (rd : GReg) (v : Word) (s : State) : Result := done (s.setX rd v)

/-- 1 or 0. -/
def boolWord (b : Bool) : Word := if b then 1#32 else 0#32

/-- Writing the sum or difference `v`, unless `OVERFLOW_TRAPS` is on and the exact result is not `v` (R210, R212, R214). -/
def writeExact (rd : GReg) (exact : Int) (v : Word) (s : State) : Result :=
  if s.cfg.overflowTraps && decide (v.toInt ≠ exact) then raise .unmodelled 0#32 s else writeX rd v s

/-! ### Add, subtract, compare -/

/-- R210. -/
def execAdd (rs rt rd : GReg) (_sa : BitVec 5) (s : State) : Result :=
  writeExact rd ((s.x rs).toInt + (s.x rt).toInt) (s.x rs + s.x rt) s

/-- R211. -/
def execAddu (rs rt rd : GReg) (_sa : BitVec 5) (s : State) : Result := writeX rd (s.x rs + s.x rt) s

/-- R212. -/
def execSub (rs rt rd : GReg) (_sa : BitVec 5) (s : State) : Result :=
  writeExact rd ((s.x rs).toInt - (s.x rt).toInt) (s.x rs - s.x rt) s

/-- R213. -/
def execSubu (rs rt rd : GReg) (_sa : BitVec 5) (s : State) : Result := writeX rd (s.x rs - s.x rt) s

/-- R214. -/
def execAddi (rs rt : GReg) (imm : Half) (s : State) : Result :=
  writeExact rt ((s.x rs).toInt + (sext16 imm).toInt) (s.x rs + sext16 imm) s

/-- R215. -/
def execAddiu (rs rt : GReg) (imm : Half) (s : State) : Result := writeX rt (s.x rs + sext16 imm) s

/-- R216. -/
def execSlt (rs rt rd : GReg) (_sa : BitVec 5) (s : State) : Result := writeX rd (boolWord ((s.x rs).slt (s.x rt))) s

/-- R217. -/
def execSltu (rs rt rd : GReg) (_sa : BitVec 5) (s : State) : Result := writeX rd (boolWord ((s.x rs).ult (s.x rt))) s

/-- R218. -/
def execSlti (rs rt : GReg) (imm : Half) (s : State) : Result := writeX rt (boolWord ((s.x rs).slt (sext16 imm))) s

/-- R219. -/
def execSltiu (rs rt : GReg) (imm : Half) (s : State) : Result := writeX rt (boolWord ((s.x rs).ult (sext16 imm))) s

/-! ### Logical -/

/-- R220. -/
def execAnd (rs rt rd : GReg) (_sa : BitVec 5) (s : State) : Result := writeX rd (s.x rs &&& s.x rt) s

/-- R221. -/
def execOr (rs rt rd : GReg) (_sa : BitVec 5) (s : State) : Result := writeX rd (s.x rs ||| s.x rt) s

/-- R222. -/
def execXor (rs rt rd : GReg) (_sa : BitVec 5) (s : State) : Result := writeX rd (s.x rs ^^^ s.x rt) s

/-- R223. -/
def execNor (rs rt rd : GReg) (_sa : BitVec 5) (s : State) : Result := writeX rd (~~~(s.x rs ||| s.x rt)) s

/-- R224. -/
def execAndi (rs rt : GReg) (imm : Half) (s : State) : Result := writeX rt (s.x rs &&& zext16 imm) s

/-- R225. -/
def execOri (rs rt : GReg) (imm : Half) (s : State) : Result := writeX rt (s.x rs ||| zext16 imm) s

/-- R226. -/
def execXori (rs rt : GReg) (imm : Half) (s : State) : Result := writeX rt (s.x rs ^^^ zext16 imm) s

/-- R227. -/
def execLui (rt : GReg) (imm : Half) (s : State) : Result := writeX rt (zext16 imm <<< 16) s

/-! ### Shifts and rotates -/

/-- Rotation to the right by `n` below 32 (R234, R235). -/
def rotateRight (v : Word) (n : Nat) : Word := (v >>> n) ||| (v <<< (32 - n))

/-- R228. -/
def execSll (rt rd : GReg) (sa : BitVec 5) (s : State) : Result := writeX rd (s.x rt <<< sa.toNat) s

/-- R229. -/
def execSrl (rt rd : GReg) (sa : BitVec 5) (s : State) : Result := writeX rd (s.x rt >>> sa.toNat) s

/-- R230. -/
def execSra (rt rd : GReg) (sa : BitVec 5) (s : State) : Result := writeX rd ((s.x rt).sshiftRight sa.toNat) s

/-- R231. -/
def execSllv (rs rt rd : GReg) (_sa : BitVec 5) (s : State) : Result := writeX rd (s.x rt <<< shiftAmount (s.x rs)) s

/-- R232. -/
def execSrlv (rs rt rd : GReg) (_sa : BitVec 5) (s : State) : Result := writeX rd (s.x rt >>> shiftAmount (s.x rs)) s

/-- R233. -/
def execSrav (rs rt rd : GReg) (_sa : BitVec 5) (s : State) : Result :=
  writeX rd ((s.x rt).sshiftRight (shiftAmount (s.x rs))) s

/-- R234. -/
def execRotr (rt rd : GReg) (sa : BitVec 5) (s : State) : Result := writeX rd (rotateRight (s.x rt) sa.toNat) s

/-- R235. -/
def execRotrv (rs rt rd : GReg) (_sa : BitVec 5) (s : State) : Result :=
  writeX rd (rotateRight (s.x rt) (shiftAmount (s.x rs))) s

/-! ### Conditional move, count, min/max -/

/-- The number of bits equal to `b` from bit `k - 1` down, up to the first other one (R238, R239). -/
def countLeading (b : Bool) (v : Word) (k : Nat) : Nat :=
  match k with
  | 0 => 0
  | k + 1 => if v.getLsbD k = b then countLeading b v k + 1 else 0

/-- R236. -/
def execMovz (rs rt rd : GReg) (_sa : BitVec 5) (s : State) : Result := if s.x rt = 0#32 then writeX rd (s.x rs) s else done s

/-- R237. -/
def execMovn (rs rt rd : GReg) (_sa : BitVec 5) (s : State) : Result := if s.x rt ≠ 0#32 then writeX rd (s.x rs) s else done s

/-- R238. -/
def execClz (rs rd : GReg) (s : State) : Result := writeX rd (BitVec.ofNat 32 (countLeading false (s.x rs) 32)) s

/-- R239. -/
def execClo (rs rd : GReg) (s : State) : Result := writeX rd (BitVec.ofNat 32 (countLeading true (s.x rs) 32)) s

/-- R240. -/
def execMax (rs rt rd : GReg) (_sa : BitVec 5) (s : State) : Result :=
  writeX rd (if (s.x rt).slt (s.x rs) then s.x rs else s.x rt) s

/-- R241. -/
def execMin (rs rt rd : GReg) (_sa : BitVec 5) (s : State) : Result :=
  writeX rd (if (s.x rs).slt (s.x rt) then s.x rs else s.x rt) s

/-! ### Multiply, divide, accumulate, hi/lo -/

/-- `s32(a) * s32(b)` modulo 2^64 (R203). -/
def mulSigned (a b : Word) : DWord := a.signExtend 64 * b.signExtend 64

/-- `a * b`, unsigned (R203). -/
def mulUnsigned (a b : Word) : DWord := a.setWidth 64 * b.setWidth 64

/-- `(lo, hi)` after `div` (R244). -/
def divSigned (a b : Word) : Word × Word :=
  if b = 0#32 then (if a.slt 0#32 then 1#32 else 0xFFFFFFFF#32, a)
  else if a = 0x80000000#32 ∧ b = 0xFFFFFFFF#32 then (0x80000000#32, 0xFFFFFFFF#32)
  else (BitVec.ofInt 32 (a.toInt.tdiv b.toInt), BitVec.ofInt 32 (a.toInt - b.toInt * a.toInt.tdiv b.toInt))

/-- `(lo, hi)` after `divu` (R245). -/
def divUnsigned (smallLo a b : Word) : Word × Word :=
  if b = 0#32 then (if 0xFFFF < a.toNat then 0xFFFFFFFF#32 else smallLo, a)
  else (BitVec.ofNat 32 (a.toNat / b.toNat), BitVec.ofNat 32 (a.toNat % b.toNat))

/-- Writing `lo` and `hi` and advancing. -/
def writeLoHi (r : Word × Word) (s : State) : Result := done ((s.setLo r.1).setHi r.2)

/-- R242. -/
def execMult (rs rt : GReg) (s : State) : Result := done (s.setHl (mulSigned (s.x rs) (s.x rt)))

/-- R243. -/
def execMultu (rs rt : GReg) (s : State) : Result := done (s.setHl (mulUnsigned (s.x rs) (s.x rt)))

/-- R244. -/
def execDiv (rs rt : GReg) (s : State) : Result := writeLoHi (divSigned (s.x rs) (s.x rt)) s

/-- R245. -/
def execDivu (rs rt : GReg) (s : State) : Result := writeLoHi (divUnsigned s.cfg.divu0SmallLo (s.x rs) (s.x rt)) s

/-- R246. -/
def execMadd (rs rt : GReg) (s : State) : Result := done (s.setHl (s.hl + mulSigned (s.x rs) (s.x rt)))

/-- R247. -/
def execMaddu (rs rt : GReg) (s : State) : Result := done (s.setHl (s.hl + mulUnsigned (s.x rs) (s.x rt)))

/-- R248. -/
def execMsub (rs rt : GReg) (s : State) : Result := done (s.setHl (s.hl - mulSigned (s.x rs) (s.x rt)))

/-- R249. -/
def execMsubu (rs rt : GReg) (s : State) : Result := done (s.setHl (s.hl - mulUnsigned (s.x rs) (s.x rt)))

/-- R250. -/
def execMfhi (rd : GReg) (s : State) : Result := writeX rd s.cpu.hi s

/-- R251. -/
def execMthi (rs : GReg) (s : State) : Result := done (s.setHi (s.x rs))

/-- R252. -/
def execMflo (rd : GReg) (s : State) : Result := writeX rd s.cpu.lo s

/-- R253. -/
def execMtlo (rs : GReg) (s : State) : Result := done (s.setLo (s.x rs))

/-! ### Bit manipulation -/

/-- The word with the bits below `n` set. -/
def lowMask (n : Nat) : Word := BitVec.ofNat 32 (2 ^ n - 1)

/-- R254. -/
def execExt (rs rt : GReg) (msbd lsb : BitVec 5) (s : State) : Result :=
  if 32 < lsb.toNat + (msbd.toNat + 1) then refuse .extInsRange
  else writeX rt ((s.x rs >>> lsb.toNat) &&& lowMask (msbd.toNat + 1)) s

/-- R255. -/
def execIns (rs rt : GReg) (msb lsb : BitVec 5) (s : State) : Result :=
  if msb.toNat < lsb.toNat then refuse .extInsRange
  else
    let mask := lowMask (msb.toNat - lsb.toNat + 1) <<< lsb.toNat
    writeX rt ((s.x rt &&& ~~~mask) ||| ((s.x rs <<< lsb.toNat) &&& mask)) s

/-- R256. -/
def execWsbh (rt rd : GReg) (s : State) : Result :=
  writeX rd (((s.x rt &&& 0x00FF00FF#32) <<< 8) ||| ((s.x rt >>> 8) &&& 0x00FF00FF#32)) s

/-- R257. -/
def execWsbw (rt rd : GReg) (s : State) : Result :=
  writeX rd ((s.x rt).extractLsb' 0 8 ++ (s.x rt).extractLsb' 8 8 ++ (s.x rt).extractLsb' 16 8 ++ (s.x rt).extractLsb' 24 8) s

/-- R258. -/
def execSeb (rt rd : GReg) (s : State) : Result := writeX rd (((s.x rt).extractLsb' 0 8).signExtend 32) s

/-- R259. -/
def execSeh (rt rd : GReg) (s : State) : Result := writeX rd (((s.x rt).extractLsb' 0 16).signExtend 32) s

/-- R260. -/
def execBitrev (rt rd : GReg) (s : State) : Result := writeX rd (s.x rt).reverse s

end Sys2Proof.Machine
end

