-- ==== Sys2Proof/Machine/Branch.lean ====
section
/-! DEFINITION. Machine/Branch.lean: the integer branches and the jumps (41_branch.md R280 to R312). -/

namespace Sys2Proof.Machine

open Sys2Proof

/-- A PC-relative branch (41_branch.md R282 to R285, R287). -/
def relBranch (likely taken : Bool) (imm : Half) (s : State) : Result :=
  outsideSlot s (.next (branch likely taken (branchTarget s.cpu.pc imm) s))

/-- A linking branch: its condition is read before `x[31] <- P + 8` (R288). -/
def relBranchLink (likely taken : Bool) (imm : Half) (s : State) : Result :=
  outsideSlot s (.next (branch likely taken (branchTarget s.cpu.pc imm) (s.setX 31 (s.cpu.pc + 8#32))))

/-- `s32(v) < 0`. -/
def isNegative (v : Word) : Bool := v.slt 0#32

/-- `s32(v) <= 0`. -/
def isNonPositive (v : Word) : Bool := v.sle 0#32

/-- R291. -/
def execBeq (rs rt : GReg) (imm : Half) (s : State) : Result := relBranch false (s.x rs == s.x rt) imm s

/-- R292. -/
def execBne (rs rt : GReg) (imm : Half) (s : State) : Result := relBranch false (s.x rs != s.x rt) imm s

/-- R293; `rt` ignored. -/
def execBlez (rs _rt : GReg) (imm : Half) (s : State) : Result := relBranch false (isNonPositive (s.x rs)) imm s

/-- R294; `rt` ignored. -/
def execBgtz (rs _rt : GReg) (imm : Half) (s : State) : Result := relBranch false (!isNonPositive (s.x rs)) imm s

/-- R295. -/
def execBeql (rs rt : GReg) (imm : Half) (s : State) : Result := relBranch true (s.x rs == s.x rt) imm s

/-- R296. -/
def execBnel (rs rt : GReg) (imm : Half) (s : State) : Result := relBranch true (s.x rs != s.x rt) imm s

/-- R297. -/
def execBlezl (rs _rt : GReg) (imm : Half) (s : State) : Result := relBranch true (isNonPositive (s.x rs)) imm s

/-- R298. -/
def execBgtzl (rs _rt : GReg) (imm : Half) (s : State) : Result := relBranch true (!isNonPositive (s.x rs)) imm s

/-- R299. -/
def execBltz (rs : GReg) (imm : Half) (s : State) : Result := relBranch false (isNegative (s.x rs)) imm s

/-- R300. -/
def execBgez (rs : GReg) (imm : Half) (s : State) : Result := relBranch false (!isNegative (s.x rs)) imm s

/-- R301. -/
def execBltzl (rs : GReg) (imm : Half) (s : State) : Result := relBranch true (isNegative (s.x rs)) imm s

/-- R302. -/
def execBgezl (rs : GReg) (imm : Half) (s : State) : Result := relBranch true (!isNegative (s.x rs)) imm s

/-- R303. -/
def execBltzal (rs : GReg) (imm : Half) (s : State) : Result := relBranchLink false (isNegative (s.x rs)) imm s

/-- R304. -/
def execBgezal (rs : GReg) (imm : Half) (s : State) : Result := relBranchLink false (!isNegative (s.x rs)) imm s

/-- R305. -/
def execBltzall (rs : GReg) (imm : Half) (s : State) : Result := relBranchLink true (isNegative (s.x rs)) imm s

/-- R306. -/
def execBgezall (rs : GReg) (imm : Half) (s : State) : Result := relBranchLink true (!isNegative (s.x rs)) imm s

/-- R307. -/
def execJ (target : BitVec 26) (s : State) : Result := outsideSlot s (.next (s.latchJump (jumpTarget s.cpu.pc target)))

/-- R308. -/
def execJal (target : BitVec 26) (s : State) : Result :=
  outsideSlot s (.next ((s.setX 31 (s.cpu.pc + 8#32)).latchJump (jumpTarget s.cpu.pc target)))

/-- R309. -/
def execJr (rs : GReg) (s : State) : Result := outsideSlot s (.next (s.latchJump (s.x rs)))

/-- R310; the target is read before the link is written (R288). -/
def execJalr (rs rd : GReg) (s : State) : Result :=
  outsideSlot s (.next ((s.setX rd (s.cpu.pc + 8#32)).latchJump (s.x rs)))

end Sys2Proof.Machine
end

