-- ==== Sys2Proof/Machine/Flags.lean ====
section
/-! DEFINITION. Machine/Flags.lean: the only flag-like state of the core (10_state.md R46): `fpcond` by the COP1 compares (43_cop1.md
R361), and the CC bits by `vcmp` (46_vfpu_vector.md R493, R494). -/

namespace Sys2Proof.Machine

open Sys2Proof

/-- The compare predicate of a 4-bit condition (43_cop1.md R361); `cond[3]`, the signaling form, changes nothing. -/
def fpCompare (cond : BitVec 4) (a b : Word) : Bool :=
  let unordered := isNaN a || isNaN b
  (cond.getLsbD 0 && unordered) || (cond.getLsbD 1 && fEq a b) || (cond.getLsbD 2 && fLt a b)

/-- The 16 `vcmp` conditions on one lane (46_vfpu_vector.md R493). -/
def vcmpLane (cond : BitVec 4) (a b : Word) : Bool :=
  match cond with
  | 0#4 => false
  | 1#4 => fEq a b
  | 2#4 => fLt a b
  | 3#4 => fLe a b
  | 4#4 => true
  | 5#4 => !fEq a b
  | 6#4 => fLe b a
  | 7#4 => fLt b a
  | 8#4 => isZero a
  | 9#4 => isNaN a
  | 10#4 => isInf a
  | 11#4 => isNaNorInf a
  | 12#4 => !isZero a
  | 13#4 => !isNaN a
  | 14#4 => !isInf a
  | _ => !isNaNorInf a

/-- CC after `vcmp` over `n` lanes with lane results `c` (46_vfpu_vector.md R494): bits below `n`, "any" (4) and "all" (5) are replaced. -/
def ccUpdate (n : Nat) (c : Nat → Bool) (old : Word) : Word :=
  let any := (List.range n).any c
  let all := (List.range n).all c
  let lane (i : Nat) : Bool := if i < n then c i else old.getLsbD i
  (old &&& ~~~0x0000003F#32) |||
    ((BitVec.ofBool all ++ BitVec.ofBool any ++ BitVec.ofBool (lane 3) ++ BitVec.ofBool (lane 2) ++ BitVec.ofBool (lane 1) ++
      BitVec.ofBool (lane 0) : BitVec 6).setWidth 32)

end Sys2Proof.Machine
end

