-- ==== Sys2Proof/Machine/Cop1.lean ====
section
/-! DEFINITION. Machine/Cop1.lean: COP1, single-precision floating point (43_cop1.md R360 to R400). A NaN result takes its pattern from a
draw (R360; D24). -/

namespace Sys2Proof.Machine

open Sys2Proof

/-! ### Moves -/

/-- R362. -/
def execMfc1 (rt : GReg) (fs : FReg) (s : State) : Result := done (s.setX rt (s.f fs))

/-- R363. -/
def execMtc1 (rt : GReg) (fs : FReg) (s : State) : Result := done (s.setF fs (s.x rt))

/-- R364. -/
def execCfc1 (rt : GReg) (fs : FReg) (s : State) : Result :=
  done (s.setX rt (if fs = 0#5 then Config.fcr0 else if fs = 31#5 then s.fcr31View else 0#32))

/-- R365. -/
def execCtc1 (rt : GReg) (fs : FReg) (s : State) : Result :=
  if fs = 31#5 then done ((s.setFcr31 (s.x rt &&& 0x0181FFFF#32)).setFpcond ((s.x rt).getLsbD 23)) else done s

/-! ### Arithmetic -/

/-- Writing a float result to `f[fd]`, a NaN drawn (R360). -/
def writeFloat (fd : FReg) (r : Option Word) (s : State) : Result := done (s.setF fd (orNaN (s.free laneDraws) r))

/-- R366. -/
def execAddS (ft fs fd : FReg) (s : State) : Result := writeFloat fd (fAdd s.cfg.ftz (s.f fs) (s.f ft)) s

/-- R367. -/
def execSubS (ft fs fd : FReg) (s : State) : Result := writeFloat fd (fSub s.cfg.ftz (s.f fs) (s.f ft)) s

/-- R368. -/
def execMulS (ft fs fd : FReg) (s : State) : Result := writeFloat fd (fMul s.cfg.ftz (s.f fs) (s.f ft)) s

/-- R369. -/
def execDivS (ft fs fd : FReg) (s : State) : Result := writeFloat fd (fDiv s.cfg.ftz (s.f fs) (s.f ft)) s

/-- R370. -/
def execSqrtS (fs fd : FReg) (s : State) : Result := writeFloat fd (fSqrt s.cfg.ftz (s.f fs)) s

/-- R371. -/
def execAbsS (fs fd : FReg) (s : State) : Result := done (s.setF fd (s.f fs &&& 0x7FFFFFFF#32))

/-- R372. -/
def execMovS (fs fd : FReg) (s : State) : Result := done (s.setF fd (s.f fs))

/-- R373. -/
def execNegS (fs fd : FReg) (s : State) : Result := done (s.setF fd (s.f fs ^^^ signBit))

/-! ### Conversions -/

/-- R375. -/
def execCvtWS (fs fd : FReg) (s : State) : Result :=
  done (s.setF fd (f2i (Rounding.ofRM (s.cpu.fcr31.extractLsb' 0 2)) (s.f fs)))

/-- R376. -/
def execRoundWS (fs fd : FReg) (s : State) : Result := done (s.setF fd (f2i .nearestEven (s.f fs)))

/-- R377. -/
def execTruncWS (fs fd : FReg) (s : State) : Result := done (s.setF fd (f2i .towardZero (s.f fs)))

/-- R378. -/
def execCeilWS (fs fd : FReg) (s : State) : Result := done (s.setF fd (f2i .towardPlus (s.f fs)))

/-- R379. -/
def execFloorWS (fs fd : FReg) (s : State) : Result := done (s.setF fd (f2i .towardMinus (s.f fs)))

/-- R380. -/
def execCvtSW (fs fd : FReg) (s : State) : Result := done (s.setF fd (ofScaledInt (s.f fs).toInt 0))

/-! ### Compares -/

/-- A compare with its condition (R361). -/
def compareFloat (cond : BitVec 4) (ft fs : FReg) (s : State) : Result :=
  done (s.setFpcond (fpCompare cond (s.f fs) (s.f ft)))

/-- R381. -/
def execCFS (ft fs : FReg) (s : State) : Result := compareFloat 0#4 ft fs s

/-- R382. -/
def execCUnS (ft fs : FReg) (s : State) : Result := compareFloat 1#4 ft fs s

/-- R383. -/
def execCEqS (ft fs : FReg) (s : State) : Result := compareFloat 2#4 ft fs s

/-- R384. -/
def execCUeqS (ft fs : FReg) (s : State) : Result := compareFloat 3#4 ft fs s

/-- R385. -/
def execCOltS (ft fs : FReg) (s : State) : Result := compareFloat 4#4 ft fs s

/-- R386. -/
def execCUltS (ft fs : FReg) (s : State) : Result := compareFloat 5#4 ft fs s

/-- R387. -/
def execCOleS (ft fs : FReg) (s : State) : Result := compareFloat 6#4 ft fs s

/-- R388. -/
def execCUleS (ft fs : FReg) (s : State) : Result := compareFloat 7#4 ft fs s

/-- R389. -/
def execCSfS (ft fs : FReg) (s : State) : Result := compareFloat 8#4 ft fs s

/-- R390. -/
def execCNgleS (ft fs : FReg) (s : State) : Result := compareFloat 9#4 ft fs s

/-- R391. -/
def execCSeqS (ft fs : FReg) (s : State) : Result := compareFloat 10#4 ft fs s

/-- R392. -/
def execCNglS (ft fs : FReg) (s : State) : Result := compareFloat 11#4 ft fs s

/-- R393. -/
def execCLtS (ft fs : FReg) (s : State) : Result := compareFloat 12#4 ft fs s

/-- R394. -/
def execCNgeS (ft fs : FReg) (s : State) : Result := compareFloat 13#4 ft fs s

/-- R395. -/
def execCLeS (ft fs : FReg) (s : State) : Result := compareFloat 14#4 ft fs s

/-- R396. -/
def execCNgtS (ft fs : FReg) (s : State) : Result := compareFloat 15#4 ft fs s

/-! ### Branches -/

/-- R397. -/
def execBc1f (imm : Half) (s : State) : Result := relBranch false (!s.cpu.fpcond) imm s

/-- R398. -/
def execBc1t (imm : Half) (s : State) : Result := relBranch false s.cpu.fpcond imm s

/-- R399. -/
def execBc1fl (imm : Half) (s : State) : Result := relBranch true (!s.cpu.fpcond) imm s

/-- R400. -/
def execBc1tl (imm : Half) (s : State) : Result := relBranch true s.cpu.fpcond imm s

end Sys2Proof.Machine
end

