-- ==== Sys2Proof/Machine/LoadStore.lean ====
section
/-! DEFINITION. Machine/LoadStore.lean: loads and stores (42_loadstore.md R320 to R346). Every check comes before the first read or
write (R320), and a failing access raises its cause with its own address (60_exceptions.md R704). -/

namespace Sys2Proof.Machine

open Sys2Proof

/-- An access of `n` bytes at `a`: its fault if it has one, else what follows (20_memory.md R93, R94). -/
def checked (a : Word) (n align : Nat) (s : State) (r : Result) : Result :=
  match accessFault s.cfg a n align with
  | some c => raise c a s
  | none => r

/-- The word-aligned address of `a` (R326). -/
def alignWord (a : Word) : Word := a &&& 0xFFFFFFFC#32

/-- `8 * ea[1:0]` (R326). -/
def byteShift (ea : Word) : Nat := 8 * (ea.extractLsb' 0 2).toNat

/-- R321. -/
def execLb (rs rt : GReg) (imm : Half) (s : State) : Result :=
  checked (s.ea rs imm) 1 1 s (done (s.setX rt ((s.loadByte (s.ea rs imm)).signExtend 32)))

/-- R322. -/
def execLbu (rs rt : GReg) (imm : Half) (s : State) : Result :=
  checked (s.ea rs imm) 1 1 s (done (s.setX rt ((s.loadByte (s.ea rs imm)).setWidth 32)))

/-- R323. -/
def execLh (rs rt : GReg) (imm : Half) (s : State) : Result :=
  checked (s.ea rs imm) 2 2 s (done (s.setX rt ((s.loadHalf (s.ea rs imm)).signExtend 32)))

/-- R324. -/
def execLhu (rs rt : GReg) (imm : Half) (s : State) : Result :=
  checked (s.ea rs imm) 2 2 s (done (s.setX rt ((s.loadHalf (s.ea rs imm)).setWidth 32)))

/-- R325. -/
def execLw (rs rt : GReg) (imm : Half) (s : State) : Result :=
  checked (s.ea rs imm) 4 4 s (done (s.setX rt (s.loadWord (s.ea rs imm))))

/-- `x[rt]` after `lwl` (R326): the old value, the aligned word, and `8 * ea[1:0]`. -/
def lwlMerge (old m : Word) (sh : Nat) : Word := (old &&& (0x00FFFFFF#32 >>> sh)) ||| (m <<< (24 - sh))

/-- `x[rt]` after `lwr` (R327). -/
def lwrMerge (old m : Word) (sh : Nat) : Word := (old &&& (0xFFFFFF00#32 <<< (24 - sh))) ||| (m >>> sh)

/-- The word that `swl` stores (R331): the aligned word, the register, and `8 * ea[1:0]`. -/
def swlMerge (m v : Word) (sh : Nat) : Word := (m &&& (0xFFFFFF00#32 <<< sh)) ||| (v >>> (24 - sh))

/-- The word that `swr` stores (R332). -/
def swrMerge (m v : Word) (sh : Nat) : Word := (m &&& (0x00FFFFFF#32 >>> (24 - sh))) ||| (v <<< sh)

/-- R326. -/
def execLwl (rs rt : GReg) (imm : Half) (s : State) : Result :=
  checked (alignWord (s.ea rs imm)) 4 4 s
    (done (s.setX rt (lwlMerge (s.x rt) (s.loadWord (alignWord (s.ea rs imm))) (byteShift (s.ea rs imm)))))

/-- R327. -/
def execLwr (rs rt : GReg) (imm : Half) (s : State) : Result :=
  checked (alignWord (s.ea rs imm)) 4 4 s
    (done (s.setX rt (lwrMerge (s.x rt) (s.loadWord (alignWord (s.ea rs imm))) (byteShift (s.ea rs imm)))))

/-- R328. -/
def execSb (rs rt : GReg) (imm : Half) (s : State) : Result :=
  checked (s.ea rs imm) 1 1 s (done (s.storeByte (s.ea rs imm) ((s.x rt).extractLsb' 0 8)))

/-- R329. -/
def execSh (rs rt : GReg) (imm : Half) (s : State) : Result :=
  checked (s.ea rs imm) 2 2 s (done (s.storeHalf (s.ea rs imm) ((s.x rt).extractLsb' 0 16)))

/-- R330. -/
def execSw (rs rt : GReg) (imm : Half) (s : State) : Result :=
  checked (s.ea rs imm) 4 4 s (done (s.storeWord (s.ea rs imm) (s.x rt)))

/-- R331. -/
def execSwl (rs rt : GReg) (imm : Half) (s : State) : Result :=
  let a := alignWord (s.ea rs imm)
  checked a 4 4 s (done (s.storeWord a (swlMerge (s.loadWord a) (s.x rt) (byteShift (s.ea rs imm)))))

/-- R332. -/
def execSwr (rs rt : GReg) (imm : Half) (s : State) : Result :=
  let a := alignWord (s.ea rs imm)
  checked a 4 4 s (done (s.storeWord a (swrMerge (s.loadWord a) (s.x rt) (byteShift (s.ea rs imm)))))

/-- R334. -/
def execLl (rs rt : GReg) (imm : Half) (s : State) : Result :=
  checked (s.ea rs imm) 4 4 s (done ((s.setX rt (s.loadWord (s.ea rs imm))).setLlBit true))

/-- R335: without the reservation there is no access and no fault. -/
def execSc (rs rt : GReg) (imm : Half) (s : State) : Result :=
  if s.cpu.llBit then checked (s.ea rs imm) 4 4 s (done ((s.storeWord (s.ea rs imm) (s.x rt)).setX rt 1#32))
  else done (s.setX rt 0#32)

/-- R336. -/
def execLwc1 (rs : GReg) (ft : FReg) (imm : Half) (s : State) : Result :=
  checked (s.ea rs imm) 4 4 s (done (s.setF ft (s.loadWord (s.ea rs imm))))

/-- R337. -/
def execSwc1 (rs : GReg) (ft : FReg) (imm : Half) (s : State) : Result :=
  checked (s.ea rs imm) 4 4 s (done (s.storeWord (s.ea rs imm) (s.f ft)))

/-! ### VFPU loads and stores -/

/-- The register of `lv.s` and `sv.s`: `vt5 | (w[1:0] << 5)` (R338). -/
def singleReg (vt5 : BitVec 5) (vthi : BitVec 2) : VReg := vthi ++ vt5

/-- The register of the quad transfers: `vt5 | (w[0] << 5)` (R340). -/
def quadReg (vt5 : BitVec 5) (vthi : BitVec 1) : VReg := 0#1 ++ vthi ++ vt5

/-- Checking word accesses in the order of their addresses, the first fault counts (R320, R706 (6)). -/
def checkedWords (as : List Word) (s : State) (r : Result) : Result :=
  match as with
  | [] => r
  | a :: rest => checked a 4 4 s (checkedWords rest s r)

/-- Storing words in order (R341). -/
def storeWords (l : List (Word × Word)) (s : State) : State :=
  match l with
  | [] => s
  | (a, v) :: rest => storeWords rest (s.storeWord a v)

/-- The address `ea + 4*i`. -/
def wordUp (ea : Word) (i : Nat) : Word := ea + BitVec.ofNat 32 (4 * i)

/-- The address `ea - 4*i`. -/
def wordDown (ea : Word) (i : Nat) : Word := ea - BitVec.ofNat 32 (4 * i)

/-- `ea[3:2]` (R342). -/
def quadIndex (ea : Word) : Nat := (ea.extractLsb' 2 2).toNat

/-- A quad access needs a multiple of 16 (R340, R341): the misalignment, else the words' own checks. -/
def checkedQuad (ea : Word) (s : State) (r : Result) : Result :=
  if ea.toNat % 16 ≠ 0 then raise .misalignedData ea s else checkedWords ((List.range 4).map (wordUp ea)) s r

/-- R338. -/
def execLvS (rs : GReg) (vt5 : BitVec 5) (off : BitVec 14) (vthi : BitVec 2) (s : State) : Result :=
  checked (s.vea rs off) 4 4 s (done (s.setVr (singleReg vt5 vthi) (s.loadWord (s.vea rs off))))

/-- R339. -/
def execSvS (rs : GReg) (vt5 : BitVec 5) (off : BitVec 14) (vthi : BitVec 2) (s : State) : Result :=
  checked (s.vea rs off) 4 4 s (done (s.storeWord (s.vea rs off) (s.vr (singleReg vt5 vthi))))

/-- R340. -/
def execLvQ (rs : GReg) (vt5 : BitVec 5) (off : BitVec 14) (vthi : BitVec 1) (s : State) : Result :=
  let ea := s.vea rs off
  checkedQuad ea s (done (s.writeVector .quad (quadReg vt5 vthi) fun i => s.loadWord (wordUp ea i)))

/-- R341; `wb` ignored. -/
def execSvQ (rs : GReg) (vt5 : BitVec 5) (off : BitVec 14) (vthi _wb : BitVec 1) (s : State) : Result :=
  let ea := s.vea rs off
  checkedQuad ea s (done (storeWords ((List.range 4).map fun i => (wordUp ea i, s.readVector .quad (quadReg vt5 vthi) i)) s))

/-- R342: the words from the start of the 16-byte block up to `ea`. -/
def execLvlQ (rs : GReg) (vt5 : BitVec 5) (off : BitVec 14) (vthi : BitVec 1) (s : State) : Result :=
  let ea := s.vea rs off
  let k := quadIndex ea
  checkedWords ((List.range (k + 1)).map (wordDown ea)) s
    (done (s.writeVector .quad (quadReg vt5 vthi) fun i =>
      if 3 - i ≤ k then s.loadWord (wordDown ea (3 - i)) else s.readVector .quad (quadReg vt5 vthi) i))

/-- R343: the words from `ea` up to the end of the 16-byte block. -/
def execLvrQ (rs : GReg) (vt5 : BitVec 5) (off : BitVec 14) (vthi : BitVec 1) (s : State) : Result :=
  let ea := s.vea rs off
  let k := quadIndex ea
  checkedWords ((List.range (4 - k)).map (wordUp ea)) s
    (done (s.writeVector .quad (quadReg vt5 vthi) fun i =>
      if i ≤ 3 - k then s.loadWord (wordUp ea i) else s.readVector .quad (quadReg vt5 vthi) i))

/-- R344. -/
def execSvlQ (rs : GReg) (vt5 : BitVec 5) (off : BitVec 14) (vthi : BitVec 1) (s : State) : Result :=
  let ea := s.vea rs off
  let k := quadIndex ea
  checkedWords ((List.range (k + 1)).map (wordDown ea)) s
    (done (storeWords ((List.range (k + 1)).map fun i =>
      (wordDown ea i, s.readVector .quad (quadReg vt5 vthi) (3 - i))) s))

/-- R345. -/
def execSvrQ (rs : GReg) (vt5 : BitVec 5) (off : BitVec 14) (vthi : BitVec 1) (s : State) : Result :=
  let ea := s.vea rs off
  let k := quadIndex ea
  checkedWords ((List.range (4 - k)).map (wordUp ea)) s
    (done (storeWords ((List.range (4 - k)).map fun i => (wordUp ea i, s.readVector .quad (quadReg vt5 vthi) i)) s))

end Sys2Proof.Machine
end

