-- ==== Sys2Proof/Machine/Environment.lean ====
section
/-! DEFINITION. Machine/Environment.lean: the OPEN parameters of 00_scope.md R8 that are functions of the machine's state, as opaque
constants: `DISPATCH` [log 11], `STACK_ALLOC` [log 12], `EXT_WAIT_DONE` and `EXT_WAIT_RESULT` [log 13]. -/

namespace Sys2Proof.Machine

open Sys2Proof

/-- The arguments of a command, `x[4]` to `x[9]` in order (48_scheduler.md R651). -/
structure CommandArgs where
  a0 : Word
  a1 : Word
  a2 : Word
  a3 : Word
  a4 : Word
  a5 : Word
  deriving DecidableEq, Repr

/-- One thing that an external syscall handler does (44_system.md R401, 48_scheduler.md R694): it may change any GPR, `hi`, `lo` and memory,
and the scheduler's state through the commands and through `block(EXTERNAL, ...)`; nothing else [log 11]. -/
inductive HandlerAction where
  | setGpr (i : GReg) (v : Word)
  | setHi (v : Word)
  | setLo (v : Word)
  | storeByte (a : Word) (v : Byte)
  | command (c : Command) (args : CommandArgs)
  | block (id : Word) (deadline : Option Nat)
  deriving DecidableEq, Repr

/-- What an external syscall handler reports and does (44_system.md R401). -/
structure DispatchResult where
  handled : Bool
  actions : List HandlerAction
  deriving DecidableEq, Repr, Inhabited

end Sys2Proof.Machine

namespace Sys2Proof

open Sys2Proof.Machine

/-- `DISPATCH(nid, state)` for a NID that is no scheduler command (44_system.md R401) [log 11]. -/
opaque Config.dispatch : Word → State → DispatchResult

/-- `STACK_ALLOC(size)` (92_eei_decisions.md D85) [log 12]. -/
opaque Config.stackAlloc : State → Word → Option Word

/-- `EXT_WAIT_DONE(waitId, state)` (92_eei_decisions.md D90) [log 13]. -/
opaque Config.extWaitDone : Word → State → Bool

/-- `EXT_WAIT_RESULT(waitId)` (92_eei_decisions.md D90) [log 13]. -/
opaque Config.extWaitResult : Word → Word

end Sys2Proof
end

