-- ==== Sys2Proof/Machine/Kernel.lean ====
section
/-! DEFINITION. Machine/Kernel.lean: the scheduler's objects and its commands (48_scheduler.md R621 to R626, R648 to R696). A command takes
its arguments, changes the scheduler's state, and writes its result to `x[2]` (R651); `syscall` adds the pc and the poison (44_system.md
R404). -/

namespace Sys2Proof.Machine

open Sys2Proof

/-! ### Objects -/

/-- The record of a thread. -/
def State.thread? (s : State) (u : Word) : Option PSPThread := s.sched.threads.find? fun t => t.uid == u

/-- The record of the current thread (10_state.md R49). -/
def State.currentThread? (s : State) : Option PSPThread :=
  match s.sched.current with
  | some u => s.thread? u
  | none => none

/-- Changing the record of a thread. -/
def State.updateThread (s : State) (u : Word) (f : PSPThread → PSPThread) : State :=
  { s with sched := { s.sched with threads := s.sched.threads.map fun t => if t.uid = u then f t else t } }

/-- `setResult(th, v)` (R626): the live `x[2]` of the current thread, the saved one of any other. -/
def State.setResult (s : State) (u : Word) (v : Word) : State :=
  if s.sched.current = some u then s.setX 2 v
  else s.updateThread u fun t => { t with ctx := { t.ctx with gpr := t.ctx.gpr.set 2 v } }

/-- The priority of a thread in the table (R624) [log 35]. -/
def State.priorityOf (s : State) (u : Word) : Nat :=
  match s.thread? u with
  | some t => t.priority
  | none => 0

/-- Placing `u` last among the threads of its priority `p` (R624). -/
def insertReady (prio : Word → Nat) (u : Word) (p : Nat) (q : List Word) : List Word :=
  match q with
  | [] => [u]
  | v :: rest => if p < prio v then u :: v :: rest else v :: insertReady prio u p rest

/-- `enqueueReady(th)` (R624): refused where the queue would exceed its capacity. -/
def enqueueReady (u : Word) (s : State) : Result :=
  if s.cfg.readyCapacity < s.sched.readyQueue.length + 1 then refuse .unmodelledKernelCase
  else
    let t := s.updateThread u fun th => { th with status := .ready }
    .next { t with sched := { t.sched with readyQueue := insertReady t.priorityOf u (t.priorityOf u) t.sched.readyQueue } }

/-- Destroying a thread and its callbacks (R643, R658). -/
def State.destroyThread (s : State) (u : Word) : State :=
  { s with sched := { s.sched with
      threads := s.sched.threads.filter fun t => t.uid != u
      readyQueue := s.sched.readyQueue.filter fun v => v != u
      waitingList := s.sched.waitingList.filter fun v => v != u
      callbacks := s.sched.callbacks.filter fun c => c.owner != u } }

/-- Whether a WAITING thread waits in a way that `p` holds of (R658, R669, R675). -/
def State.anyWaiter (s : State) (p : Wait → Bool) : Bool :=
  s.sched.threads.any fun t => t.status == .waiting && p t.wait

/-- The record of a semaphore. -/
def State.sema? (s : State) (u : Word) : Option Semaphore := s.sched.semaphores.find? fun o => o.uid == u

/-- Writing the count of a semaphore. -/
def State.setSemaCount (s : State) (u : Word) (n : Int) : State :=
  { s with sched := { s.sched with semaphores := s.sched.semaphores.map fun o => if o.uid = u then { o with count := n } else o } }

/-- The record of an event flag. -/
def State.eventFlag? (s : State) (u : Word) : Option EventFlag := s.sched.eventFlags.find? fun o => o.uid == u

/-- Writing the bits of an event flag. -/
def State.setEventBits (s : State) (u : Word) (b : Word) : State :=
  { s with sched := { s.sched with eventFlags := s.sched.eventFlags.map fun o => if o.uid = u then { o with bits := b } else o } }

/-- The record of a callback. -/
def State.callback? (s : State) (u : Word) : Option Callback := s.sched.callbacks.find? fun o => o.uid == u

/-- The interrupt record of (number, sub-number). -/
def State.intrHandler? (s : State) (num sub : Word) : Option IntrHandler :=
  s.sched.intrHandlers.find? fun o => o.number == num && o.sub == sub

/-! ### UIDs (R621) -/

/-- The `k`-th positive 31-bit value from `start` on. -/
def uidCandidate (start k : Nat) : Word := BitVec.ofNat 32 (1 + (start + k) % (2 ^ 31 - 1))

/-- A fresh positive 31-bit value never issued before: the first from a drawn value on (R621; D83) [log 15]. -/
def State.freshUid (s : State) : Option Word :=
  ((List.range (s.sched.uids.length + 1)).map (uidCandidate (s.free 0).toNat)).find? fun u => !s.sched.uids.contains u

/-- Recording an issued UID, whose draw is used. -/
def State.issueUid (s : State) (u : Word) : State :=
  { s with sched := { s.sched with uids := u :: s.sched.uids }, drawCount := s.drawCount + 1 }

/-- A create command goes on with a fresh UID. -/
def withFreshUid (s : State) (k : Word → State → Result) : Result :=
  match s.freshUid with
  | some u => k u (s.issueUid u)
  | none => refuse .uidSpaceExhausted

/-! ### Results and time -/

/-- A command ends with its result in `x[2]` (R651). -/
def answer (v : Word) (s : State) : Result := .next (s.setX 2 v)

/-- A command ends with OK. -/
def answerOk (s : State) : Result := answer s.cfg.err.ok s

/-- A command that names the caller: refused when there is none (R695). -/
def withCaller (s : State) (k : PSPThread → Result) : Result :=
  match s.currentThread? with
  | some c => k c
  | none => refuse .unmodelledKernelCase

/-- A command that blocks, exits or deletes a thread: refused inside a nested run (R637, R695) [log 20]. -/
def outsideNested (s : State) (r : Result) : Result := if s.sched.nested.isSome then refuse .unmodelledKernelCase else r

/-- `cycles(us)` (R648); the huge values come first [log 37]. -/
def cyclesOf (p : Params) (us : Nat) : Nat :=
  if p.delayHuge ≤ us then us
  else (if us < p.delayMinUs then p.delayFloorUs else us) * Config.cpuHz / 1000000

/-- The deadline `us` microseconds from now (R648): `now` with the cycles of the command's own step, as the worked example of R697 counts
it [log 39]. -/
def State.deadlineAfter (s : State) (us : Word) : Nat := s.sched.now + s.cfg.cyclesPerInsn + cyclesOf s.cfg us.toNat

/-- The optional timeout of a wait (R649, D75): the word at `addr`, read at the call whether or not the wait blocks, none for address 0; a bad
address is `Fatal(DATA_ADDRESS)` [log 18, 19]. -/
def withTimeout (addr : Word) (s : State) (k : Option Nat → Result) : Result :=
  if addr = 0#32 then k none
  else
    match accessFault s.cfg addr 4 4 with
    | some _ => raise .dataAddress addr s
    | none => k (some (s.deadlineAfter (s.loadWord addr)))

/-- `block(type, id, data, deadline, cb)` of the current thread `c` (R653). -/
def block (c : PSPThread) (w : Wait) (deadline : Option Nat) (cb : Bool) (s : State) : Result :=
  let t := s.updateThread c.uid fun th => { th with status := .waiting, wait := w, deadline := deadline, callbackPending := cb }
  .next { t with sched := { t.sched with waitingList := t.sched.waitingList ++ [c.uid] } }

/-- The thread that a command's UID names, 0 being the caller (D93), or the error of an unknown UID (R621). -/
def withThread (u : Word) (s : State) (k : PSPThread → Result) : Result :=
  if u = 0#32 then withCaller s k
  else
    match s.thread? u with
    | some t => k t
    | none => answer s.cfg.err.unknownUid s

/-- The semaphore that a command's UID names, or the error of an unknown UID. -/
def withSema (u : Word) (s : State) (k : Semaphore → Result) : Result :=
  match s.sema? u with
  | some o => k o
  | none => answer s.cfg.err.unknownUid s

/-- The event flag that a command's UID names, or the error of an unknown UID. -/
def withEventFlag (u : Word) (s : State) (k : EventFlag → Result) : Result :=
  match s.eventFlag? u with
  | some o => k o
  | none => answer s.cfg.err.unknownUid s

/-! ### Threads (R654 to R667) -/

/-- The stack size rounded up to a multiple of 256 (D85). -/
def roundStack (size : Word) : Nat := (size.toNat + 255) / 256 * 256

/-- Whether `[base, base + size)` lies in user RAM and overlaps no live stack (D85); a live stack of 0 bytes strictly inside it counts as an
overlap, DESIGN CHOICE [log 12]. -/
def State.stackOk (s : State) (base : Word) (size : Nat) : Bool :=
  s.cfg.windows.any (fun w => w.kind == .userRam && decide (w.base ≤ base.toNat) && decide (base.toNat + size ≤ w.base + w.size)) &&
  s.sched.threads.all fun t =>
    decide (base.toNat + size ≤ t.stackBottom.toNat) || decide (t.stackBottom.toNat + t.stackSize.toNat ≤ base.toNat)

/-- `STACK_ALLOC(size)`, held to what D85 says of it [log 12]. -/
def State.allocStack (s : State) (size : Nat) : Option Word :=
  match Config.stackAlloc s (BitVec.ofNat 32 size) with
  | some base => if s.stackOk base size then some base else none
  | none => none

/-- `createThread(name, entry, priority, stackSize, attr, opt)` (R654). -/
def cmdCreateThread (a : CommandArgs) (s : State) : Result :=
  if !Config.priorityOk a.a2.toNat then answer s.cfg.err.illegalPriority s
  else
    match s.allocStack (roundStack a.a3) with
    | none => answer s.cfg.err.noMemory s
    | some base =>
      withFreshUid s fun u t =>
        let th : PSPThread :=
          { uid := u, ctx := resetContext s.cfg 0, status := .dormant, priority := a.a2.toNat, wait := .none, deadline := none
            stackBottom := base, stackSize := BitVec.ofNat 32 (roundStack a.a3), entry := a.a1, deletePending := false
            callbackPending := false, wakeupCount := 0, gp := s.x 28, started := false, exitStatus := 0#32 }
        answer u { t with sched := { t.sched with threads := t.sched.threads ++ [th] } }

/-- `startThread(uid, argSize, argPtr)` (R655). -/
def cmdStartThread (a : CommandArgs) (s : State) : Result :=
  match s.thread? a.a0 with
  | none => answer s.cfg.err.unknownUid s
  | some th =>
    if th.status ≠ .dormant then answer s.cfg.err.notDormant s
    else if th.started then refuse .unmodelledKernelCase
    else
      let ctx := startContext s.cfg s.drawCount th.entry (th.stackBottom + th.stackSize) th.gp a.a1 a.a2
      let t := (s.updateThread th.uid fun r => { r with ctx := ctx, started := true }).takeDraws drawsPerContext
      andThen (enqueueReady th.uid t) answerOk

/-- The current thread becomes DORMANT with an exit status (R656); `x[2]` stays. -/
def exitCurrent (c : PSPThread) (status : Word) (deletePending : Bool) (s : State) : State :=
  s.updateThread c.uid fun t => { t with status := .dormant, exitStatus := status, deletePending := t.deletePending || deletePending }

/-- `exitThread(status)` (R656). -/
def cmdExitThread (a : CommandArgs) (s : State) : Result :=
  outsideNested s (withCaller s fun c => .next (exitCurrent c a.a0 false s))

/-- `exitDeleteThread(status)` (R657). -/
def cmdExitDeleteThread (a : CommandArgs) (s : State) : Result :=
  outsideNested s (withCaller s fun c => .next (exitCurrent c a.a0 true s))

/-- `deleteThread(uid)` (R658). A thread whose end another still waits for is not deleted, whether it was started or not, DEDUCED [log 45]. -/
def cmdDeleteThread (a : CommandArgs) (s : State) : Result :=
  outsideNested s
    (match s.thread? a.a0 with
    | none => answer s.cfg.err.unknownUid s
    | some th =>
      if th.status ≠ .dormant then answer s.cfg.err.notDormant s
      else if s.anyWaiter (fun w => w == .threadEnd th.uid) then refuse .unmodelledKernelCase
      else answerOk (s.destroyThread th.uid))

/-- `getThreadId()` (R659). -/
def cmdGetThreadId (_a : CommandArgs) (s : State) : Result := withCaller s fun c => answer c.uid s

/-- `sleepThread` and `sleepThreadCB` (R660, R661). -/
def sleepWith (cb : Bool) (s : State) : Result :=
  outsideNested s (withCaller s fun c =>
    if 0 < c.wakeupCount then
      answerOk (s.updateThread c.uid fun t => { t with wakeupCount := t.wakeupCount - 1, callbackPending := t.callbackPending || cb })
    else block c .sleep none cb s)

/-- `sleepThread()` (R660). -/
def cmdSleepThread (_a : CommandArgs) (s : State) : Result := sleepWith false s

/-- `sleepThreadCB()` (R661). -/
def cmdSleepThreadCB (_a : CommandArgs) (s : State) : Result := sleepWith true s

/-- `wakeupThread(uid)` (R662). -/
def cmdWakeupThread (a : CommandArgs) (s : State) : Result :=
  withThread a.a0 s fun th =>
    if th.status = .dormant then answer s.cfg.err.dormant s
    else answerOk (s.updateThread th.uid fun t => { t with wakeupCount := t.wakeupCount + 1 })

/-- `delayThread(us)` and `delayThreadCB(us)` (R663, R664). -/
def delayWith (cb : Bool) (us : Word) (s : State) : Result :=
  outsideNested s (withCaller s fun c => block c .delay (some (s.deadlineAfter us)) cb s)

/-- `delayThread(us)` (R663). -/
def cmdDelayThread (a : CommandArgs) (s : State) : Result := delayWith false a.a0 s

/-- `delayThreadCB(us)` (R664). -/
def cmdDelayThreadCB (a : CommandArgs) (s : State) : Result := delayWith true a.a0 s

/-- `waitThreadEnd(uid, timeoutAddr)` (R665). -/
def cmdWaitThreadEnd (a : CommandArgs) (s : State) : Result :=
  outsideNested s (withCaller s fun c =>
    withThread a.a0 s fun th =>
      withTimeout a.a1 s fun dl =>
        if th.status = .dormant then answer th.exitStatus s else block c (.threadEnd th.uid) dl false s)

/-- The first READY thread of level `p` moves to the tail of its level (R666). -/
def State.rotateLevel (s : State) (p : Nat) : State :=
  match s.sched.readyQueue.find? (fun u => s.priorityOf u == p) with
  | some u => { s with sched := { s.sched with readyQueue := insertReady s.priorityOf u p (s.sched.readyQueue.erase u) } }
  | none => s

/-- Rotating level `p`: the caller's own level yields, which a nested run may not (R666, R695). -/
def rotateTo (p : Nat) (s : State) : Result :=
  if !Config.priorityOk p then answer s.cfg.err.illegalPriority s
  else
    match s.currentThread? with
    | some c =>
      if c.priority = p then outsideNested s (answerOk { s with sched := { s.sched with yieldRequested := true } })
      else answerOk (s.rotateLevel p)
    | none => answerOk (s.rotateLevel p)

/-- `rotateThreadReadyQueue(p)` (R666). -/
def cmdRotateThreadReadyQueue (a : CommandArgs) (s : State) : Result :=
  if a.a0 = 0#32 then withCaller s fun c => rotateTo c.priority s else rotateTo a.a0.toNat s

/-- A thread takes priority `p`; a READY one moves to the tail of level `p` (R667). -/
def State.setPriority (s : State) (th : PSPThread) (p : Nat) : State :=
  let t := s.updateThread th.uid fun r => { r with priority := p }
  if th.status = .ready then
    { t with sched := { t.sched with readyQueue := insertReady t.priorityOf th.uid p (t.sched.readyQueue.erase th.uid) } }
  else t

/-- `changeThreadPriority(uid, p)` (R667). -/
def cmdChangeThreadPriority (a : CommandArgs) (s : State) : Result :=
  withThread a.a0 s fun th =>
    if a.a1 = 0#32 then withCaller s fun c => answerOk (s.setPriority th c.priority)
    else if !Config.priorityOk a.a1.toNat then answer s.cfg.err.illegalPriority s
    else answerOk (s.setPriority th a.a1.toNat)

/-! ### Semaphores (R668 to R673) -/

/-- `createSema(name, attr, init, max, opt)` (R668). -/
def cmdCreateSema (a : CommandArgs) (s : State) : Result :=
  let init := a.a2.toInt
  let max := a.a3.toInt
  if init < 0 ∨ max ≤ 0 ∨ max < init then answer s.cfg.err.illegalCount s
  else
    withFreshUid s fun u t =>
      answer u { t with sched := { t.sched with semaphores := t.sched.semaphores ++ [⟨u, init, max⟩] } }

/-- `deleteSema(uid)` (R669). -/
def cmdDeleteSema (a : CommandArgs) (s : State) : Result :=
  withSema a.a0 s fun o =>
    if s.anyWaiter (fun w => match w with | .sema u _ => u == o.uid | _ => false) then refuse .unmodelledKernelCase
    else answerOk { s with sched := { s.sched with semaphores := s.sched.semaphores.filter fun q => q.uid != o.uid } }

/-- `signalSema(uid, n)` (R670). -/
def cmdSignalSema (a : CommandArgs) (s : State) : Result :=
  withSema a.a0 s fun o =>
    if a.a1.toInt < 0 then answer s.cfg.err.illegalCount s
    else if o.maxCount < o.count + a.a1.toInt then answer s.cfg.err.semaOvf s
    else answerOk (s.setSemaCount o.uid (o.count + a.a1.toInt))

/-- `waitSema` and `waitSemaCB` (R671, R672). -/
def waitSemaWith (cb : Bool) (a : CommandArgs) (s : State) : Result :=
  outsideNested s (withCaller s fun c =>
    withSema a.a0 s fun o =>
      if a.a1.toInt ≤ 0 ∨ o.maxCount < a.a1.toInt then answer s.cfg.err.illegalCount s
      else
        withTimeout a.a2 s fun dl =>
          if a.a1.toInt ≤ o.count then answerOk (s.setSemaCount o.uid (o.count - a.a1.toInt))
          else block c (.sema o.uid a.a1.toInt) dl cb s)

/-- `waitSema(uid, need, timeoutAddr)` (R671). -/
def cmdWaitSema (a : CommandArgs) (s : State) : Result := waitSemaWith false a s

/-- `waitSemaCB(uid, need, timeoutAddr)` (R672). -/
def cmdWaitSemaCB (a : CommandArgs) (s : State) : Result := waitSemaWith true a s

/-- `pollSema(uid, need)` (R673). -/
def cmdPollSema (a : CommandArgs) (s : State) : Result :=
  withSema a.a0 s fun o =>
    if a.a1.toInt ≤ 0 then answer s.cfg.err.illegalCount s
    else if a.a1.toInt ≤ o.count then answerOk (s.setSemaCount o.uid (o.count - a.a1.toInt))
    else answer s.cfg.err.semaZero s

/-! ### Event flags (R674 to R681) -/

/-- Whether a wait mode is legal (R678; D44). -/
def evfModeOk (mode : Word) : Bool := (mode &&& ~~~0x31#32) == 0#32 && !((mode &&& 0x30#32) == 0x30#32)

/-- `evfMatch(bits, pattern, mode)` (R678). -/
def evfMatch (bits pattern mode : Word) : Bool :=
  if mode.getLsbD 0 then (bits &&& pattern) != 0#32 else (bits &&& pattern) == pattern

/-- The bits after a match (R678). -/
def evfClear (bits pattern mode : Word) : Word :=
  if mode.getLsbD 4 then 0#32 else if mode.getLsbD 5 then bits &&& ~~~pattern else bits

/-- A match: the old bits are reported to `outAddr`, unless it is 0, and then cleared as the mode says (R678); `word` is the instruction
word that a fault of the write records (R704) [log 18]. -/
def evfReport (word : Word) (o : EventFlag) (pattern mode outAddr : Word) (s : State) : Result :=
  let clear (t : State) : State := t.setEventBits o.uid (evfClear o.bits pattern mode)
  if outAddr = 0#32 then .next (clear s)
  else
    match accessFault s.cfg outAddr 4 4 with
    | some _ => .next (s.latchFailure .dataAddress word outAddr)
    | none => .next (clear (s.storeWord outAddr o.bits))

/-- `createEventFlag(name, attr, init, opt)` (R674). -/
def cmdCreateEventFlag (a : CommandArgs) (s : State) : Result :=
  withFreshUid s fun u t =>
    answer u { t with sched := { t.sched with eventFlags := t.sched.eventFlags ++ [⟨u, a.a2⟩] } }

/-- `deleteEventFlag(uid)` (R675). -/
def cmdDeleteEventFlag (a : CommandArgs) (s : State) : Result :=
  withEventFlag a.a0 s fun o =>
    if s.anyWaiter (fun w => match w with | .eventFlag u _ _ _ => u == o.uid | _ => false) then refuse .unmodelledKernelCase
    else answerOk { s with sched := { s.sched with eventFlags := s.sched.eventFlags.filter fun q => q.uid != o.uid } }

/-- `setEventFlag(uid, m)` (R676). -/
def cmdSetEventFlag (a : CommandArgs) (s : State) : Result :=
  withEventFlag a.a0 s fun o => answerOk (s.setEventBits o.uid (o.bits ||| a.a1))

/-- `clearEventFlag(uid, m)` (R677). -/
def cmdClearEventFlag (a : CommandArgs) (s : State) : Result :=
  withEventFlag a.a0 s fun o => answerOk (s.setEventBits o.uid (o.bits &&& a.a1))

/-- `waitEventFlag` and `waitEventFlagCB` (R679, R680). -/
def waitEventFlagWith (cb : Bool) (a : CommandArgs) (s : State) : Result :=
  outsideNested s (withCaller s fun c =>
    withEventFlag a.a0 s fun o =>
      if !evfModeOk a.a2 then answer s.cfg.err.illegalMode s
      else
        withTimeout a.a4 s fun dl =>
          if evfMatch o.bits a.a1 a.a2 then andThen (evfReport s.ir o a.a1 a.a2 a.a3 s) answerOk
          else block c (.eventFlag o.uid a.a1 a.a2 a.a3) dl cb s)

/-- `waitEventFlag(uid, pattern, mode, outAddr, timeoutAddr)` (R679). -/
def cmdWaitEventFlag (a : CommandArgs) (s : State) : Result := waitEventFlagWith false a s

/-- `waitEventFlagCB(uid, pattern, mode, outAddr, timeoutAddr)` (R680). -/
def cmdWaitEventFlagCB (a : CommandArgs) (s : State) : Result := waitEventFlagWith true a s

/-- `pollEventFlag(uid, pattern, mode, outAddr)` (R681). -/
def cmdPollEventFlag (a : CommandArgs) (s : State) : Result :=
  withEventFlag a.a0 s fun o =>
    if !evfModeOk a.a2 then answer s.cfg.err.illegalMode s
    else if evfMatch o.bits a.a1 a.a2 then andThen (evfReport s.ir o a.a1 a.a2 a.a3 s) answerOk
    else answer s.cfg.err.evfCond s

/-! ### Callbacks, alarms, interrupts (R682 to R693) -/

/-- The kind that a drawn value stands for: the external module fixes it, so any of the three can come (R682) [log 42]. -/
def callbackKindOf (free : Word) : CallbackKind :=
  match free.toNat % 3 with
  | 0 => .power
  | 1 => .umd
  | _ => .memoryStick

/-- `createCallback(name, handler, arg)` (R682). -/
def cmdCreateCallback (a : CommandArgs) (s : State) : Result :=
  withCaller s fun c =>
    withFreshUid s fun u t =>
      let new : Callback :=
        { uid := u, kind := callbackKindOf (t.free 0), handler := a.a1, arg := a.a2, notifyCount := 0, notifyArg := 0#32, owner := c.uid }
      answer u { t.takeDraws 1 with sched := { t.sched with callbacks := t.sched.callbacks ++ [new] } }

/-- `deleteCallback(uid)` (R683). -/
def cmdDeleteCallback (a : CommandArgs) (s : State) : Result :=
  match s.callback? a.a0 with
  | none => answer s.cfg.err.unknownUid s
  | some o => answerOk { s with sched := { s.sched with callbacks := s.sched.callbacks.filter fun q => q.uid != o.uid } }

/-- Changing the record of a callback. -/
def State.updateCallback (s : State) (u : Word) (f : Callback → Callback) : State :=
  { s with sched := { s.sched with callbacks := s.sched.callbacks.map fun q => if q.uid = u then f q else q } }

/-- `notifyCallback(uid, arg)` (R684). -/
def cmdNotifyCallback (a : CommandArgs) (s : State) : Result :=
  match s.callback? a.a0 with
  | none => answer s.cfg.err.unknownUid s
  | some o => answerOk (s.updateCallback o.uid fun q => { q with notifyCount := q.notifyCount + 1, notifyArg := a.a1 })

/-- `checkCallback()` (R685). -/
def cmdCheckCallback (_a : CommandArgs) (s : State) : Result :=
  withCaller s fun c => answerOk (s.updateThread c.uid fun t => { t with callbackPending := true })

/-- `setAlarm(us, handler, arg)` (R686). -/
def cmdSetAlarm (a : CommandArgs) (s : State) : Result :=
  withFreshUid s fun u t =>
    answer u { t with sched := { t.sched with alarms := t.sched.alarms ++ [⟨u, a.a1, a.a2, s.deadlineAfter a.a0⟩] } }

/-- `cancelAlarm(uid)` (R687). -/
def cmdCancelAlarm (a : CommandArgs) (s : State) : Result :=
  if s.sched.alarms.any (fun o => o.uid == a.a0) then
    answerOk { s with sched := { s.sched with alarms := s.sched.alarms.filter fun o => o.uid != a.a0 } }
  else answer s.cfg.err.unknownUid s

/-- The interrupt records other than that of (number, sub-number). -/
def otherIntrHandlers (num sub : Word) (l : List IntrHandler) : List IntrHandler :=
  l.filter fun o => !(o.number == num && o.sub == sub)

/-- `registerSubIntrHandler(num, sub, handler, arg)` (R688). -/
def cmdRegisterSubIntrHandler (a : CommandArgs) (s : State) : Result :=
  answerOk { s with sched := { s.sched with
    intrHandlers := otherIntrHandlers a.a0 a.a1 s.sched.intrHandlers ++ [⟨a.a0, a.a1, a.a2, a.a3, false⟩] } }

/-- `releaseSubIntrHandler(num, sub)` (R689). -/
def cmdReleaseSubIntrHandler (a : CommandArgs) (s : State) : Result :=
  match s.intrHandler? a.a0 a.a1 with
  | none => answer s.cfg.err.unknownUid s
  | some _ => answerOk { s with sched := { s.sched with intrHandlers := otherIntrHandlers a.a0 a.a1 s.sched.intrHandlers } }

/-- Setting the enable of an interrupt record (R690, R691). -/
def setSubIntr (on : Bool) (a : CommandArgs) (s : State) : Result :=
  match s.intrHandler? a.a0 a.a1 with
  | none => answer s.cfg.err.unknownUid s
  | some _ =>
    answerOk { s with sched := { s.sched with
      intrHandlers := s.sched.intrHandlers.map fun o => if o.number = a.a0 ∧ o.sub = a.a1 then { o with enabled := on } else o } }

/-- `enableSubIntr(num, sub)` (R690). -/
def cmdEnableSubIntr (a : CommandArgs) (s : State) : Result := setSubIntr true a s

/-- `disableSubIntr(num, sub)` (R691). -/
def cmdDisableSubIntr (a : CommandArgs) (s : State) : Result := setSubIntr false a s

/-- `cpuSuspendIntr()` (R692). -/
def cmdCpuSuspendIntr (_a : CommandArgs) (s : State) : Result :=
  answer (if s.sched.intrEnabled then 1#32 else 0#32) { s with sched := { s.sched with intrEnabled := false } }

/-- `cpuResumeIntr(f)` (R693). -/
def cmdCpuResumeIntr (a : CommandArgs) (s : State) : Result :=
  answerOk { s with sched := { s.sched with intrEnabled := a.a0 != 0#32 } }

/-- A command of the scheduler (R651). -/
def runCommand (c : Command) (a : CommandArgs) (s : State) : Result :=
  match c with
  | .createThread => cmdCreateThread a s
  | .startThread => cmdStartThread a s
  | .exitThread => cmdExitThread a s
  | .exitDeleteThread => cmdExitDeleteThread a s
  | .deleteThread => cmdDeleteThread a s
  | .getThreadId => cmdGetThreadId a s
  | .sleepThread => cmdSleepThread a s
  | .sleepThreadCB => cmdSleepThreadCB a s
  | .wakeupThread => cmdWakeupThread a s
  | .delayThread => cmdDelayThread a s
  | .delayThreadCB => cmdDelayThreadCB a s
  | .waitThreadEnd => cmdWaitThreadEnd a s
  | .rotateThreadReadyQueue => cmdRotateThreadReadyQueue a s
  | .changeThreadPriority => cmdChangeThreadPriority a s
  | .createSema => cmdCreateSema a s
  | .deleteSema => cmdDeleteSema a s
  | .signalSema => cmdSignalSema a s
  | .waitSema => cmdWaitSema a s
  | .waitSemaCB => cmdWaitSemaCB a s
  | .pollSema => cmdPollSema a s
  | .createEventFlag => cmdCreateEventFlag a s
  | .deleteEventFlag => cmdDeleteEventFlag a s
  | .setEventFlag => cmdSetEventFlag a s
  | .clearEventFlag => cmdClearEventFlag a s
  | .waitEventFlag => cmdWaitEventFlag a s
  | .waitEventFlagCB => cmdWaitEventFlagCB a s
  | .pollEventFlag => cmdPollEventFlag a s
  | .createCallback => cmdCreateCallback a s
  | .deleteCallback => cmdDeleteCallback a s
  | .notifyCallback => cmdNotifyCallback a s
  | .checkCallback => cmdCheckCallback a s
  | .setAlarm => cmdSetAlarm a s
  | .cancelAlarm => cmdCancelAlarm a s
  | .registerSubIntrHandler => cmdRegisterSubIntrHandler a s
  | .releaseSubIntrHandler => cmdReleaseSubIntrHandler a s
  | .enableSubIntr => cmdEnableSubIntr a s
  | .disableSubIntr => cmdDisableSubIntr a s
  | .cpuSuspendIntr => cmdCpuSuspendIntr a s
  | .cpuResumeIntr => cmdCpuResumeIntr a s

/-! ### External handlers (44_system.md R401, R694) -/

/-- Whether a command ends its caller whenever it completes (R656, R657). -/
def exitsCaller (c : Command) : Bool := c == .exitThread || c == .exitDeleteThread

/-- An action of a handler whose earlier action has blocked or ended the caller acts as written; one that would block or end the caller
again (a second exit too, `exits`) is refused, since only a RUNNING thread blocks or exits (R622) [log 11]. -/
def onceOnly (exits : Bool) (s : State) (r : Result) : Result :=
  match s.currentThread?, r with
  | some c, .next t =>
    if c.status != .running && (exits || (t.thread? c.uid).any (fun d => d.status != c.status) ||
      decide (s.sched.waitingList.length < t.sched.waitingList.length)) then refuse .callerNotRunning
    else r
  | _, _ => r

/-- One action of an external handler. -/
def runAction (h : HandlerAction) (s : State) : Result :=
  match h with
  | .setGpr i v => .next (s.setX i v)
  | .setHi v => .next (s.setHi v)
  | .setLo v => .next (s.setLo v)
  | .storeByte a v => .next (s.storeByte a v)
  | .command c a => onceOnly (exitsCaller c) s (runCommand c a s)
  | .block id deadline => onceOnly false s (outsideNested s (withCaller s fun c => block c (.external id) deadline false s))

/-- The actions of an external handler, in order; where one raises a fatal failure, the memory and the kernel objects keep what the
earlier ones did to them (R705) [log 43]. -/
def runActions (l : List HandlerAction) (s : State) : Result :=
  match l with
  | [] => .next s
  | h :: rest => andThen (runAction h s) (runActions rest)

end Sys2Proof.Machine
end

