-- ==== Sys2Proof/Machine/System.lean ====
section
/-! DEFINITION. Machine/System.lean: `syscall` with its dispatch hook, `break`, `sync`, `cache` (44_system.md R401 to R408). -/

namespace Sys2Proof.Machine

open Sys2Proof

/-- The value a map gives a key. -/
def lookup {β : Type} (l : List (Word × β)) (k : Word) : Option β :=
  match l with
  | [] => none
  | (a, b) :: rest => if a = k then some b else lookup rest k

/-- The arguments of a command, from the caller's registers (48_scheduler.md R651). -/
def State.commandArgs (s : State) : CommandArgs := ⟨s.x 4, s.x 5, s.x 6, s.x 7, s.x 8, s.x 9⟩

/-- What the handler of a NID does to the caller's state: a scheduler command (48_scheduler.md R651), or the external `DISPATCH`; `none`
where the external handler reports `handled = false`. -/
def dispatch (nid : Word) (s : State) : Option Result :=
  match lookup s.cfg.kernelNid nid with
  | some c => some (runCommand c s.commandArgs s)
  | none =>
    let r := Config.dispatch nid s
    if r.handled then some (runActions r.actions s) else none

/-- What follows the handler of a `syscall` (R404): the pc and the poison. A handler that raised a fatal failure leaves the live
ProcessorState as `s` has it (60_exceptions.md R704) [log 43]. -/
def afterHandler (s : State) (r : Result) : Result :=
  match r with
  | .next t => .next (if t.failure.isSome then { t with cpu := s.cpu } else (t.setPc (s.cpu.pc + 4#32)).poison)
  | .fault f => .fault f
  | .refused f => .refused f

/-- R404; the code field is ignored. -/
def execSyscall (_code : BitVec 20) (s : State) : Result :=
  match lookup s.cfg.nidMap s.cpu.pc with
  | none => raise .syscall 0#32 s
  | some nid =>
    match dispatch nid s with
    | none => raise .syscall 0#32 s
    | some r => afterHandler s r

/-- R405. -/
def execBrk (_code : BitVec 20) (s : State) : Result := raise .brk 0#32 s

/-- R406. -/
def execSync (_stype : BitVec 5) (s : State) : Result := done s

/-- R407. -/
def execCache (_rs : GReg) (_op : BitVec 5) (_imm : Half) (s : State) : Result := done s

end Sys2Proof.Machine
end

