-- ==== Sys2Proof/Machine/VfpuVector.lean ====
section
/-! DEFINITION. Machine/VfpuVector.lean: vector arithmetic, compares, one-operand instructions, conversions and constants
(46_vfpu_vector.md R470 to R532). Every instruction follows the template of 45_vfpu_engine.md R420. -/

namespace Sys2Proof.Machine

open Sys2Proof

/-! ### Shapes -/

/-- A float result of lane `i`, a NaN drawn (R455). -/
def State.drawn (s : State) (i : Nat) (r : Option Word) : Word := orNaN (s.free (laneDraws + i)) r

/-- A lane-wise instruction on two operands, S from `vs` and T from `vt` (R420). -/
def vector2 (op : VfpuOp) (sz : Size) (vd vs vt : VReg) (f : Nat → Word → Word → Word) (s : State) : Result :=
  let a := s.sOperand op sz (some (sz, vd)) vs
  let b := s.tOperand op sz (some (sz, vd)) vt
  vectorEnd op sz sz vd (fun i => f i (a i) (b i)) s

/-- A lane-wise instruction on one operand (R420). -/
def vector1 (op : VfpuOp) (sz : Size) (vd vs : VReg) (f : Nat → Word → Word) (s : State) : Result :=
  let a := s.sOperand op sz (some (sz, vd)) vs
  vectorEnd op sz sz vd (fun i => f i (a i)) s

/-- `VFPU_DOT` of the first `n` lanes of two operands (45_vfpu_engine.md R456). -/
def dotLanes (n : Nat) (a b : Lanes) : Word := Config.vfpuDot ((List.range n).map a) ((List.range n).map b)

/-- A reduction to one lane by `VFPU_DOT` (45_vfpu_engine.md R456, R459). -/
def vectorDot (op : VfpuOp) (sz : Size) (vd vs vt : VReg) (s : State) : Result :=
  let a := s.sOperand op sz (some (sz, vd)) vs
  let b := s.tOperand op sz (some (sz, vd)) vt
  vectorEnd op sz .single vd (fun _ => dotLanes sz.lanes a b) s

/-- The size of half the lanes (R511). -/
def halfSize (sz : Size) : Size :=
  match sz with
  | .single => .single | .pair => .single | .triple => .single | .quad => .pair

/-- The size of twice the lanes (R512). -/
def doubleSize (sz : Size) : Size :=
  match sz with
  | .single => .pair | .pair => .quad | .triple => .quad | .quad => .quad

/-- Pair or Quad. -/
def isEvenSize (sz : Size) : Bool := sz == .pair || sz == .quad

/-- Single or Pair. -/
def isUpToPair (sz : Size) : Bool := sz == .single || sz == .pair

/-- A conversion to an output size, whose result takes only the write mask (45_vfpu_engine.md R459, R460). -/
def vectorConvert (op : VfpuOp) (sz out : Size) (vd vs : VReg) (f : Lanes → Lanes) (s : State) : Result :=
  vectorEndMasked out vd (f (s.sOperand op sz (some (sz, vd)) vs)) s

/-! ### Three-operand arithmetic (R470 to R479) -/

/-- R470. -/
def execVadd (vd vs vt : VReg) (sz : Size) (s : State) : Result :=
  vector2 .vadd sz vd vs vt (fun i a b => s.drawn i (fAdd s.cfg.ftz a b)) s

/-- R471. -/
def execVsub (vd vs vt : VReg) (sz : Size) (s : State) : Result :=
  vector2 .vsub sz vd vs vt (fun i a b => s.drawn i (fSub s.cfg.ftz a b)) s

/-- The scaled lane of `vsbn`: a NaN stays a NaN of its sign, with a drawn pattern (R472) [log 28]. -/
def scaleLane (ftz : Bool) (free a : Word) (k : Int) : Word :=
  match fScale ftz a k with
  | some p => p
  | none => (nanOf free &&& 0x7FFFFFFF#32) ||| (a &&& signBit)

/-- R472. -/
def execVsbn (vd vs vt : VReg) (sz : Size) (s : State) : Result :=
  sized (sz == .single)
    (vector2 .vsbn sz vd vs vt (fun i a b => scaleLane s.cfg.ftz (s.free (laneDraws + i)) a b.toInt) s)

/-- R473. -/
def execVdiv (vd vs vt : VReg) (sz : Size) (s : State) : Result :=
  vector2 .vdiv sz vd vs vt (fun i a b => s.drawn i (fDiv s.cfg.ftz a b)) s

/-- R474. -/
def execVmul (vd vs vt : VReg) (sz : Size) (s : State) : Result :=
  vector2 .vmul sz vd vs vt (fun i a b => s.drawn i (fMul s.cfg.ftz a b)) s

/-- R475. -/
def execVdot (vd vs vt : VReg) (sz : Size) (s : State) : Result := vectorDot .vdot sz vd vs vt s

/-- R476: the T operand is read at size Single. -/
def execVscl (vd vs vt : VReg) (sz : Size) (s : State) : Result :=
  let a := s.sOperand .vscl sz (some (sz, vd)) vs
  let b := s.tOperandAt .vscl sz .single (some (sz, vd)) vt
  sized (sz != .single) (vectorEnd .vscl sz sz vd (fun i => s.drawn i (fMul s.cfg.ftz (a i) (b 0))) s)

/-- R477. -/
def execVhdp (vd vs vt : VReg) (sz : Size) (s : State) : Result := sized (sz != .single) (vectorDot .vhdp sz vd vs vt s)

/-- R478. -/
def execVcrsT (vd vs vt : VReg) (sz : Size) (s : State) : Result :=
  sized (sz == .triple) (vector2 .vcrs sz vd vs vt (fun i a b => s.drawn i (fMul s.cfg.ftz a b)) s)

/-- `a*b - c*d`, each product rounded, then the difference (R479). -/
def productDifference (ftz : Bool) (a b c d : Word) : Option Word := do
  let p ← fMul ftz a b
  let q ← fMul ftz c d
  fSub ftz p q

/-- R479. -/
def execVdetP (vd vs vt : VReg) (sz : Size) (s : State) : Result :=
  let a := s.sOperand .vdet sz (some (sz, vd)) vs
  let b := s.tOperand .vdet sz (some (sz, vd)) vt
  sized (sz == .pair)
    (vectorEnd .vdet sz .single vd (fun _ => s.drawn 0 (productDifference s.cfg.ftz (a 0) (b 1) (a 1) (b 0))) s)

/-! ### Minimum, maximum, comparison (R480 to R484) -/

/-- A lane of `vmin` (R480); a tie draws either operand. -/
def vminLane (free a b : Word) : Word :=
  if isNaNorInf a || isNaNorInf b then
    (if a.slt 0#32 && b.slt 0#32 then (if b.slt a then a else b) else (if a.slt b then a else b))
  else if fLt a b then a
  else if fLt b a then b
  else if free.getLsbD 0 then a else b

/-- A lane of `vmax` (R481); a tie draws either operand. -/
def vmaxLane (free a b : Word) : Word :=
  if isNaNorInf a || isNaNorInf b then
    (if a.slt 0#32 && b.slt 0#32 then (if a.slt b then a else b) else (if b.slt a then a else b))
  else if fLt b a then a
  else if fLt a b then b
  else if free.getLsbD 0 then a else b

/-- A lane of `vscmp` (R482); an unordered pair draws one of the three results. -/
def vscmpLane (free a b : Word) : Word :=
  if fLt b a then oneWord
  else if fLt a b then minusOneWord
  else if fEq a b then 0#32
  else if free.toNat % 3 = 0 then minusOneWord
  else if free.toNat % 3 = 1 then 0#32
  else oneWord

/-- R480. -/
def execVmin (vd vs vt : VReg) (sz : Size) (s : State) : Result :=
  vector2 .vmin sz vd vs vt (fun i a b => vminLane (s.free (laneDraws + i)) a b) s

/-- R481. -/
def execVmax (vd vs vt : VReg) (sz : Size) (s : State) : Result :=
  vector2 .vmax sz vd vs vt (fun i a b => vmaxLane (s.free (laneDraws + i)) a b) s

/-- R482. -/
def execVscmp (vd vs vt : VReg) (sz : Size) (s : State) : Result :=
  vector2 .vscmp sz vd vs vt (fun i a b => vscmpLane (s.free (laneDraws + i)) a b) s

/-- R483. -/
def execVsge (vd vs vt : VReg) (sz : Size) (s : State) : Result :=
  vector2 .vsge sz vd vs vt (fun _ a b => if fLe b a then oneWord else 0#32) s

/-- R484. -/
def execVslt (vd vs vt : VReg) (sz : Size) (s : State) : Result :=
  vector2 .vslt sz vd vs vt (fun _ a b => if fLt a b then oneWord else 0#32) s

/-! ### Moves and constants (R485 to R492) -/

/-- R485. -/
def execVmov (vd vs : VReg) (sz : Size) (s : State) : Result := vector1 .vmov sz vd vs (fun _ a => a) s

/-- R486. -/
def execVabs (vd vs : VReg) (sz : Size) (s : State) : Result := vector1 .vabs sz vd vs (fun _ a => a &&& 0x7FFFFFFF#32) s

/-- R487. -/
def execVneg (vd vs : VReg) (sz : Size) (s : State) : Result := vector1 .vneg sz vd vs (fun _ a => a ^^^ signBit) s

/-- The lane that `vidt` sets: `vd & 1` for a Pair, `vd & 3` for a Quad (R488). -/
def vidtLane (sz : Size) (vd : VReg) : Nat := if sz = .pair then (vd.extractLsb' 0 1).toNat else (vd.extractLsb' 0 2).toNat

/-- R488. -/
def execVidt (vd _vs : VReg) (sz : Size) (s : State) : Result :=
  sized (isEvenSize sz) (vectorEnd .vidt sz sz vd (fun i => if i = vidtLane sz vd then oneWord else 0#32) s)

/-- R489. -/
def execVsat0 (vd vs : VReg) (sz : Size) (s : State) : Result := vector1 .vsat0 sz vd vs (fun _ a => fClamp 0#32 oneWord a) s

/-- R490. -/
def execVsat1 (vd vs : VReg) (sz : Size) (s : State) : Result := vector1 .vsat1 sz vd vs (fun _ a => fClamp minusOneWord oneWord a) s

/-- R491. -/
def execVzero (vd _vs : VReg) (sz : Size) (s : State) : Result := vectorEnd .vzero sz sz vd (fun _ => 0#32) s

/-- R492. -/
def execVone (vd _vs : VReg) (sz : Size) (s : State) : Result := vectorEnd .vone sz sz vd (fun _ => oneWord) s

/-! ### vcmp (R493 to R495) -/

/-- R495. -/
def execVcmp (vs vt : VReg) (sz : Size) (cond : BitVec 4) (s : State) : Result :=
  let a := s.sOperand .vcmp sz none vs
  let b := s.tOperand .vcmp sz none vt
  done ((s.setVc CReg.cc (ccUpdate sz.lanes (fun i => vcmpLane cond (a i) (b i)) (s.vc CReg.cc))).eat)

/-! ### Approximated functions (R496 to R506) -/

/-- R496. -/
def execVrcp (vd vs : VReg) (sz : Size) (s : State) : Result := vector1 .vrcp sz vd vs (fun _ a => Config.vfpuRcp a) s

/-- R497. -/
def execVrsq (vd vs : VReg) (sz : Size) (s : State) : Result := vector1 .vrsq sz vd vs (fun _ a => Config.vfpuRsq a) s

/-- R498. -/
def execVsin (vd vs : VReg) (sz : Size) (s : State) : Result := vector1 .vsin sz vd vs (fun _ a => Config.vfpuSin a) s

/-- R499. -/
def execVcos (vd vs : VReg) (sz : Size) (s : State) : Result := vector1 .vcos sz vd vs (fun _ a => Config.vfpuCos a) s

/-- R500. -/
def execVexp2 (vd vs : VReg) (sz : Size) (s : State) : Result := vector1 .vexp2 sz vd vs (fun _ a => Config.vfpuExp2 a) s

/-- R501. -/
def execVlog2 (vd vs : VReg) (sz : Size) (s : State) : Result := vector1 .vlog2 sz vd vs (fun _ a => Config.vfpuLog2 a) s

/-- R502. -/
def execVsqrt (vd vs : VReg) (sz : Size) (s : State) : Result := vector1 .vsqrt sz vd vs (fun _ a => Config.vfpuSqrt a) s

/-- R503. -/
def execVasin (vd vs : VReg) (sz : Size) (s : State) : Result := vector1 .vasin sz vd vs (fun _ a => Config.vfpuAsin a) s

/-- R504. -/
def execVnrcp (vd vs : VReg) (sz : Size) (s : State) : Result := vector1 .vnrcp sz vd vs (fun _ a => Config.vfpuRcp a ^^^ signBit) s

/-- R505. -/
def execVnsin (vd vs : VReg) (sz : Size) (s : State) : Result := vector1 .vnsin sz vd vs (fun _ a => Config.vfpuSin a ^^^ signBit) s

/-- R506. -/
def execVrexp2 (vd vs : VReg) (sz : Size) (s : State) : Result :=
  vector1 .vrexp2 sz vd vs (fun i a => s.drawn i (fDiv s.cfg.ftz oneWord (Config.vfpuExp2 a))) s

/-! ### Random numbers (R507 to R510) -/

/-- Drawing the eight PRNG registers within their mask (R507; D22) [log 27]. -/
def State.drawRcx (s : State) : State :=
  (List.range 8).foldl (fun t k => t.setVc (Fin.ofNat 16 (8 + k)) (s.free (rcxDraws + k) &&& 0x3FFFFFFF#32)) s

/-- R507. -/
def execVrnds (_vd _vs : VReg) (sz : Size) (s : State) : Result := sized (sz == .single) (done s.drawRcx.eat)

/-- R508. -/
def execVrndi (vd _vs : VReg) (sz : Size) (s : State) : Result :=
  vectorEnd .vrndi sz sz vd (fun i => s.free (laneDraws + i)) s.drawRcx

/-- R509: any pattern of a value in [1, 2). -/
def execVrndf1 (vd _vs : VReg) (sz : Size) (s : State) : Result :=
  vectorEnd .vrndf1 sz sz vd (fun i => 0x3F800000#32 ||| (s.free (laneDraws + i) &&& 0x007FFFFF#32)) s.drawRcx

/-- R510: any pattern of a value in [2, 4). -/
def execVrndf2 (vd _vs : VReg) (sz : Size) (s : State) : Result :=
  vectorEnd .vrndf2 sz sz vd (fun i => 0x40000000#32 ||| (s.free (laneDraws + i) &&& 0x007FFFFF#32)) s.drawRcx

end Sys2Proof.Machine
end

