-- ==== Sys2Proof/Machine/VfpuConv.lean ====
section
/-! DEFINITION. Machine/VfpuConv.lean: half-float and integer packing, constants, float/integer conversions, conditional moves
(46_vfpu_vector.md R511 to R532). -/

namespace Sys2Proof.Machine

open Sys2Proof

/-! ### Packing (R511 to R522) -/

/-- The low halfword. -/
def lowHalf (w : Word) : Half := w.extractLsb' 0 16

/-- The high halfword. -/
def highHalf (w : Word) : Half := w.extractLsb' 16 16

/-- Byte `i` of a word, as a word. -/
def byteOf (w : Word) (i : Nat) : Word := (w.extractLsb' (8 * i) 8).setWidth 32

/-- Two halfwords of a word, the first the low one. -/
def packHalves (lo hi : Half) : Word := hi ++ lo

/-- Four bytes of a word, the first the low one. -/
def packBytes (b0 b1 b2 b3 : Byte) : Word := b3 ++ b2 ++ b1 ++ b0

/-- R511. -/
def execVf2h (vd vs : VReg) (sz : Size) (s : State) : Result :=
  sized (isEvenSize sz) (vectorConvert .vf2h sz (halfSize sz) vd vs (fun a j =>
    packHalves (f2h (lowHalf (s.free (laneDraws + j))) (a (2 * j))) (f2h (highHalf (s.free (laneDraws + j))) (a (2 * j + 1)))) s)

/-- R512; the D prefix applies at the output size. -/
def execVh2f (vd vs : VReg) (sz : Size) (s : State) : Result :=
  let a := s.sOperand .vh2f sz (some (sz, vd)) vs
  sized (isUpToPair sz) (vectorEnd .vh2f sz (doubleSize sz) vd
    (fun i => if i % 2 = 0 then h2f (lowHalf (a (i / 2))) else h2f (highHalf (a (i / 2)))) s)

/-- R513: decoded, no meaning. -/
def execVsbz (_vd _vs : VReg) (_sz : Size) (_s : State) : Result := refuse .unmodelledVfpuOp

/-- R514: decoded, no meaning. -/
def execVlgb (_vd _vs : VReg) (_sz : Size) (_s : State) : Result := refuse .unmodelledVfpuOp

/-- R515. -/
def execVuc2i (vd vs : VReg) (sz : Size) (s : State) : Result :=
  sized (sz == .single) (vectorConvert .vuc2i sz .quad vd vs (fun a i => (byteOf (a 0) i * 0x01010101#32) >>> 1) s)

/-- R516. -/
def execVc2i (vd vs : VReg) (sz : Size) (s : State) : Result :=
  sized (sz == .single) (vectorConvert .vc2i sz .quad vd vs (fun a i => byteOf (a 0) i <<< 24) s)

/-- R517. -/
def execVus2i (vd vs : VReg) (sz : Size) (s : State) : Result :=
  sized (isUpToPair sz) (vectorConvert .vus2i sz (doubleSize sz) vd vs (fun a i =>
    if i % 2 = 0 then (lowHalf (a (i / 2))).setWidth 32 <<< 15 else (a (i / 2) &&& 0xFFFF0000#32) >>> 1) s)

/-- R518. -/
def execVs2i (vd vs : VReg) (sz : Size) (s : State) : Result :=
  sized (isUpToPair sz) (vectorConvert .vs2i sz (doubleSize sz) vd vs (fun a i =>
    if i % 2 = 0 then (lowHalf (a (i / 2))).setWidth 32 <<< 16 else a (i / 2) &&& 0xFFFF0000#32) s)

/-- `b_i` of `vi2uc` (R519). -/
def clampByte (w : Word) : Byte := if w.slt 0#32 then 0#8 else w.extractLsb' 23 8

/-- R519. -/
def execVi2uc (vd vs : VReg) (sz : Size) (s : State) : Result :=
  sized (sz == .quad) (vectorConvert .vi2uc sz .single vd vs (fun a _ =>
    packBytes (clampByte (a 0)) (clampByte (a 1)) (clampByte (a 2)) (clampByte (a 3))) s)

/-- `b_i` of `vi2c` (R520). -/
def topByte (w : Word) : Byte := w.extractLsb' 24 8

/-- R520. -/
def execVi2c (vd vs : VReg) (sz : Size) (s : State) : Result :=
  sized (sz == .quad) (vectorConvert .vi2c sz .single vd vs (fun a _ =>
    packBytes (topByte (a 0)) (topByte (a 1)) (topByte (a 2)) (topByte (a 3))) s)

/-- `h_i` of `vi2us` (R521). -/
def clampHalf (w : Word) : Half := if w.slt 0#32 then 0#16 else w.extractLsb' 15 16

/-- R521. -/
def execVi2us (vd vs : VReg) (sz : Size) (s : State) : Result :=
  sized (isEvenSize sz) (vectorConvert .vi2us sz (halfSize sz) vd vs (fun a j =>
    packHalves (clampHalf (a (2 * j))) (clampHalf (a (2 * j + 1)))) s)

/-- R522. -/
def execVi2s (vd vs : VReg) (sz : Size) (s : State) : Result :=
  sized (isEvenSize sz) (vectorConvert .vi2s sz (halfSize sz) vd vs (fun a j =>
    packHalves (highHalf (a (2 * j))) (highHalf (a (2 * j + 1)))) s)

/-! ### Constants and float/integer conversions (R523 to R529) -/

/-- `VCST[k]` (R523). -/
def vcstTable (k : BitVec 5) : Word :=
  match k with
  | 1#5 => 0x7F7FFFFF#32
  | 2#5 => 0x3FB504F3#32
  | 3#5 => 0x3F3504F3#32
  | 4#5 => 0x3F906EBB#32
  | 5#5 => 0x3F22F983#32
  | 6#5 => 0x3EA2F983#32
  | 7#5 => 0x3F490FDB#32
  | 8#5 => 0x3FC90FDB#32
  | 9#5 => 0x40490FDB#32
  | 10#5 => 0x402DF854#32
  | 11#5 => 0x3FB8AA3B#32
  | 12#5 => 0x3EDE5BD9#32
  | 13#5 => 0x3F317218#32
  | 14#5 => 0x40135D8E#32
  | 15#5 => 0x40C90FDB#32
  | 16#5 => 0x3F060A92#32
  | 17#5 => 0x3E9A209B#32
  | 18#5 => 0x40549A78#32
  | 19#5 => 0x3F5DB3D7#32
  | _ => 0x00000000#32

/-- R523. -/
def execVcst (vd : VReg) (k : BitVec 5) (sz : Size) (s : State) : Result := vectorEnd .vcst sz sz vd (fun _ => vcstTable k) s

/-- R525. -/
def execVf2in (vd vs : VReg) (scale : BitVec 5) (sz : Size) (s : State) : Result :=
  vectorConvert .vf2in sz sz vd vs (fun a i => f2iv .nearestEven scale.toNat (a i)) s

/-- R526. -/
def execVf2iz (vd vs : VReg) (scale : BitVec 5) (sz : Size) (s : State) : Result :=
  vectorConvert .vf2iz sz sz vd vs (fun a i => f2iv .towardZero scale.toNat (a i)) s

/-- R527. -/
def execVf2iu (vd vs : VReg) (scale : BitVec 5) (sz : Size) (s : State) : Result :=
  vectorConvert .vf2iu sz sz vd vs (fun a i => f2iv .towardPlus scale.toNat (a i)) s

/-- R528. -/
def execVf2id (vd vs : VReg) (scale : BitVec 5) (sz : Size) (s : State) : Result :=
  vectorConvert .vf2id sz sz vd vs (fun a i => f2iv .towardMinus scale.toNat (a i)) s

/-- R529. -/
def execVi2f (vd vs : VReg) (scale : BitVec 5) (sz : Size) (s : State) : Result :=
  vector1 .vi2f sz vd vs (fun _ a => ofScaledInt a.toInt (-(scale.toNat : Int))) s

/-! ### Conditional moves, and the last instruction without a meaning (R530 to R532) -/

/-- Whether lane `i` moves: the CC bit `imm3` for every lane, or for `imm3 = 6` the CC bit of the lane, equal to `want` (R530, R531). -/
def cmovLane (cc : Word) (imm3 : BitVec 3) (want : Bool) (i : Nat) : Bool :=
  if imm3 = 6#3 then cc.getLsbD i == want else cc.getLsbD imm3.toNat == want

/-- `vcmovt` and `vcmovf`: the old destination is the T operand (R530, R531). -/
def condMove (op : VfpuOp) (want : Bool) (vd vs : VReg) (imm3 : BitVec 3) (sz : Size) (s : State) : Result :=
  if imm3 = 7#3 then refuse .vfpuBadField
  else vector2 op sz vd vs vd (fun i a d => if cmovLane (s.vc CReg.cc) imm3 want i then a else d) s

/-- R530. -/
def execVcmovt (vd vs : VReg) (imm3 : BitVec 3) (sz : Size) (s : State) : Result := condMove .vcmovt true vd vs imm3 sz s

/-- R531. -/
def execVcmovf (vd vs : VReg) (imm3 : BitVec 3) (sz : Size) (s : State) : Result := condMove .vcmovf false vd vs imm3 sz s

/-- R532: decoded, no meaning. -/
def execVwbn (_vd _vs : VReg) (_imm8 : BitVec 8) (_sz : Size) (_s : State) : Result := refuse .unmodelledVfpuOp

end Sys2Proof.Machine
end

