-- ==== Sys2Proof/Machine/VfpuMatrix.lean ====
section
/-! DEFINITION. Machine/VfpuMatrix.lean: the VFPU miscellaneous group, immediate loads, matrix instructions and the rotation
(47_vfpu_matrix_misc.md R560 to R591). -/

namespace Sys2Proof.Machine

open Sys2Proof

/-! ### The miscellaneous group (R561 to R574) -/

/-- A result of four given lanes. -/
def lanes4 (d0 d1 d2 d3 : Word) : Lanes := fun i =>
  match i with
  | 0 => d0 | 1 => d1 | 2 => d2 | _ => d3

/-- An instruction of size Quad whose lanes are a function of the operand. -/
def quadOp (op : VfpuOp) (sz : Size) (vd vs : VReg) (f : Lanes → Lanes) (s : State) : Result :=
  sized (sz == .quad) (vectorEnd op sz sz vd (f (s.sOperand op sz (some (sz, vd)) vs)) s)

/-- R561. -/
def execVsrt1 (vd vs : VReg) (sz : Size) (s : State) : Result :=
  quadOp .vsrt1 sz vd vs (fun a =>
    lanes4 (fMinSort (a 0) (a 1)) (fMaxSort (a 0) (a 1)) (fMinSort (a 2) (a 3)) (fMaxSort (a 2) (a 3))) s

/-- R562. -/
def execVsrt2 (vd vs : VReg) (sz : Size) (s : State) : Result :=
  quadOp .vsrt2 sz vd vs (fun a =>
    lanes4 (fMinSort (a 0) (a 3)) (fMinSort (a 1) (a 2)) (fMaxSort (a 1) (a 2)) (fMaxSort (a 0) (a 3))) s

/-- R563: the T operand is read from `vs`; the override removes the user's T swizzle, abs and negate bits (`Params.default`) [log 41]. -/
def execVbfy1 (vd vs : VReg) (sz : Size) (s : State) : Result :=
  sized (isEvenSize sz) (vector2 .vbfy1 sz vd vs vs (fun i a b => s.drawn i (fAdd s.cfg.ftz a b)) s)

/-- R564: the T operand is read from `vs`. -/
def execVbfy2 (vd vs : VReg) (sz : Size) (s : State) : Result :=
  sized (sz == .quad) (vector2 .vbfy2 sz vd vs vs (fun i a b => s.drawn i (fAdd s.cfg.ftz a b)) s)

/-- R565: the T operand is read from `vs`. -/
def execVocp (vd vs : VReg) (sz : Size) (s : State) : Result :=
  vector2 .vocp sz vd vs vs (fun i a b => s.drawn i (fAdd s.cfg.ftz b a)) s

/-- R566: the prefixes produce twice the lanes, a lane beyond the operand's size reading +0.0 (D64) [log 25, 33]. -/
def execVsocp (vd vs : VReg) (sz : Size) (s : State) : Result :=
  let v : Lanes := fun i => if i < sz.lanes then s.readVector sz vs i else 0#32
  let a := applyST (s.effS .vsocp sz) sz.lanes v (fun _ => 0#32)
  let b := applyST (s.effT .vsocp sz) sz.lanes v (fun _ => 0#32)
  sized (isUpToPair sz) (vectorEnd .vsocp sz (doubleSize sz) vd (fun i => s.drawn i (fAdd s.cfg.ftz (a i) (b i))) s)

/-- R567: the T operand is the constant 1.0 [log 33]. -/
def execVfad (vd vs : VReg) (sz : Size) (s : State) : Result := vectorDot .vfad sz vd vs vs s

/-- R568: the T operand is the constant 1/n [log 33]. -/
def execVavg (vd vs : VReg) (sz : Size) (s : State) : Result := vectorDot .vavg sz vd vs vs s

/-- R569. -/
def execVsrt3 (vd vs : VReg) (sz : Size) (s : State) : Result :=
  quadOp .vsrt3 sz vd vs (fun a =>
    lanes4 (fMaxSort (a 0) (a 1)) (fMinSort (a 0) (a 1)) (fMaxSort (a 2) (a 3)) (fMinSort (a 2) (a 3))) s

/-- R570. -/
def execVsrt4 (vd vs : VReg) (sz : Size) (s : State) : Result :=
  quadOp .vsrt4 sz vd vs (fun a =>
    lanes4 (fMaxSort (a 0) (a 3)) (fMaxSort (a 1) (a 2)) (fMinSort (a 1) (a 2)) (fMinSort (a 0) (a 3))) s

/-- The sign of a lane, on bits (R571). -/
def signLane (a : Word) : Word :=
  if a &&& 0x7FFFFFFF#32 = 0#32 then 0#32 else if a.getLsbD 31 then minusOneWord else oneWord

/-- R571. -/
def execVsgn (vd vs : VReg) (sz : Size) (s : State) : Result := vector1 .vsgn sz vd vs (fun _ a => signLane a) s

/-- An RGBA8888 word as 4444 (R572). -/
def color4444 (w : Word) : Half := w.extractLsb' 28 4 ++ w.extractLsb' 20 4 ++ w.extractLsb' 12 4 ++ w.extractLsb' 4 4

/-- An RGBA8888 word as 5551 (R573). -/
def color5551 (w : Word) : Half := w.extractLsb' 31 1 ++ w.extractLsb' 19 5 ++ w.extractLsb' 11 5 ++ w.extractLsb' 3 5

/-- An RGBA8888 word as 5650 (R574). -/
def color5650 (w : Word) : Half := w.extractLsb' 19 5 ++ w.extractLsb' 10 6 ++ w.extractLsb' 3 5

/-- A colour conversion: Quad to Pair, two colours a lane (R572). -/
def colorOp (op : VfpuOp) (sz : Size) (vd vs : VReg) (c : Word → Half) (s : State) : Result :=
  sized (sz == .quad) (vectorConvert op sz .pair vd vs (fun a j => packHalves (c (a (2 * j))) (c (a (2 * j + 1)))) s)

/-- R572. -/
def execVt4444 (vd vs : VReg) (sz : Size) (s : State) : Result := colorOp .vt4444 sz vd vs color4444 s

/-- R573. -/
def execVt5551 (vd vs : VReg) (sz : Size) (s : State) : Result := colorOp .vt5551 sz vd vs color5551 s

/-- R574. -/
def execVt5650 (vd vs : VReg) (sz : Size) (s : State) : Result := colorOp .vt5650 sz vd vs color5650 s

/-! ### Immediate loads (R575, R576) -/

/-- R575. -/
def execViimS (vt : VReg) (imm16 : Half) (s : State) : Result :=
  vectorEnd .viim .single .single vt (fun _ => ofScaledInt imm16.toInt 0) s

/-- R576. -/
def execVfimS (vt : VReg) (imm16 : Half) (s : State) : Result := vectorEnd .vfim .single .single vt (fun _ => h2f imm16) s

/-! ### Matrix instructions (R577 to R590) -/

/-- The end of a matrix instruction: every element, pc, eat. -/
def matrixEnd (sz : Size) (vd : VReg) (m : Nat → Lanes) (s : State) : Result := done ((s.writeMatrix sz vd m).eat)

/-- The end of a matrix instruction with a vector result. -/
def transformEnd (sz : Size) (vd : VReg) (d : Lanes) (s : State) : Result := done ((s.writeVector sz vd d).eat)

/-- R577. -/
def execVmmul (vd vs vt : VReg) (sz : Size) (s : State) : Result :=
  matrixOp sz s (matrixEnd sz vd (fun a b => dotLanes sz.lanes (s.readMatrix sz vs b) (s.readMatrix sz vt a)) s)

/-- The matrix of side `n(sz)` times a vector of its side (R578). -/
def transform (sz : Size) (vd vs : VReg) (t : Lanes) (s : State) : Result :=
  matrixOp sz s (transformEnd sz vd (fun i => dotLanes sz.lanes (s.readMatrix sz vs i) t) s)

/-- A vector extended with the lane 1.0 (R579). -/
def homogeneous (sz : Size) (v : Lanes) : Lanes := fun i => if i < sz.lanes then v i else oneWord

/-- R578. -/
def execVtfm2P (vd vs vt : VReg) (s : State) : Result := transform .pair vd vs (s.readVector .pair vt) s

/-- R579. -/
def execVhtfm2P (vd vs vt : VReg) (s : State) : Result :=
  transform .pair vd vs (homogeneous .single (s.readVector .single vt)) s

/-- R580. -/
def execVtfm3T (vd vs vt : VReg) (s : State) : Result := transform .triple vd vs (s.readVector .triple vt) s

/-- R581. -/
def execVhtfm3T (vd vs vt : VReg) (s : State) : Result :=
  transform .triple vd vs (homogeneous .pair (s.readVector .pair vt)) s

/-- R582. -/
def execVtfm4Q (vd vs vt : VReg) (s : State) : Result := transform .quad vd vs (s.readVector .quad vt) s

/-- R583. -/
def execVhtfm4Q (vd vs vt : VReg) (s : State) : Result :=
  transform .quad vd vs (homogeneous .triple (s.readVector .triple vt)) s

/-- R584. -/
def execVmscl (vd vs vt : VReg) (sz : Size) (s : State) : Result :=
  matrixOp sz s (matrixEnd sz vd
    (fun j i => s.drawn (4 * j + i) (fMul s.cfg.ftz (s.readMatrix sz vs j i) (s.readVector .single vt 0))) s)

/-- R585. -/
def execVcrspT (vd vs vt : VReg) (s : State) : Result :=
  let a := s.sOperand .vcrsp .triple (some (.triple, vd)) vs
  let b := s.tOperand .vcrsp .triple (some (.triple, vd)) vt
  let d (i j k : Nat) : Word := s.drawn i (productDifference s.cfg.ftz (a j) (b k) (a k) (b j))
  vectorEnd .vcrsp .triple .triple vd (lanes4 (d 0 1 2) (d 1 2 0) (d 2 0 1) 0#32) s

/-- `±a*b ± c*d ± ...`, left to right, every product and partial sum rounded (R586); a term is (minus, left, right). -/
def sumProducts (ftz : Bool) (acc : Option Word) (l : List (Bool × Word × Word)) : Option Word :=
  match l with
  | [] => acc
  | (minus, a, b) :: rest =>
    let p := (fMul ftz a b).map fun p => if minus then p ^^^ signBit else p
    let next :=
      match acc, p with
      | some x, some y => fAdd ftz x y
      | _, _ => none
    sumProducts ftz next rest

/-- A sum of products: the first product, then the others. -/
def signedSum (ftz : Bool) (first : Bool × Word × Word) (rest : List (Bool × Word × Word)) : Option Word :=
  sumProducts ftz ((fMul ftz first.2.1 first.2.2).map fun p => if first.1 then p ^^^ signBit else p) rest

/-- R586. -/
def execVqmulQ (vd vs vt : VReg) (s : State) : Result :=
  let a := s.sOperand .vqmul .quad (some (.quad, vd)) vs
  let b := s.tOperand .vqmul .quad (some (.quad, vd)) vt
  let z := s.cfg.ftz
  let d0 := signedSum z (false, a 0, b 3) [(false, a 1, b 2), (true, a 2, b 1), (false, a 3, b 0)]
  let d1 := signedSum z (true, a 0, b 2) [(false, a 1, b 3), (false, a 2, b 0), (false, a 3, b 1)]
  let d2 := signedSum z (false, a 0, b 1) [(true, a 1, b 0), (false, a 2, b 3), (false, a 3, b 2)]
  let d3 := signedSum z (true, a 0, b 0) [(true, a 1, b 1), (true, a 2, b 2), (false, a 3, b 3)]
  vectorEnd .vqmul .quad .quad vd (lanes4 (s.drawn 0 d0) (s.drawn 1 d1) (s.drawn 2 d2) (s.drawn 3 d3)) s

/-- R587. -/
def execVmmov (vd vs : VReg) (sz : Size) (s : State) : Result := matrixOp sz s (matrixEnd sz vd (s.readMatrix sz vs) s)

/-- R588. -/
def execVmidt (vd _vs : VReg) (sz : Size) (s : State) : Result :=
  matrixOp sz s (matrixEnd sz vd (fun j i => if i = j then oneWord else 0#32) s)

/-- R589. -/
def execVmzero (vd _vs : VReg) (sz : Size) (s : State) : Result := matrixOp sz s (matrixEnd sz vd (fun _ _ => 0#32) s)

/-- R590. -/
def execVmone (vd _vs : VReg) (sz : Size) (s : State) : Result := matrixOp sz s (matrixEnd sz vd (fun _ _ => oneWord) s)

/-! ### Rotation (R591) -/

/-- Lane `i` of `vrot`: the cosine at `imm5[1:0]`, the sine at `imm5[3:2]`, negated by `imm5[4]`, in every other lane where the two
lanes are one (R591). -/
def rotLane (imm5 : BitVec 5) (sn cs : Word) (i : Nat) : Word :=
  let cl := (imm5.extractLsb' 0 2).toNat
  let sl := (imm5.extractLsb' 2 2).toNat
  let sine := if imm5.getLsbD 4 then sn ^^^ signBit else sn
  if i = cl then cs else if sl = cl ∨ i = sl then sine else 0#32

/-- R591. -/
def execVrot (vd vs : VReg) (imm5 : BitVec 5) (sz : Size) (s : State) : Result :=
  let a := s.sOperandAt .vrot sz .single (some (sz, vd)) vs 0
  sized (sz != .single) (vectorEnd .vrot sz sz vd (rotLane imm5 (Config.vfpuSin a) (Config.vfpuCos a)) s)

end Sys2Proof.Machine
end

