-- ==== Sys2Proof/Machine/VfpuTransfer.lean ====
section
/-! DEFINITION. Machine/VfpuTransfer.lean: the prefix-setting instructions, the transfers between the VFPU and the GPRs, and the VFPU
branches (45_vfpu_engine.md R442 to R454), and the VFPU7 no-operations (47_vfpu_matrix_misc.md R592 to R594). None of them reads or eats
a prefix. -/

namespace Sys2Proof.Machine

open Sys2Proof

/-- R442. -/
def execVpfxs (data : BitVec 20) (s : State) : Result := done (s.setVc CReg.spfx (data.setWidth 32))

/-- R443. -/
def execVpfxt (data : BitVec 20) (s : State) : Result := done (s.setVc CReg.tpfx (data.setWidth 32))

/-- R444. -/
def execVpfxd (data : BitVec 12) (s : State) : Result := done (s.setVc CReg.dpfx (data.setWidth 32))

/-- R445. -/
def execMfv (rt : GReg) (idx : BitVec 8) (s : State) : Result := done (s.setX rt (s.vr (idx.extractLsb' 0 7)))

/-- R446; a number of 16 or more writes nothing. -/
def execMfvc (rt : GReg) (c : BitVec 7) (s : State) : Result :=
  match cregOf c with
  | some k => done (s.setX rt (s.vc k))
  | none => done s

/-- R451. -/
def execMtv (rt : GReg) (idx : BitVec 8) (s : State) : Result := done (s.setVr (idx.extractLsb' 0 7) (s.x rt))

/-- R452; a number of 16 or more writes nothing. -/
def execMtvc (rt : GReg) (c : BitVec 7) (s : State) : Result :=
  match cregOf c with
  | some k => done (s.writeVc k (s.x rt))
  | none => done s

/-- R453. -/
def execVmfvc (vd : VReg) (c : BitVec 7) (s : State) : Result :=
  done (s.setVr vd (match cregOf c with
    | some k => s.vc k
    | none => 0#32))

/-- R454; a number of 16 or more writes nothing. -/
def execVmtvc (vs : VReg) (c : BitVec 7) (s : State) : Result :=
  match cregOf c with
  | some k => done (s.writeVc k (s.vr vs))
  | none => done s

/-- `vc[CC][c]`; bits 6 and 7 read as 0 (R447). -/
def State.ccBit (s : State) (c : BitVec 3) : Bool := decide (c.toNat < 6) && (s.vc CReg.cc).getLsbD c.toNat

/-- R447. -/
def execBvf (cc : BitVec 3) (imm : Half) (s : State) : Result := relBranch false (!s.ccBit cc) imm s

/-- R448. -/
def execBvt (cc : BitVec 3) (imm : Half) (s : State) : Result := relBranch false (s.ccBit cc) imm s

/-- R449. -/
def execBvfl (cc : BitVec 3) (imm : Half) (s : State) : Result := relBranch true (!s.ccBit cc) imm s

/-- R450. -/
def execBvtl (cc : BitVec 3) (imm : Half) (s : State) : Result := relBranch true (s.ccBit cc) imm s

/-- R592. -/
def execVnop (s : State) : Result := done s

/-- R593. -/
def execVsync (s : State) : Result := done s

/-- R594. -/
def execVflush (s : State) : Result := done s

end Sys2Proof.Machine
end

