-- ==== Sys2Proof/Machine/Dispatch.lean ====
section
/-! DEFINITION. Machine/Dispatch.lean: one arm for every instruction, its meaning called by its full name. -/

namespace Sys2Proof.Machine

open Sys2Proof

def exec (i : Instr) (s : State) : Host.Outcome State Fault Refusal :=
  match i with
  | .sll rt rd sa => Sys2Proof.Machine.execSll rt rd sa s
  | .sra rt rd sa => Sys2Proof.Machine.execSra rt rd sa s
  | .sllv rs rt rd sa => Sys2Proof.Machine.execSllv rs rt rd sa s
  | .srav rs rt rd sa => Sys2Proof.Machine.execSrav rs rt rd sa s
  | .jr rs => Sys2Proof.Machine.execJr rs s
  | .jalr rs rd => Sys2Proof.Machine.execJalr rs rd s
  | .movz rs rt rd sa => Sys2Proof.Machine.execMovz rs rt rd sa s
  | .movn rs rt rd sa => Sys2Proof.Machine.execMovn rs rt rd sa s
  | .syscall code => Sys2Proof.Machine.execSyscall code s
  | .brk code => Sys2Proof.Machine.execBrk code s
  | .sync stype => Sys2Proof.Machine.execSync stype s
  | .mfhi rd => Sys2Proof.Machine.execMfhi rd s
  | .mthi rs => Sys2Proof.Machine.execMthi rs s
  | .mflo rd => Sys2Proof.Machine.execMflo rd s
  | .mtlo rs => Sys2Proof.Machine.execMtlo rs s
  | .clz rs rd => Sys2Proof.Machine.execClz rs rd s
  | .clo rs rd => Sys2Proof.Machine.execClo rs rd s
  | .mult rs rt => Sys2Proof.Machine.execMult rs rt s
  | .multu rs rt => Sys2Proof.Machine.execMultu rs rt s
  | .div rs rt => Sys2Proof.Machine.execDiv rs rt s
  | .divu rs rt => Sys2Proof.Machine.execDivu rs rt s
  | .madd rs rt => Sys2Proof.Machine.execMadd rs rt s
  | .maddu rs rt => Sys2Proof.Machine.execMaddu rs rt s
  | .add rs rt rd sa => Sys2Proof.Machine.execAdd rs rt rd sa s
  | .addu rs rt rd sa => Sys2Proof.Machine.execAddu rs rt rd sa s
  | .sub rs rt rd sa => Sys2Proof.Machine.execSub rs rt rd sa s
  | .subu rs rt rd sa => Sys2Proof.Machine.execSubu rs rt rd sa s
  | .and rs rt rd sa => Sys2Proof.Machine.execAnd rs rt rd sa s
  | .or rs rt rd sa => Sys2Proof.Machine.execOr rs rt rd sa s
  | .xor rs rt rd sa => Sys2Proof.Machine.execXor rs rt rd sa s
  | .nor rs rt rd sa => Sys2Proof.Machine.execNor rs rt rd sa s
  | .slt rs rt rd sa => Sys2Proof.Machine.execSlt rs rt rd sa s
  | .sltu rs rt rd sa => Sys2Proof.Machine.execSltu rs rt rd sa s
  | .max rs rt rd sa => Sys2Proof.Machine.execMax rs rt rd sa s
  | .min rs rt rd sa => Sys2Proof.Machine.execMin rs rt rd sa s
  | .msub rs rt => Sys2Proof.Machine.execMsub rs rt s
  | .msubu rs rt => Sys2Proof.Machine.execMsubu rs rt s
  | .srl rt rd sa => Sys2Proof.Machine.execSrl rt rd sa s
  | .rotr rt rd sa => Sys2Proof.Machine.execRotr rt rd sa s
  | .srlv rs rt rd sa => Sys2Proof.Machine.execSrlv rs rt rd sa s
  | .rotrv rs rt rd sa => Sys2Proof.Machine.execRotrv rs rt rd sa s
  | .bltz rs imm => Sys2Proof.Machine.execBltz rs imm s
  | .bgez rs imm => Sys2Proof.Machine.execBgez rs imm s
  | .bltzl rs imm => Sys2Proof.Machine.execBltzl rs imm s
  | .bgezl rs imm => Sys2Proof.Machine.execBgezl rs imm s
  | .bltzal rs imm => Sys2Proof.Machine.execBltzal rs imm s
  | .bgezal rs imm => Sys2Proof.Machine.execBgezal rs imm s
  | .bltzall rs imm => Sys2Proof.Machine.execBltzall rs imm s
  | .bgezall rs imm => Sys2Proof.Machine.execBgezall rs imm s
  | .j target => Sys2Proof.Machine.execJ target s
  | .jal target => Sys2Proof.Machine.execJal target s
  | .beq rs rt imm => Sys2Proof.Machine.execBeq rs rt imm s
  | .bne rs rt imm => Sys2Proof.Machine.execBne rs rt imm s
  | .blez rs rt imm => Sys2Proof.Machine.execBlez rs rt imm s
  | .bgtz rs rt imm => Sys2Proof.Machine.execBgtz rs rt imm s
  | .addi rs rt imm => Sys2Proof.Machine.execAddi rs rt imm s
  | .addiu rs rt imm => Sys2Proof.Machine.execAddiu rs rt imm s
  | .slti rs rt imm => Sys2Proof.Machine.execSlti rs rt imm s
  | .sltiu rs rt imm => Sys2Proof.Machine.execSltiu rs rt imm s
  | .andi rs rt imm => Sys2Proof.Machine.execAndi rs rt imm s
  | .ori rs rt imm => Sys2Proof.Machine.execOri rs rt imm s
  | .xori rs rt imm => Sys2Proof.Machine.execXori rs rt imm s
  | .lui rt imm => Sys2Proof.Machine.execLui rt imm s
  | .beql rs rt imm => Sys2Proof.Machine.execBeql rs rt imm s
  | .bnel rs rt imm => Sys2Proof.Machine.execBnel rs rt imm s
  | .blezl rs rt imm => Sys2Proof.Machine.execBlezl rs rt imm s
  | .bgtzl rs rt imm => Sys2Proof.Machine.execBgtzl rs rt imm s
  | .lb rs rt imm => Sys2Proof.Machine.execLb rs rt imm s
  | .lh rs rt imm => Sys2Proof.Machine.execLh rs rt imm s
  | .lwl rs rt imm => Sys2Proof.Machine.execLwl rs rt imm s
  | .lw rs rt imm => Sys2Proof.Machine.execLw rs rt imm s
  | .lbu rs rt imm => Sys2Proof.Machine.execLbu rs rt imm s
  | .lhu rs rt imm => Sys2Proof.Machine.execLhu rs rt imm s
  | .lwr rs rt imm => Sys2Proof.Machine.execLwr rs rt imm s
  | .sb rs rt imm => Sys2Proof.Machine.execSb rs rt imm s
  | .sh rs rt imm => Sys2Proof.Machine.execSh rs rt imm s
  | .swl rs rt imm => Sys2Proof.Machine.execSwl rs rt imm s
  | .sw rs rt imm => Sys2Proof.Machine.execSw rs rt imm s
  | .swr rs rt imm => Sys2Proof.Machine.execSwr rs rt imm s
  | .cache rs op imm => Sys2Proof.Machine.execCache rs op imm s
  | .ll rs rt imm => Sys2Proof.Machine.execLl rs rt imm s
  | .lwc1 rs ft imm => Sys2Proof.Machine.execLwc1 rs ft imm s
  | .sc rs rt imm => Sys2Proof.Machine.execSc rs rt imm s
  | .swc1 rs ft imm => Sys2Proof.Machine.execSwc1 rs ft imm s
  | .ext rs rt msbd lsb => Sys2Proof.Machine.execExt rs rt msbd lsb s
  | .ins rs rt msb lsb => Sys2Proof.Machine.execIns rs rt msb lsb s
  | .wsbh rt rd => Sys2Proof.Machine.execWsbh rt rd s
  | .wsbw rt rd => Sys2Proof.Machine.execWsbw rt rd s
  | .seb rt rd => Sys2Proof.Machine.execSeb rt rd s
  | .bitrev rt rd => Sys2Proof.Machine.execBitrev rt rd s
  | .seh rt rd => Sys2Proof.Machine.execSeh rt rd s
  | .mfc1 rt fs => Sys2Proof.Machine.execMfc1 rt fs s
  | .cfc1 rt fs => Sys2Proof.Machine.execCfc1 rt fs s
  | .mtc1 rt fs => Sys2Proof.Machine.execMtc1 rt fs s
  | .ctc1 rt fs => Sys2Proof.Machine.execCtc1 rt fs s
  | .bc1f imm => Sys2Proof.Machine.execBc1f imm s
  | .bc1t imm => Sys2Proof.Machine.execBc1t imm s
  | .bc1fl imm => Sys2Proof.Machine.execBc1fl imm s
  | .bc1tl imm => Sys2Proof.Machine.execBc1tl imm s
  | .addS ft fs fd => Sys2Proof.Machine.execAddS ft fs fd s
  | .subS ft fs fd => Sys2Proof.Machine.execSubS ft fs fd s
  | .mulS ft fs fd => Sys2Proof.Machine.execMulS ft fs fd s
  | .divS ft fs fd => Sys2Proof.Machine.execDivS ft fs fd s
  | .sqrtS fs fd => Sys2Proof.Machine.execSqrtS fs fd s
  | .absS fs fd => Sys2Proof.Machine.execAbsS fs fd s
  | .movS fs fd => Sys2Proof.Machine.execMovS fs fd s
  | .negS fs fd => Sys2Proof.Machine.execNegS fs fd s
  | .roundWS fs fd => Sys2Proof.Machine.execRoundWS fs fd s
  | .truncWS fs fd => Sys2Proof.Machine.execTruncWS fs fd s
  | .ceilWS fs fd => Sys2Proof.Machine.execCeilWS fs fd s
  | .floorWS fs fd => Sys2Proof.Machine.execFloorWS fs fd s
  | .cvtWS fs fd => Sys2Proof.Machine.execCvtWS fs fd s
  | .cvtSW fs fd => Sys2Proof.Machine.execCvtSW fs fd s
  | .cFS ft fs => Sys2Proof.Machine.execCFS ft fs s
  | .cUnS ft fs => Sys2Proof.Machine.execCUnS ft fs s
  | .cEqS ft fs => Sys2Proof.Machine.execCEqS ft fs s
  | .cUeqS ft fs => Sys2Proof.Machine.execCUeqS ft fs s
  | .cOltS ft fs => Sys2Proof.Machine.execCOltS ft fs s
  | .cUltS ft fs => Sys2Proof.Machine.execCUltS ft fs s
  | .cOleS ft fs => Sys2Proof.Machine.execCOleS ft fs s
  | .cUleS ft fs => Sys2Proof.Machine.execCUleS ft fs s
  | .cSfS ft fs => Sys2Proof.Machine.execCSfS ft fs s
  | .cNgleS ft fs => Sys2Proof.Machine.execCNgleS ft fs s
  | .cSeqS ft fs => Sys2Proof.Machine.execCSeqS ft fs s
  | .cNglS ft fs => Sys2Proof.Machine.execCNglS ft fs s
  | .cLtS ft fs => Sys2Proof.Machine.execCLtS ft fs s
  | .cNgeS ft fs => Sys2Proof.Machine.execCNgeS ft fs s
  | .cLeS ft fs => Sys2Proof.Machine.execCLeS ft fs s
  | .cNgtS ft fs => Sys2Proof.Machine.execCNgtS ft fs s
  | .mfv rt idx => Sys2Proof.Machine.execMfv rt idx s
  | .mfvc rt c => Sys2Proof.Machine.execMfvc rt c s
  | .mtv rt idx => Sys2Proof.Machine.execMtv rt idx s
  | .mtvc rt c => Sys2Proof.Machine.execMtvc rt c s
  | .bvf cc imm => Sys2Proof.Machine.execBvf cc imm s
  | .bvt cc imm => Sys2Proof.Machine.execBvt cc imm s
  | .bvfl cc imm => Sys2Proof.Machine.execBvfl cc imm s
  | .bvtl cc imm => Sys2Proof.Machine.execBvtl cc imm s
  | .vadd vd vs vt sz => Sys2Proof.Machine.execVadd vd vs vt sz s
  | .vsub vd vs vt sz => Sys2Proof.Machine.execVsub vd vs vt sz s
  | .vsbn vd vs vt sz => Sys2Proof.Machine.execVsbn vd vs vt sz s
  | .vdiv vd vs vt sz => Sys2Proof.Machine.execVdiv vd vs vt sz s
  | .vmul vd vs vt sz => Sys2Proof.Machine.execVmul vd vs vt sz s
  | .vdot vd vs vt sz => Sys2Proof.Machine.execVdot vd vs vt sz s
  | .vscl vd vs vt sz => Sys2Proof.Machine.execVscl vd vs vt sz s
  | .vhdp vd vs vt sz => Sys2Proof.Machine.execVhdp vd vs vt sz s
  | .vcrsT vd vs vt sz => Sys2Proof.Machine.execVcrsT vd vs vt sz s
  | .vdetP vd vs vt sz => Sys2Proof.Machine.execVdetP vd vs vt sz s
  | .vcmp vs vt sz cond => Sys2Proof.Machine.execVcmp vs vt sz cond s
  | .vmin vd vs vt sz => Sys2Proof.Machine.execVmin vd vs vt sz s
  | .vmax vd vs vt sz => Sys2Proof.Machine.execVmax vd vs vt sz s
  | .vscmp vd vs vt sz => Sys2Proof.Machine.execVscmp vd vs vt sz s
  | .vsge vd vs vt sz => Sys2Proof.Machine.execVsge vd vs vt sz s
  | .vslt vd vs vt sz => Sys2Proof.Machine.execVslt vd vs vt sz s
  | .vmov vd vs sz => Sys2Proof.Machine.execVmov vd vs sz s
  | .vabs vd vs sz => Sys2Proof.Machine.execVabs vd vs sz s
  | .vneg vd vs sz => Sys2Proof.Machine.execVneg vd vs sz s
  | .vidt vd vs sz => Sys2Proof.Machine.execVidt vd vs sz s
  | .vsat0 vd vs sz => Sys2Proof.Machine.execVsat0 vd vs sz s
  | .vsat1 vd vs sz => Sys2Proof.Machine.execVsat1 vd vs sz s
  | .vzero vd vs sz => Sys2Proof.Machine.execVzero vd vs sz s
  | .vone vd vs sz => Sys2Proof.Machine.execVone vd vs sz s
  | .vrcp vd vs sz => Sys2Proof.Machine.execVrcp vd vs sz s
  | .vrsq vd vs sz => Sys2Proof.Machine.execVrsq vd vs sz s
  | .vsin vd vs sz => Sys2Proof.Machine.execVsin vd vs sz s
  | .vcos vd vs sz => Sys2Proof.Machine.execVcos vd vs sz s
  | .vexp2 vd vs sz => Sys2Proof.Machine.execVexp2 vd vs sz s
  | .vlog2 vd vs sz => Sys2Proof.Machine.execVlog2 vd vs sz s
  | .vsqrt vd vs sz => Sys2Proof.Machine.execVsqrt vd vs sz s
  | .vasin vd vs sz => Sys2Proof.Machine.execVasin vd vs sz s
  | .vnrcp vd vs sz => Sys2Proof.Machine.execVnrcp vd vs sz s
  | .vnsin vd vs sz => Sys2Proof.Machine.execVnsin vd vs sz s
  | .vrexp2 vd vs sz => Sys2Proof.Machine.execVrexp2 vd vs sz s
  | .vrnds vd vs sz => Sys2Proof.Machine.execVrnds vd vs sz s
  | .vrndi vd vs sz => Sys2Proof.Machine.execVrndi vd vs sz s
  | .vrndf1 vd vs sz => Sys2Proof.Machine.execVrndf1 vd vs sz s
  | .vrndf2 vd vs sz => Sys2Proof.Machine.execVrndf2 vd vs sz s
  | .vf2h vd vs sz => Sys2Proof.Machine.execVf2h vd vs sz s
  | .vh2f vd vs sz => Sys2Proof.Machine.execVh2f vd vs sz s
  | .vsbz vd vs sz => Sys2Proof.Machine.execVsbz vd vs sz s
  | .vlgb vd vs sz => Sys2Proof.Machine.execVlgb vd vs sz s
  | .vuc2i vd vs sz => Sys2Proof.Machine.execVuc2i vd vs sz s
  | .vc2i vd vs sz => Sys2Proof.Machine.execVc2i vd vs sz s
  | .vus2i vd vs sz => Sys2Proof.Machine.execVus2i vd vs sz s
  | .vs2i vd vs sz => Sys2Proof.Machine.execVs2i vd vs sz s
  | .vi2uc vd vs sz => Sys2Proof.Machine.execVi2uc vd vs sz s
  | .vi2c vd vs sz => Sys2Proof.Machine.execVi2c vd vs sz s
  | .vi2us vd vs sz => Sys2Proof.Machine.execVi2us vd vs sz s
  | .vi2s vd vs sz => Sys2Proof.Machine.execVi2s vd vs sz s
  | .vsrt1 vd vs sz => Sys2Proof.Machine.execVsrt1 vd vs sz s
  | .vsrt2 vd vs sz => Sys2Proof.Machine.execVsrt2 vd vs sz s
  | .vbfy1 vd vs sz => Sys2Proof.Machine.execVbfy1 vd vs sz s
  | .vbfy2 vd vs sz => Sys2Proof.Machine.execVbfy2 vd vs sz s
  | .vocp vd vs sz => Sys2Proof.Machine.execVocp vd vs sz s
  | .vsocp vd vs sz => Sys2Proof.Machine.execVsocp vd vs sz s
  | .vfad vd vs sz => Sys2Proof.Machine.execVfad vd vs sz s
  | .vavg vd vs sz => Sys2Proof.Machine.execVavg vd vs sz s
  | .vsrt3 vd vs sz => Sys2Proof.Machine.execVsrt3 vd vs sz s
  | .vsrt4 vd vs sz => Sys2Proof.Machine.execVsrt4 vd vs sz s
  | .vsgn vd vs sz => Sys2Proof.Machine.execVsgn vd vs sz s
  | .vt4444 vd vs sz => Sys2Proof.Machine.execVt4444 vd vs sz s
  | .vt5551 vd vs sz => Sys2Proof.Machine.execVt5551 vd vs sz s
  | .vt5650 vd vs sz => Sys2Proof.Machine.execVt5650 vd vs sz s
  | .vmfvc vd c => Sys2Proof.Machine.execVmfvc vd c s
  | .vmtvc vs c => Sys2Proof.Machine.execVmtvc vs c s
  | .vcst vd k sz => Sys2Proof.Machine.execVcst vd k sz s
  | .vf2in vd vs scale sz => Sys2Proof.Machine.execVf2in vd vs scale sz s
  | .vf2iz vd vs scale sz => Sys2Proof.Machine.execVf2iz vd vs scale sz s
  | .vf2iu vd vs scale sz => Sys2Proof.Machine.execVf2iu vd vs scale sz s
  | .vf2id vd vs scale sz => Sys2Proof.Machine.execVf2id vd vs scale sz s
  | .vi2f vd vs scale sz => Sys2Proof.Machine.execVi2f vd vs scale sz s
  | .vcmovt vd vs imm3 sz => Sys2Proof.Machine.execVcmovt vd vs imm3 sz s
  | .vcmovf vd vs imm3 sz => Sys2Proof.Machine.execVcmovf vd vs imm3 sz s
  | .vwbn vd vs imm8 sz => Sys2Proof.Machine.execVwbn vd vs imm8 sz s
  | .vpfxs data => Sys2Proof.Machine.execVpfxs data s
  | .vpfxt data => Sys2Proof.Machine.execVpfxt data s
  | .vpfxd data => Sys2Proof.Machine.execVpfxd data s
  | .viimS vt imm16 => Sys2Proof.Machine.execViimS vt imm16 s
  | .vfimS vt imm16 => Sys2Proof.Machine.execVfimS vt imm16 s
  | .vmmul vd vs vt sz => Sys2Proof.Machine.execVmmul vd vs vt sz s
  | .vtfm2P vd vs vt => Sys2Proof.Machine.execVtfm2P vd vs vt s
  | .vhtfm2P vd vs vt => Sys2Proof.Machine.execVhtfm2P vd vs vt s
  | .vtfm3T vd vs vt => Sys2Proof.Machine.execVtfm3T vd vs vt s
  | .vhtfm3T vd vs vt => Sys2Proof.Machine.execVhtfm3T vd vs vt s
  | .vtfm4Q vd vs vt => Sys2Proof.Machine.execVtfm4Q vd vs vt s
  | .vhtfm4Q vd vs vt => Sys2Proof.Machine.execVhtfm4Q vd vs vt s
  | .vmscl vd vs vt sz => Sys2Proof.Machine.execVmscl vd vs vt sz s
  | .vcrspT vd vs vt => Sys2Proof.Machine.execVcrspT vd vs vt s
  | .vqmulQ vd vs vt => Sys2Proof.Machine.execVqmulQ vd vs vt s
  | .vmmov vd vs sz => Sys2Proof.Machine.execVmmov vd vs sz s
  | .vmidt vd vs sz => Sys2Proof.Machine.execVmidt vd vs sz s
  | .vmzero vd vs sz => Sys2Proof.Machine.execVmzero vd vs sz s
  | .vmone vd vs sz => Sys2Proof.Machine.execVmone vd vs sz s
  | .vrot vd vs imm5 sz => Sys2Proof.Machine.execVrot vd vs imm5 sz s
  | .vnop => Sys2Proof.Machine.execVnop s
  | .vsync => Sys2Proof.Machine.execVsync s
  | .vflush => Sys2Proof.Machine.execVflush s
  | .lvS rs vt5 off vthi => Sys2Proof.Machine.execLvS rs vt5 off vthi s
  | .svS rs vt5 off vthi => Sys2Proof.Machine.execSvS rs vt5 off vthi s
  | .lvQ rs vt5 off vthi => Sys2Proof.Machine.execLvQ rs vt5 off vthi s
  | .svQ rs vt5 off vthi wb => Sys2Proof.Machine.execSvQ rs vt5 off vthi wb s
  | .lvlQ rs vt5 off vthi => Sys2Proof.Machine.execLvlQ rs vt5 off vthi s
  | .lvrQ rs vt5 off vthi => Sys2Proof.Machine.execLvrQ rs vt5 off vthi s
  | .svlQ rs vt5 off vthi => Sys2Proof.Machine.execSvlQ rs vt5 off vthi s
  | .svrQ rs vt5 off vthi => Sys2Proof.Machine.execSvrQ rs vt5 off vthi s

end Sys2Proof.Machine
end

