-- ==== Sys2Proof/Machine/Cpu.lean ====
section
/-! DEFINITION. Machine/Cpu.lean: one step of the core, fetch, decode, execute, delay-slot resolution (41_branch.md R280, 20_memory.md
R95), and the host's single-instruction interface (44_system.md R409). -/

namespace Sys2Proof.Machine

open Sys2Proof

/-- `x[0] <- 0` (41_branch.md R280). -/
def State.zeroX0 (s : State) : State := { s with cpu := { s.cpu with gpr := s.cpu.gpr.set 0 0#32 } }

/-- What follows a completed instruction (R280): register 0, the instruction's free values [log 9], and the latched transfer of the
previous step, if there was one. -/
def settle (slot : Bool) (target : Word) (s : State) : State :=
  let t := s.zeroX0.takeDraws drawsPerInstruction
  if slot then t.resolveSlot target else t

/-- Executing a decoded instruction at the current pc (R280): a fatal failure ends the step before anything else. -/
def executeInstr (i : Instr) (s : State) : Result :=
  match exec i s with
  | .next t => if t.failure.isSome then .next t else .next (settle s.pending s.cpu.branchPC t)
  | .fault f => .fault f
  | .refused r => .refused r

/-- The fatal cause of a word that is no instruction (30_encoding.md R142). -/
def DecodeError.cause (e : DecodeError) : FatalCause :=
  match e with
  | .unknownOpcode => .unknownOpcode
  | .unknownVfpu => .unknownVfpu
  | .truncated => .unknownOpcode

/-- Executing a word at the current pc (R280, R142). -/
def executeWord (w : Word) (s : State) : Result :=
  let t := { s with ir := w }
  match decode w with
  | .ok i => executeInstr i t
  | .error e => raise (DecodeError.cause e) 0#32 t

/-- The fetch and the execution of one instruction (20_memory.md R95, R706 (1), (2)); a fetch fault records the word 0 (R704). -/
def fetchAndExecute (s : State) : Result :=
  let t := { s with ir := 0#32 }
  if s.cpu.pc.toNat % 4 ≠ 0 then raise .fetchAlign s.cpu.pc t
  else if bytesResolve s.cfg s.cpu.pc 4 then executeWord (s.loadWord s.cpu.pc) t
  else raise .fetchAddress s.cpu.pc t

/-- `interpretOneInstruction(opcode)` (44_system.md R409): the state after it and its result. A refusal is marked in the state (10_state.md
R48). -/
def interpretOneInstruction (w : Word) (s : State) : State × Bool :=
  if s.failure.isSome || s.refused.isSome then (s, false)
  else
    match executeWord w s with
    | .next t => (t, t.failure.isNone)
    | .refused r => ({ s with refused := some r }, true)
    | .fault _ => (s, false)

end Sys2Proof.Machine
end

