-- ==== Sys2Proof/Machine/Scheduler.lean ====
section
/-! DEFINITION. Machine/Scheduler.lean: the quantum loop (48_scheduler.md R627 to R647), cut where one instruction of guest code runs: every
definition here is what the pseudocode does between two instructions [log 16]. -/

namespace Sys2Proof.Machine

open Sys2Proof

/-- Writing the phase. -/
def State.setPhase (s : State) (p : Phase) : State := { s with sched := { s.sched with phase := p } }

/-! ### The call and the quantum's start (R627, R628) -/

/-- `runInterpreterForCycles(cycles)` is called (R627); a negative argument spends nothing, like 0. -/
def State.startCall (s : State) (cycles : Int) : State :=
  { s with sched := { s.sched with callCycles := cycles.toNat, consumed := 0, phase := .frame } }

/-- The embedding application makes its next call (R627) [log 16]. -/
def beginCall (s : State) : State :=
  match s.sched.calls with
  | cycles :: rest => { s with sched := { s.sched with calls := rest } }.startCall cycles
  | [] => s.startCall s.cfg.frameBudget

/-- Step 1 (R631): the first thread of the ready queue. -/
def State.selectReady (s : State) : Option PSPThread :=
  match s.sched.readyQueue with
  | u :: _ => s.thread? u
  | [] => none

/-- Step 2 (R633): the Context of `th` becomes the live state, no transfer is pending, and `th` is RUNNING and current. -/
def State.loadThread (s : State) (th : PSPThread) : State :=
  let t := s.updateThread th.uid fun r => { r with status := .running }
  { t with
    cpu := { th.ctx with branchPC := s.cpu.branchPC, requiredBranching := false, requiredJumping := false }
    sched := { t.sched with readyQueue := t.sched.readyQueue.erase th.uid, current := some th.uid } }

/-- The loop head of a call (R627), and the start of a quantum if the budget is not spent: downcount (R641), steps 1 and 2. -/
def frameStep (s : State) : State :=
  if s.sched.callCycles ≤ s.sched.consumed then s.setPhase .host
  else
    let budget := min s.cfg.quantumCycles (s.sched.callCycles - s.sched.consumed)
    let t := { s with sched := { s.sched with downcount := (budget : Int) } }
    match t.selectReady with
    | some th => (t.loadThread th).setPhase .run
    | none => t.setPhase (.callbacks [])

/-! ### Step 3, the run loop (R634, R635, R641) -/

/-- The accounting of one step of the run loop (R641). -/
def State.account (s : State) : State :=
  { s with sched := { s.sched with
      downcount := s.sched.downcount - (s.cfg.cyclesPerInsn : Int)
      now := s.sched.now + s.cfg.cyclesPerInsn
      consumed := s.sched.consumed + s.cfg.cyclesPerInsn } }

/-- The accounting of one step of a nested run (R637, R641). -/
def State.accountNested (s : State) : State :=
  { s with sched := { s.sched with now := s.sched.now + s.cfg.cyclesPerInsn, consumed := s.sched.consumed + s.cfg.cyclesPerInsn } }

/-- The callbacks that step 4 runs for a thread (R638): owned by it and notified, in creation order [log 22]. -/
def State.notifiedCallbacks (s : State) (u : Word) : List Word :=
  (s.sched.callbacks.filter fun c => c.owner == u && decide (0 < c.notifyCount)).map (·.uid)

/-- The end of the run loop (R634): the yield request is cleared and step 4 begins (R638). -/
def endRunLoop (s : State) : State :=
  let t := { s with sched := { s.sched with yieldRequested := false } }
  match t.currentThread? with
  | some c => t.setPhase (.callbacks (if c.callbackPending then t.notifiedCallbacks c.uid else []))
  | none => t.setPhase (.callbacks [])

/-- Whether the stop test of the run loop holds (R634). -/
def State.quantumOver (s : State) : Bool :=
  decide (s.sched.downcount ≤ 0) || s.sched.yieldRequested ||
    match s.currentThread? with
    | some c => c.status != .running
    | none => true

/-- An instruction step with its accounting, which a faulting step has too (R641). -/
def accounted (f : State → State) (r : Result) : Result :=
  match r with
  | .next t => .next (f t)
  | .fault e => .fault e
  | .refused e => .refused e

/-- One turn of the run loop (R634): with a transfer pending no test is made; the exit trampoline exits the thread (R635). -/
def runStep (s : State) : Result :=
  if s.pending then accounted State.account (fetchAndExecute s)
  else if s.quantumOver then .next (endRunLoop s)
  else if s.cpu.pc = s.cfg.threadExitAddr then
    match s.currentThread? with
    | some c => .next (endRunLoop (exitCurrent c (s.x 2) false s))
    | none => .next (endRunLoop s)
  else accounted State.account (fetchAndExecute s)

/-! ### Nested runs and step 4 (R637, R638) -/

/-- What remains of a phase when its nested run has returned: the callback's count is cleared (R638). -/
def afterNested (s : State) : State :=
  match s.sched.phase with
  | .callbacks (u :: rest) => (s.updateCallback u fun q => { q with notifyCount := 0 }).setPhase (.callbacks rest)
  | _ => s

/-- One turn of the loop of a nested run (R637). -/
def nestedStep (saved : ProcessorState) (s : State) : Result :=
  if s.cpu.pc = s.cfg.handlerReturnAddr ∧ s.pending = false then .next (afterNested (s.leaveHandler saved))
  else if s.cpu.pc = s.cfg.threadExitAddr then refuse .unmodelledKernelCase
  else accounted State.accountNested (fetchAndExecute s)

/-- Whether a source (number, sub-number) comes before another in ascending order (D96). -/
def sourceBefore (p q : Word × Word) : Bool := decide (p.1 < q.1) || (p.1 == q.1 && decide (p.2 < q.2))

/-- A source takes its place among ascending ones, each once. -/
def insertSource (p : Word × Word) (l : List (Word × Word)) : List (Word × Word) :=
  match l with
  | [] => [p]
  | q :: rest => if sourceBefore p q then p :: q :: rest else if p = q then q :: rest else q :: insertSource p rest

/-- The sources that become pending in a quantum (R640): those whose draw says so [log 14], in ascending order (D96). -/
def State.arrivingSources (s : State) : List (Word × Word) :=
  (s.cfg.intrSources.filter fun p => Config.intrArrives s.drawCount p).foldr insertSource []

/-- The arrivals of a quantum (R640). -/
def State.arrivals (s : State) : List PendingEntry := s.arrivingSources.map fun p => .interrupt p.1 p.2

/-- The end of step 4 (R638: a thread no longer in a wait with callbacks loses its pending bit; a WAITING thread whose bit is set counts as
being in one, however it came to be set, DESIGN CHOICE [log 46]), and the arrivals of step 5 (R640). -/
def endCallbacks (s : State) : State :=
  let t :=
    match s.currentThread? with
    | some c => if c.status = ThreadStatus.waiting then s else s.updateThread c.uid fun r => { r with callbackPending := false }
    | none => s
  let queue := t.sched.pendingIntr ++ t.arrivals
  { t with sched := { t.sched with pendingIntr := queue, phase := .interrupts queue.length }, drawCount := t.drawCount + 1 }

/-- The next callback of step 4 (R638); one that was deleted meanwhile is passed over [log 22]. -/
def callbackStep (todo : List Word) (s : State) : State :=
  match todo with
  | [] => endCallbacks s
  | u :: rest =>
    match s.callback? u with
    | some c => s.enterHandler c.handler (BitVec.ofNat 32 c.notifyCount) c.notifyArg c.arg
    | none => s.setPhase (.callbacks rest)

/-! ### Step 5 (R640) -/

/-- The next entry of `pendingIntr` (R640, 60_exceptions.md R708, R709): while interrupts are enabled the first one is removed, and runs if
its record is enabled, or if it is an alarm [log 21]. -/
def interruptStep (left : Nat) (s : State) : State :=
  match left, s.sched.pendingIntr with
  | n + 1, e :: rest =>
    if s.sched.intrEnabled then
      let t := { s with sched := { s.sched with pendingIntr := rest, phase := .interrupts n } }
      match e with
      | .interrupt num sub =>
        match t.intrHandler? num sub with
        | some h => if h.enabled then t.enterHandler h.handler sub h.arg 0#32 else t
        | none => t
      | .alarm handler arg => t.enterHandler handler arg 0#32 0#32
    else s.setPhase .reevaluate
  | _, _ => s.setPhase .reevaluate

/-! ### Step 6 (R642) -/

/-- `cond(w)` of a waiting thread (R650). -/
def State.waitDone (s : State) (th : PSPThread) : Bool :=
  match th.wait with
  | .none => false
  | .sleep => decide (0 < th.wakeupCount)
  | .delay => match th.deadline with
    | some d => decide (d ≤ s.sched.now)
    | none => false
  | .sema u need => match s.sema? u with
    | some o => decide (need ≤ o.count)
    | none => false
  | .eventFlag u pattern mode _ => match s.eventFlag? u with
    | some o => evfMatch o.bits pattern mode
    | none => false
  | .threadEnd u => match s.thread? u with
    | some t => t.status == .dormant
    | none => false
  | .external id => Config.extWaitDone id s

/-- The side effect of a satisfied wait (R650); an event flag's report may fault, outside a step (R704). -/
def waitEffect (th : PSPThread) (s : State) : Result :=
  match th.wait with
  | .sleep => .next (s.updateThread th.uid fun t => { t with wakeupCount := t.wakeupCount - 1 })
  | .sema u need => match s.sema? u with
    | some o => .next (s.setSemaCount u (o.count - need))
    | none => .next s
  | .eventFlag u pattern mode outAddr => match s.eventFlag? u with
    | some o => evfReport 0#32 o pattern mode outAddr s
    | none => .next s
  | _ => .next s

/-- The success value of a wait (R650). -/
def State.waitValue (s : State) (th : PSPThread) : Word :=
  match th.wait with
  | .threadEnd u => match s.thread? u with
    | some t => t.exitStatus
    | none => s.cfg.err.ok
  | .external id => Config.extWaitResult id
  | _ => s.cfg.err.ok

/-- `release(w)` (R642). -/
def release (u : Word) (s : State) : Result :=
  let t := s.updateThread u fun r => { r with callbackPending := false, wait := .none, deadline := none }
  enqueueReady u { t with sched := { t.sched with waitingList := t.sched.waitingList.filter fun v => v != u } }

/-- Whether the deadline of a waiting thread has passed (R642). -/
def State.timedOut (s : State) (th : PSPThread) : Bool :=
  match th.deadline with
  | some d => decide (d ≤ s.sched.now)
  | none => false

/-- The re-evaluation of one waiting thread (R642): the condition first, then the deadline. -/
def reevaluateOne (u : Word) (s : State) : Result :=
  match s.thread? u with
  | none => .next s
  | some th =>
    if s.waitDone th then
      andThen (waitEffect th s) fun t => release u (t.setResult u (s.waitValue th))
    else if s.timedOut th then release u (s.setResult u s.cfg.err.waitTimeout)
    else .next s

/-- The re-evaluation of the waiting list, in order of entry (R642; D33). -/
def reevaluateAll (l : List Word) (s : State) : Result :=
  match l with
  | [] => .next s
  | u :: rest => andThen (reevaluateOne u s) (reevaluateAll rest)

/-- An alarm takes its place among expired ones: by deadline, then by creation (D80). -/
def insertAlarm (a : Alarm) (l : List Alarm) : List Alarm :=
  match l with
  | [] => [a]
  | b :: rest => if a.deadline < b.deadline then a :: b :: rest else b :: insertAlarm a rest

/-- The expired alarms move to `pendingIntr` and their records are deleted (R642; D80). -/
def State.expireAlarms (s : State) : State :=
  let expired := (s.sched.alarms.filter fun a => decide (a.deadline ≤ s.sched.now)).foldl (fun l a => insertAlarm a l) []
  { s with sched := { s.sched with
      pendingIntr := s.sched.pendingIntr ++ expired.map fun a => .alarm a.handler a.arg
      alarms := s.sched.alarms.filter fun a => decide (s.sched.now < a.deadline) } }

/-- Step 6 (R642). -/
def reevaluateStep (s : State) : Result :=
  andThen (reevaluateAll s.sched.waitingList s) fun t => .next (t.expireAlarms.setPhase .finish)

/-! ### Steps 7 and 8, and the display list (R639, R643, R644, R629) -/

/-- Step 7, context save (R639). -/
def State.saveThread (s : State) (u : Word) : State :=
  let t := s.updateThread u fun r => { r with ctx := s.cpu.toContext }
  { t with sched := { t.sched with current := none } }

/-- Step 7, requeue or delete (R643). -/
def requeueOrDelete (u : Word) (s : State) : Result :=
  match s.thread? u with
  | some th =>
    if th.status = .running then enqueueReady u s
    else if th.status = .dormant ∧ th.deletePending = true then .next (s.destroyThread u)
    else .next s
  | none => .next s

/-- Step 8, the idle credit (R644). -/
def State.creditIdle (s : State) : State :=
  { s with sched := { s.sched with
      idleCycles := s.sched.idleCycles + s.sched.downcount.toNat
      now := s.sched.now + s.sched.downcount.toNat
      consumed := s.sched.consumed + s.sched.downcount.toNat } }

/-- `runDisplayListStep()`, a relation on memory only (R629; D78): the identity, or any bytes written [log 29]. -/
def State.displayStep (s : State) : State :=
  match s.cfg.displayStep with
  | .identity => s
  | .writes => ((Config.displayWrites s.drawCount s.mem).foldl (fun t c => t.storeByte c.1 c.2) s).takeDraws 1

/-- Steps 7 and 8 and the display list step, after which the call is at its loop head again. -/
def finishStep (s : State) : Result :=
  let saved : Result :=
    match s.sched.current with
    | some u => requeueOrDelete u (s.saveThread u)
    | none => .next s
  andThen saved fun t => .next (t.creditIdle.displayStep.setPhase .frame)

/-! ### One step of the scheduler -/

/-- What the scheduler does next outside a nested run, by where its pseudocode stands [log 16]. -/
def phaseStep (s : State) : Result :=
  match s.sched.phase with
  | .host => .next (beginCall s)
  | .frame => .next (frameStep s)
  | .run => runStep s
  | .callbacks todo => .next (callbackStep todo s)
  | .interrupts left => .next (interruptStep left s)
  | .reevaluate => reevaluateStep s
  | .finish => finishStep s

/-- A step of a machine that has neither failed nor been refused. -/
def liveStep (s : State) : Result :=
  match s.sched.nested with
  | some saved => nestedStep saved s
  | none => phaseStep s

/-! ### The application's call (R627, 60_exceptions.md R722) -/

/-- A call in progress runs to its return: the state and `consumed`; a fatal failure or a refusal ends it, the refusal marked. None when
`fuel` steps do not suffice. -/
def finishCall (fuel : Nat) (s : State) : Option (State × Nat) :=
  match fuel with
  | 0 => none
  | n + 1 =>
    match liveStep s with
    | .next t => if t.failure.isSome || t.sched.phase == .host then some (t, t.sched.consumed) else finishCall n t
    | .refused r => some ({ s with refused := some r }, s.sched.consumed)
    | .fault _ => none

/-- `runInterpreterForCycles(cycles)`, between two calls (R627): the state after it and its result. With `cycles <= 0`, or with the latch
or the refusal mark set, it returns 0 and changes nothing (60_exceptions.md R722). -/
def runInterpreterForCycles (fuel : Nat) (cycles : Int) (s : State) : Option (State × Nat) :=
  if s.failure.isSome || s.refused.isSome || decide (cycles ≤ 0) then some (s, 0) else finishCall fuel (s.startCall cycles)

/-! ### Placing an instruction -/

/-- Whether the next step is an instruction, whatever word stands at the pc: of the run loop (R634) or of a nested run (R637). -/
def State.runsNext (s : State) : Bool :=
  s.failure.isNone && s.refused.isNone &&
    match s.sched.nested with
    | some _ => s.cpu.pc != s.cfg.threadExitAddr && (s.pending || s.cpu.pc != s.cfg.handlerReturnAddr)
    | none => s.sched.phase == .run && (s.pending || (!s.quantumOver && s.cpu.pc != s.cfg.threadExitAddr))

/-- The machine brought to the point where the next step is an instruction of the run loop: no failure, refusal or nested run, a cycle
left, and the current thread running, or else the first ready thread loaded [log 4]. -/
def State.atRunLoop (s : State) : State :=
  let t : State :=
    { s with
      failure := none
      refused := none
      sched := { s.sched with nested := none, yieldRequested := false, downcount := max 1 s.sched.downcount, phase := .run } }
  match t.sched.current with
  | some u => t.updateThread u fun r => { r with status := .running }
  | none =>
    match t.selectReady with
    | some th => t.loadThread th
    | none => t

/-- `s` with the instruction word `w` stored where the next step fetches [log 4]. -/
def placeInstruction (w : Word) (s : State) : State :=
  let t := if s.runsNext then s else s.atRunLoop
  t.storeWord t.cpu.pc w

end Sys2Proof.Machine
end

