-- ==== Sys2Proof/Machine/Step.lean ====
section
/-! DEFINITION. Machine/Step.lean: one step of the whole machine. -/

namespace Sys2Proof.Machine

open Sys2Proof

/-- One step: the scheduler goes on to the end of the next guest instruction or of its own next action [log 16]. A machine whose latch
is set has no further step (48_scheduler.md R630), and neither has one that is marked refused (10_state.md R48). -/
def step (s : State) : Host.Outcome State Fault Refusal :=
  match s.failure, s.refused with
  | some f, _ => .fault (.processorFailed f.cause)
  | none, some r => .refused r
  | none, none => liveStep s

/-- `s` with the instruction whose `nbits` bits are `w` stored where `step` fetches its next instruction; from reset this stands for the
loader's placing of a program, and for the two steps that bring the boot thread to its first instruction [log 4]. -/
def State.withFetchWord (s : State) (nbits w : Nat) : State := placeInstruction (BitVec.ofNat 32 (w % 2 ^ nbits)) s

end Sys2Proof.Machine
end

