-- ==== Sys2Proof/Safety.lean ====
section
/-! DEFINITION. Safety.lean: the terms in which statements speak of whole states: the well-formed states that every run from reset stays
in, and what it means that two states agree apart from what an instruction writes. -/

namespace Sys2Proof

open Sys2Proof.Machine

/-! ### Well-formed parameters -/

/-- What the spec asks of the parameters (00_scope.md R8, 20_memory.md R81, R86, D29, D31): the scratchpad of at most 16 KiB, an initial
memory in canonical form inside the windows, a positive cost and quantum, a legal boot priority, distinct word-aligned trampolines, and
distinct negative error codes. That every window lies below 0x40000000, so that no window holds an address of a mirror, is the model's own
demand on `WINDOWS`, which R81 does not bound: DESIGN CHOICE [log 44]. -/
def Params.wf (p : Params) : Bool :=
  p.windows.all (fun w => decide (w.base + w.size ≤ Config.uncachedMirror) &&
    (w.kind != .scratchpad || decide (w.size ≤ 16384))) &&
  (Memory.wf p.initialMemory && p.initialMemory.all fun c => p.windows.any fun w => windowContains w c.1) &&
  decide (0 < p.cyclesPerInsn) && decide (0 < p.quantumCycles) && Config.priorityOk p.bootPriority &&
  decide (p.threadExitAddr.toNat % 4 = 0) && decide (p.handlerReturnAddr.toNat % 4 = 0) &&
  decide (p.threadExitAddr ≠ p.handlerReturnAddr) && p.err.wf

end Sys2Proof

namespace Sys2Proof.Machine

open Sys2Proof

/-! ### Well-formed states -/

/-- Memory is canonical, and names only addresses inside the windows (20_memory.md R81 to R83). -/
def State.memWf (s : State) : Bool :=
  s.mem.wf && s.mem.all fun c => s.cfg.windows.any fun w => windowContains w c.1

/-- A VFPU control register holds no bit outside its write mask (10_state.md R41: such bits read as 0); the read-only ones hold their reset
values. -/
def vcWf (v : Vector Word 16) : Bool :=
  (List.finRange 16).all fun k =>
    match vcMask k with
    | some m => (v[k.val]'k.isLt &&& ~~~m) == 0#32
    | none => v[k.val]'k.isLt == resetVfpuCtrl[k.val]'k.isLt

/-- A Context in which register 0 is zero (10_state.md R32), the VFPU control registers keep their masks (R41), and the bits of `fcr31`
outside 0x0181FFFF are 0 (R38). -/
def Context.wf (c : Context) : Bool := (c.gpr[0] == 0#32) && vcWf c.vfpuCtrl && ((c.fcr31 &&& ~~~0x0181FFFF#32) == 0#32)

/-- A ProcessorState with a well-formed Context and at most one kind of transfer pending (10_state.md R35). -/
def ProcessorState.wf (p : ProcessorState) : Bool := p.toContext.wf && !(p.requiredBranching && p.requiredJumping)

/-- Every register file of the machine is well formed: the live one, the one a nested run saved, and every thread's. -/
def State.regsWf (s : State) : Bool :=
  s.cpu.wf && (match s.sched.nested with
    | some p => p.wf
    | none => true) && s.sched.threads.all fun t => t.ctx.wf

/-- A safe state: neither failed nor refused, so that a further step exists (48_scheduler.md R630). -/
def State.safe (s : State) : Bool := s.failure.isNone && s.refused.isNone

/-! ### Frames -/

/-- All of a state but the live ProcessorState and memory is as before: the latch, the refusal mark, the scheduler, the parameters, `ir` and
the draws. -/
structure RestSame (s t : State) : Prop where
  failure : t.failure = s.failure
  refused : t.refused = s.refused
  sched : t.sched = s.sched
  cfg : t.cfg = s.cfg
  ir : t.ir = s.ir
  drawCount : t.drawCount = s.drawCount

/-- Every byte of the address space reads as before. -/
def MemSame (s t : State) : Prop := ∀ a : Word, t.loadByte a = s.loadByte a

/-- No transfer is latched or resolved. -/
structure TransferSame (s t : State) : Prop where
  branchPC : t.cpu.branchPC = s.cpu.branchPC
  branching : t.cpu.requiredBranching = s.cpu.requiredBranching
  jumping : t.cpu.requiredJumping = s.cpu.requiredJumping

/-- Every general register but `rd` reads as before. -/
def GprSameBut (rd : GReg) (s t : State) : Prop := ∀ r : GReg, r ≠ rd → t.x r = s.x r

/-- Every general register reads as before. -/
def GprSame (s t : State) : Prop := ∀ r : GReg, t.x r = s.x r

/-- Every COP1 register but `fd` reads as before. -/
def FprSameBut (fd : FReg) (s t : State) : Prop := ∀ r : FReg, r ≠ fd → t.f r = s.f r

/-- Every COP1 register reads as before. -/
def FprSame (s t : State) : Prop := ∀ r : FReg, t.f r = s.f r

/-- Every VFPU slot reads as before. -/
def VprSame (s t : State) : Prop := ∀ k : VReg, t.vr k = s.vr k

/-- Every VFPU control register reads as before. -/
def VcSame (s t : State) : Prop := ∀ k : CReg, t.vc k = s.vc k

/-- `hi` and `lo` are as before. -/
structure HiLoSame (s t : State) : Prop where
  hi : t.cpu.hi = s.cpu.hi
  lo : t.cpu.lo = s.cpu.lo

/-- The COP1 control register, the COP1 condition and the load-linked bit are as before. -/
structure FlagsSame (s t : State) : Prop where
  fcr31 : t.cpu.fcr31 = s.cpu.fcr31
  fpcond : t.cpu.fpcond = s.cpu.fpcond
  llBit : t.cpu.llBit = s.cpu.llBit

/-- The pc has advanced by 4 (41_branch.md R280). -/
def Advanced (s t : State) : Prop := t.cpu.pc = s.cpu.pc + 4#32

/-- Nothing but `x[rd]` and the pc is changed, and the pc has advanced. -/
structure OnlyX (rd : GReg) (s t : State) : Prop where
  pc : Advanced s t
  gpr : GprSameBut rd s t
  fpr : FprSame s t
  vpr : VprSame s t
  vc : VcSame s t
  hiLo : HiLoSame s t
  flags : FlagsSame s t
  transfer : TransferSame s t
  mem : MemSame s t
  rest : RestSame s t

/-- An instruction that writes `v` to `x[rd]`, of which register 0 takes nothing (10_state.md R32), and changes nothing else. -/
def WritesX (rd : GReg) (v : Word) (s t : State) : Prop := t.x rd = (if rd = 0#5 then 0#32 else v) ∧ OnlyX rd s t

/-- Nothing but `f[fd]` and the pc is changed, and the pc has advanced. -/
structure OnlyF (fd : FReg) (s t : State) : Prop where
  pc : Advanced s t
  gpr : GprSame s t
  fpr : FprSameBut fd s t
  vpr : VprSame s t
  vc : VcSame s t
  hiLo : HiLoSame s t
  flags : FlagsSame s t
  transfer : TransferSame s t
  mem : MemSame s t
  rest : RestSame s t

/-- An instruction that writes `v` to `f[fd]` and changes nothing else. -/
def WritesF (fd : FReg) (v : Word) (s t : State) : Prop := t.f fd = v ∧ OnlyF fd s t

/-- Nothing but `hi`, `lo` and the pc is changed, and the pc has advanced. -/
structure OnlyHiLo (s t : State) : Prop where
  pc : Advanced s t
  gpr : GprSame s t
  fpr : FprSame s t
  vpr : VprSame s t
  vc : VcSame s t
  flags : FlagsSame s t
  transfer : TransferSame s t
  mem : MemSame s t
  rest : RestSame s t

/-- Nothing but the COP1 control register, the condition `fpcond` and the pc is changed, and the pc has advanced. -/
structure OnlyCop1Control (s t : State) : Prop where
  pc : Advanced s t
  gpr : GprSame s t
  fpr : FprSame s t
  vpr : VprSame s t
  vc : VcSame s t
  hiLo : HiLoSame s t
  llBit : t.cpu.llBit = s.cpu.llBit
  transfer : TransferSame s t
  mem : MemSame s t
  rest : RestSame s t

/-- Nothing but the pc is changed, and the pc has advanced: a no-operation. -/
structure OnlyPc (s t : State) : Prop where
  pc : Advanced s t
  gpr : GprSame s t
  fpr : FprSame s t
  vpr : VprSame s t
  vc : VcSame s t
  hiLo : HiLoSame s t
  flags : FlagsSame s t
  transfer : TransferSame s t
  mem : MemSame s t
  rest : RestSame s t

/-- Nothing but memory and the pc is changed, and the pc has advanced: a store. -/
structure OnlyMem (s t : State) : Prop where
  pc : Advanced s t
  gpr : GprSame s t
  fpr : FprSame s t
  vpr : VprSame s t
  vc : VcSame s t
  hiLo : HiLoSame s t
  flags : FlagsSame s t
  transfer : TransferSame s t
  rest : RestSame s t

/-- Nothing but the VFPU slots and the pc is changed, and the pc has advanced. -/
structure OnlyVpr (s t : State) : Prop where
  pc : Advanced s t
  gpr : GprSame s t
  fpr : FprSame s t
  vc : VcSame s t
  hiLo : HiLoSame s t
  flags : FlagsSame s t
  transfer : TransferSame s t
  mem : MemSame s t
  rest : RestSame s t

/-- Nothing but the VFPU control registers and the pc is changed, and the pc has advanced. -/
structure OnlyVc (s t : State) : Prop where
  pc : Advanced s t
  gpr : GprSame s t
  fpr : FprSame s t
  vpr : VprSame s t
  hiLo : HiLoSame s t
  flags : FlagsSame s t
  transfer : TransferSame s t
  mem : MemSame s t
  rest : RestSame s t

/-- Nothing outside the VFPU is changed but the pc, which has advanced. -/
structure OnlyVfpu (s t : State) : Prop where
  pc : Advanced s t
  gpr : GprSame s t
  fpr : FprSame s t
  hiLo : HiLoSame s t
  flags : FlagsSame s t
  transfer : TransferSame s t
  mem : MemSame s t
  rest : RestSame s t

/-- Nothing but the pc, the pending transfer and the registers that `link` names is changed: a branch or jump. -/
structure OnlyTransfer (link : GReg → Prop) (s t : State) : Prop where
  gpr : ∀ r : GReg, ¬ link r → t.x r = s.x r
  fpr : FprSame s t
  vpr : VprSame s t
  vc : VcSame s t
  hiLo : HiLoSame s t
  flags : FlagsSame s t
  mem : MemSame s t
  rest : RestSame s t

/-- The transfer of a branch or jump is latched (41_branch.md R282): its delay slot comes next. -/
structure Latched (jump : Bool) (target : Word) (s t : State) : Prop where
  pc : t.cpu.pc = s.cpu.pc + 4#32
  branchPC : t.cpu.branchPC = target
  branching : t.cpu.requiredBranching = (!jump || s.cpu.requiredBranching)
  jumping : t.cpu.requiredJumping = (jump || s.cpu.requiredJumping)

/-- The delay slot is skipped and nothing is latched (41_branch.md R284). -/
def Skipped (s t : State) : Prop := t.cpu.pc = s.cpu.pc + 8#32 ∧ TransferSame s t

/-- How a conditional branch at `s` ends in `t` (41_branch.md R282 to R285). -/
def BranchEnds (likely taken : Bool) (imm : Half) (s t : State) : Prop :=
  if taken then Latched false (s.cpu.pc + 4#32 + (imm.signExtend 32 <<< 2)) s t
  else if likely then Skipped s t
  else Latched false (s.cpu.pc + 8#32) s t

/-- The prefixes are eaten (45_vfpu_engine.md R436), and no other VFPU control register but those of `k` is changed. -/
structure Eaten (but : CReg → Prop) (s t : State) : Prop where
  spfx : t.vc CReg.spfx = 0x000000E4#32
  tpfx : t.vc CReg.tpfx = 0x000000E4#32
  dpfx : t.vc CReg.dpfx = 0#32
  others : ∀ k : CReg, k ≠ CReg.spfx → k ≠ CReg.tpfx → k ≠ CReg.dpfx → ¬ but k → t.vc k = s.vc k

/-- The lanes `d` are written to the vector register `r` at size `sz`, but for those that the D-prefix mask holds back, and no other slot is
changed (45_vfpu_engine.md R426). -/
structure VectorWritten (sz : Size) (r : VReg) (d : Lanes) (s t : State) : Prop where
  lanes : ∀ i, i < sz.lanes → t.vr (vectorSlot sz r i) = if s.laneMasked i then s.vr (vectorSlot sz r i) else d i
  others : ∀ k : VReg, (∀ i, i < sz.lanes → k ≠ vectorSlot sz r i) → t.vr k = s.vr k

/-- The elements `m` are written to the matrix register `r` at size `sz`, but for the lanes that the D-prefix mask holds back, and no other
slot is changed (45_vfpu_engine.md R428). -/
structure MatrixWritten (sz : Size) (r : VReg) (m : Nat → Lanes) (s t : State) : Prop where
  elements : ∀ j i, j < sz.lanes → i < sz.lanes →
    t.vr (matrixSlot sz r j i) = if s.laneMasked i then s.vr (matrixSlot sz r j i) else m j i
  others : ∀ k : VReg, (∀ j i, j < sz.lanes → i < sz.lanes → k ≠ matrixSlot sz r j i) → t.vr k = s.vr k

/-- How an eating VFPU instruction with the result `d` ends (45_vfpu_engine.md R420, steps 4 to 6). -/
def VectorDone (sz : Size) (r : VReg) (d : Lanes) (s t : State) : Prop :=
  VectorWritten sz r d s t ∧ Eaten (fun _ => False) s t ∧ OnlyVfpu s t

/-- How a matrix instruction with the result `m` ends. -/
def MatrixDone (sz : Size) (r : VReg) (m : Nat → Lanes) (s t : State) : Prop :=
  MatrixWritten sz r m s t ∧ Eaten (fun _ => False) s t ∧ OnlyVfpu s t

/-- `v` is the pattern of a float result: the given one, or any NaN (43_cop1.md R360; 92_eei_decisions.md D24). -/
def IsFloat (r : Option Word) (v : Word) : Prop :=
  match r with
  | some p => v = p
  | none => isNaN v = true

/-- The byte address `b` is none of the `n` bytes from `a`, nor a mirror alias of one (20_memory.md R82). -/
def OutsideBytes (p : Params) (a : Word) (n : Nat) (b : Word) : Prop :=
  ∀ j, j < n → byteKey p b ≠ byteKey p (a + BitVec.ofNat 32 j)

/-- The access of `n` bytes at `a` is aligned to `align` and resolves (20_memory.md R93, R94). -/
def Accessible (s : State) (a : Word) (n align : Nat) : Prop := accessFault s.cfg a n align = none

/-- A fatal failure (60_exceptions.md R701, R704): the latch is set with its record, and nothing else is changed. -/
def FatalOnly (cause : FatalCause) (addr : Word) (s t : State) : Prop :=
  t = { s with failure := some ⟨cause, s.cpu.pc, s.ir, addr⟩ }

/-- The value of a finite pattern (00_scope.md R14), exactly. -/
def fValue (p : Word) : ℚ := (if fNeg p then -1 else 1) * (fMant p : ℚ) * (2 : ℚ) ^ fPow p

/-- `r = round(v, mode)` (43_cop1.md R374): the integer of each of the four modes, over the rationals. -/
def IsRoundedInt (mode : Rounding) (v : ℚ) (r : Int) : Prop :=
  match mode with
  | .towardZero => r = if 0 ≤ v then ⌊v⌋ else ⌈v⌉
  | .towardPlus => r = ⌈v⌉
  | .towardMinus => r = ⌊v⌋
  | .nearestEven => |v - r| ≤ 1 / 2 ∧ (|v - r| = 1 / 2 → r % 2 = 0)

/-- `w = f2i(p, mode)` (43_cop1.md R374): by sign for a NaN or an infinity, else the rounded value, saturated to the 32-bit integers. -/
def IsConverted (mode : Rounding) (p w : Word) : Prop :=
  if isNaNorInf p then w = (if fNeg p then 0x80000000#32 else 0x7FFFFFFF#32)
  else ∃ r : Int, IsRoundedInt mode (fValue p) r ∧
    w = if r > 2 ^ 31 - 1 then 0x7FFFFFFF#32 else if r < -(2 ^ 31) then 0x80000000#32 else BitVec.ofInt 32 r

/-- `w = f2iv(p, scale, mode)` (46_vfpu_vector.md R524). -/
def IsScaledConverted (mode : Rounding) (scale : Nat) (p w : Word) : Prop :=
  if isNaN p then w = 0x7FFFFFFF#32
  else if isInf p then w = (if fNeg p then 0x80000000#32 else 0x7FFFFFFF#32)
  else if fValue p * 2 ^ scale > 2 ^ 31 - 1 then w = 0x7FFFFFFF#32
  else if fValue p * 2 ^ scale ≤ -(2 ^ 31) then w = 0x80000000#32
  else ∃ r : Int, IsRoundedInt mode (fValue p * 2 ^ scale) r ∧ w = BitVec.ofInt 32 r

/-- `p = P(v)` (00_scope.md R14; round to nearest even, 43_cop1.md R360) of an exact real: the infinity of its sign from the overflow
threshold on; below it a finite pattern that no other finite one is closer than, with an even fraction where another is as close. -/
def IsNearest (v : ℚ) (p : Word) : Prop :=
  if 2 ^ 128 - 2 ^ 103 ≤ v then p = 0x7F800000#32
  else if v ≤ -(2 ^ 128 - 2 ^ 103) then p = 0xFF800000#32
  else isNaNorInf p = false ∧ ∀ q, isNaNorInf q = false →
    |fValue p - v| ≤ |fValue q - v| ∧ (|fValue p - v| = |fValue q - v| → fValue q = fValue p ∨ fMan p % 2 = 0)

/-- `p = P(sqrt(v))` of a positive exact value (43_cop1.md R370), on squares: the point halfway to any other pattern of a value that is
not negative lies beyond the root, and a root halfway between two has an even fraction. -/
def IsNearestRoot (v : ℚ) (p : Word) : Prop :=
  isNaNorInf p = false ∧ fNeg p = false ∧ ∀ q, isNaNorInf q = false → fNeg q = false →
    (fValue p < fValue q → v ≤ ((fValue p + fValue q) / 2) ^ 2 ∧ (v = ((fValue p + fValue q) / 2) ^ 2 → fMan p % 2 = 0)) ∧
    (fValue q < fValue p → ((fValue p + fValue q) / 2) ^ 2 ≤ v ∧ (v = ((fValue p + fValue q) / 2) ^ 2 → fMan p % 2 = 0))

/-! ### Half-floats (45_vfpu_engine.md R458) -/

/-- The exponent field of a binary16 pattern. -/
def halfExp (h : Half) : Nat := (h.extractLsb' 10 5).toNat

/-- The fraction field of a binary16 pattern. -/
def halfMan (h : Half) : Nat := (h.extractLsb' 0 10).toNat

/-- The value of a finite binary16 pattern, exactly. -/
def halfValue (h : Half) : ℚ :=
  (if h.getLsbD 15 then -1 else 1) *
    (if halfExp h = 0 then (halfMan h : ℚ) / 2 ^ 24 else (1 + (halfMan h : ℚ) / 2 ^ 10) * (2 : ℚ) ^ ((halfExp h : Int) - 15))

/-- `w = h2f(h)`: the same sign; an infinity or the NaN of the same fraction, else the same value. -/
def IsHalfWidened (h : Half) (w : Word) : Prop :=
  fNeg w = h.getLsbD 15 ∧
    if halfExp h = 31 then fExp w = 255 ∧ fMan w = halfMan h * 2 ^ 13 else isNaNorInf w = false ∧ fValue w = halfValue h

/-- `h = f2h(p)`: any binary16 NaN for a NaN; else the same sign, an infinity from the overflow threshold on, and below it a finite
pattern that no other finite one is closer than, with an even fraction where another is as close. -/
def IsHalfNarrowed (p : Word) (h : Half) : Prop :=
  if isNaN p then halfExp h = 31 ∧ halfMan h ≠ 0
  else h.getLsbD 15 = fNeg p ∧
    if isInf p = true ∨ 2 ^ 16 - 2 ^ 4 ≤ |fValue p| then halfExp h = 31 ∧ halfMan h = 0
    else halfExp h ≠ 31 ∧ ∀ g, halfExp g ≠ 31 →
      |halfValue h - fValue p| ≤ |halfValue g - fValue p| ∧
      (|halfValue h - fValue p| = |halfValue g - fValue p| → halfValue g = halfValue h ∨ halfMan h % 2 = 0)

/-! ### Prefix overrides (45_vfpu_engine.md R441) -/

/-- `PREFIX_OVERRIDE` has the entry of R441's table for an instruction at a size: the parameter replaces it by no other. -/
def State.FollowsTable (s : State) (op : VfpuOp) (sz : Size) : Prop :=
  s.cfg.prefixOverrides.find? (fun e => e.1 == (op, sz)) = none

/-! ### Scheduler commands -/

/-- A command answers `v` (48_scheduler.md R651): `x[2]` holds it, and the rest of the live ProcessorState, memory, the latch, the refusal
mark, the parameters and `ir` are as before; what becomes of the scheduler is left open. -/
structure Answered (v : Word) (s t : State) : Prop where
  result : t.x 2#5 = v
  gpr : GprSameBut 2#5 s t
  fpr : FprSame s t
  vpr : VprSame s t
  vc : VcSame s t
  hiLo : HiLoSame s t
  flags : FlagsSame s t
  transfer : TransferSame s t
  pc : t.cpu.pc = s.cpu.pc
  mem : t.mem = s.mem
  failure : t.failure = s.failure
  refused : t.refused = s.refused
  cfg : t.cfg = s.cfg
  ir : t.ir = s.ir

/-- The live ProcessorState, the latch, the refusal mark, the parameters and `ir` are as before. -/
structure CoreSame (s t : State) : Prop where
  cpu : t.cpu = s.cpu
  failure : t.failure = s.failure
  refused : t.refused = s.refused
  cfg : t.cfg = s.cfg
  ir : t.ir = s.ir

/-- The record of thread `u` has become `th`, and nothing else of the scheduler's state has changed. -/
structure OnlyThread (u : Word) (th : PSPThread) (s t : State) : Prop where
  thread : t.thread? u = some th
  others : ∀ v, v ≠ u → t.thread? v = s.thread? v
  rest : { t.sched with threads := s.sched.threads } = s.sched

/-- The UID `u` has been issued (48_scheduler.md R621): a positive value that was never issued before. -/
structure Issued (u : Word) (s t : State) : Prop where
  positive : 0 < u.toInt
  fresh : u ∉ s.sched.uids
  recorded : t.sched.uids = u :: s.sched.uids

/-- `n = cycles(us)` (48_scheduler.md R648), the huge values first [log 37]. -/
def IsCycles (p : Params) (us n : Nat) : Prop :=
  n = if p.delayHuge ≤ us then us else (if us < p.delayMinUs then p.delayFloorUs else us) * 222000000 / 1000000

/-- `dl` is the deadline that the timeout argument `addr` gives a wait at its call (48_scheduler.md R649): none for 0, else `now`, with the
cycles of the command's own step [log 39], and the cycles of the word there. -/
def TimeoutIs (s : State) (addr : Word) (dl : Option Nat) : Prop :=
  if addr = 0#32 then dl = none
  else Accessible s addr 4 4 ∧
    ∃ n, IsCycles s.cfg (s.loadWord addr).toNat n ∧ dl = some (s.sched.now + s.cfg.cyclesPerInsn + n)

/-- The current thread `c` has blocked (48_scheduler.md R653): its record says how, it is last on the waiting list, and nothing else has
changed. -/
structure Blocked (c : PSPThread) (w : Wait) (dl : Option Nat) (cb : Bool) (s t : State) : Prop where
  core : CoreSame s t
  mem : t.mem = s.mem
  thread : t.thread? c.uid = some { c with status := .waiting, wait := w, deadline := dl, callbackPending := cb }
  others : ∀ v, v ≠ c.uid → t.thread? v = s.thread? v
  waitingList : t.sched.waitingList = s.sched.waitingList ++ [c.uid]
  rest : { t.sched with threads := s.sched.threads, waitingList := s.sched.waitingList } = s.sched

/-- The thread `u`, of record `th`, has been released with the value `v` (48_scheduler.md R642, R626): READY, last of its priority in the
ready queue, off the waiting list, its wait and deadline cleared [log 31], `v` in its saved `x[2]`; memory, the semaphores and the
event flags are left open, and nothing else has changed. -/
structure Released (u : Word) (th : PSPThread) (v : Word) (s t : State) : Prop where
  core : CoreSame s t
  thread : t.thread? u = some { th with
    status := .ready, wait := .none, deadline := none, callbackPending := false
    ctx := { th.ctx with gpr := th.ctx.gpr.set 2 v } }
  others : ∀ w, w ≠ u → t.thread? w = s.thread? w
  readyQueue : t.sched.readyQueue = insertReady s.priorityOf u th.priority s.sched.readyQueue
  waitingList : t.sched.waitingList = s.sched.waitingList.filter fun w => w ≠ u
  rest : { t.sched with
    threads := s.sched.threads, readyQueue := s.sched.readyQueue, waitingList := s.sched.waitingList
    semaphores := s.sched.semaphores, eventFlags := s.sched.eventFlags } = s.sched

end Sys2Proof.Machine
end

