-- ==== Sys2Proof/Certificates/Slice0/Obligations.lean ====
section
/-! DEFINITION. Certificates/Slice0/Obligations.lean: the statements for the provers. Each says what a rule of spec/ says an instruction or
the machine does; the frames (what is left unchanged) are the predicates of Safety.lean. A statement about a free value (a drawn NaN, an
opaque function of Config) holds for every value of it. -/

section Slice0Statements

open Sys2Proof Sys2Proof.Machine

/-- O1 (R82, R98). In a state whose memory is canonical: a byte, halfword or word stored at an accessible address is what a load of the
same width reads back; after a word store the byte at the address is the low byte of the word and the halfword at +2 is its high half;
every byte outside the stored ones reads as before. Under well-formed parameters, reading or writing the byte at a + 0x40000000, for a
in a window, is reading or writing the byte at a; two addresses that name one byte are equal or differ by that offset. -/
def Obligations.StoreThenLoad : Prop :=
  ∀ (s : State) (a : Word), s.mem.wf = true →
    (s.cfg.wf = true → (s.cfg.windows.any fun w => windowContains w a.toNat) = true →
      s.loadByte (a + 0x40000000#32) = s.loadByte a ∧ ∀ v, s.storeByte (a + 0x40000000#32) v = s.storeByte a v) ∧
    (∀ b, byteKey s.cfg a ≠ none → byteKey s.cfg b = byteKey s.cfg a →
      b = a ∨ b = a + 0x40000000#32 ∨ a = b + 0x40000000#32) ∧
    (∀ v, Accessible s a 1 1 → (s.storeByte a v).loadByte a = v) ∧
    (∀ v, Accessible s a 2 2 → (s.storeHalf a v).loadHalf a = v) ∧
    (∀ v, Accessible s a 4 4 → (s.storeWord a v).loadWord a = v ∧ (s.storeWord a v).loadByte a = v.extractLsb' 0 8 ∧
      (s.storeWord a v).loadHalf (a + 2#32) = v.extractLsb' 16 16) ∧
    (∀ v b, OutsideBytes s.cfg a 1 b → (s.storeByte a v).loadByte b = s.loadByte b) ∧
    (∀ v b, OutsideBytes s.cfg a 2 b → (s.storeHalf a v).loadByte b = s.loadByte b) ∧
    ∀ v b, OutsideBytes s.cfg a 4 b → (s.storeWord a v).loadByte b = s.loadByte b

/-- O2 (R210, R211, R212, R213, R214, R215, R216, R217, R218, R219). In every state each of these instructions answers a next state in
which its destination (unless it is register 0) holds the sum or difference modulo 2^32, or 1 or 0 by the signed or unsigned
comparison, the pc has advanced by 4 and nothing else has changed. With OVERFLOW_TRAPS on, an add, sub or addi whose exact result does
not fit 32 signed bits instead answers the state with only the failure latch set, cause UNMODELLED. -/
def Obligations.AddSubtractCompare : Prop :=
  ∀ (s : State) (rs rt rd : GReg) (sa : BitVec 5) (imm : Half),
    ((s.cfg.overflowTraps = false ∨ (-(2 ^ 31) ≤ (s.x rs).toInt + (s.x rt).toInt ∧ (s.x rs).toInt + (s.x rt).toInt < 2 ^ 31)) →
      ∃ t, exec (.add rs rt rd sa) s = .next t ∧ WritesX rd (BitVec.ofInt 32 ((s.x rs).toInt + (s.x rt).toInt)) s t) ∧
    (s.cfg.overflowTraps = true → s.failure = none → ¬(-(2 ^ 31) ≤ (s.x rs).toInt + (s.x rt).toInt ∧ (s.x rs).toInt + (s.x rt).toInt < 2 ^ 31) →
      ∃ t, exec (.add rs rt rd sa) s = .next t ∧ FatalOnly .unmodelled 0#32 s t) ∧
    ((s.cfg.overflowTraps = false ∨ (-(2 ^ 31) ≤ (s.x rs).toInt - (s.x rt).toInt ∧ (s.x rs).toInt - (s.x rt).toInt < 2 ^ 31)) →
      ∃ t, exec (.sub rs rt rd sa) s = .next t ∧ WritesX rd (BitVec.ofInt 32 ((s.x rs).toInt - (s.x rt).toInt)) s t) ∧
    (s.cfg.overflowTraps = true → s.failure = none → ¬(-(2 ^ 31) ≤ (s.x rs).toInt - (s.x rt).toInt ∧ (s.x rs).toInt - (s.x rt).toInt < 2 ^ 31) →
      ∃ t, exec (.sub rs rt rd sa) s = .next t ∧ FatalOnly .unmodelled 0#32 s t) ∧
    ((s.cfg.overflowTraps = false ∨ (-(2 ^ 31) ≤ (s.x rs).toInt + imm.toInt ∧ (s.x rs).toInt + imm.toInt < 2 ^ 31)) →
      ∃ t, exec (.addi rs rt imm) s = .next t ∧ WritesX rt (BitVec.ofInt 32 ((s.x rs).toInt + imm.toInt)) s t) ∧
    (s.cfg.overflowTraps = true → s.failure = none → ¬(-(2 ^ 31) ≤ (s.x rs).toInt + imm.toInt ∧ (s.x rs).toInt + imm.toInt < 2 ^ 31) →
      ∃ t, exec (.addi rs rt imm) s = .next t ∧ FatalOnly .unmodelled 0#32 s t) ∧
    (∃ t, exec (.addu rs rt rd sa) s = .next t ∧ WritesX rd (BitVec.ofNat 32 ((s.x rs).toNat + (s.x rt).toNat)) s t) ∧
    (∃ t, exec (.subu rs rt rd sa) s = .next t ∧ WritesX rd (BitVec.ofInt 32 ((s.x rs).toInt - (s.x rt).toInt)) s t) ∧
    (∃ t, exec (.addiu rs rt imm) s = .next t ∧ WritesX rt (BitVec.ofInt 32 ((s.x rs).toInt + imm.toInt)) s t) ∧
    (∃ t, exec (.slt rs rt rd sa) s = .next t ∧ WritesX rd (if (s.x rs).toInt < (s.x rt).toInt then 1#32 else 0#32) s t) ∧
    (∃ t, exec (.sltu rs rt rd sa) s = .next t ∧ WritesX rd (if (s.x rs).toNat < (s.x rt).toNat then 1#32 else 0#32) s t) ∧
    (∃ t, exec (.slti rs rt imm) s = .next t ∧ WritesX rt (if (s.x rs).toInt < imm.toInt then 1#32 else 0#32) s t) ∧
    (∃ t, exec (.sltiu rs rt imm) s = .next t ∧ WritesX rt (if (s.x rs).toNat < (imm.signExtend 32).toNat then 1#32 else 0#32) s t)

/-- O3 (R220, R221, R222, R223, R224, R225, R226, R227). Each bit of the value written to the destination is the bit the rule gives: the
Boolean operation of the two operand bits, with the immediate zero-extended, or for lui the immediate moved to the upper half; nothing
else changes but the pc, which advances by 4. -/
def Obligations.LogicalBits : Prop :=
  ∀ (s : State) (rs rt rd : GReg) (sa : BitVec 5) (imm : Half),
    (∃ t v, exec (.and rs rt rd sa) s = .next t ∧ WritesX rd v s t ∧ ∀ j, j < 32 → v.getLsbD j = ((s.x rs).getLsbD j && (s.x rt).getLsbD j)) ∧
    (∃ t v, exec (.or rs rt rd sa) s = .next t ∧ WritesX rd v s t ∧ ∀ j, j < 32 → v.getLsbD j = ((s.x rs).getLsbD j || (s.x rt).getLsbD j)) ∧
    (∃ t v, exec (.xor rs rt rd sa) s = .next t ∧ WritesX rd v s t ∧ ∀ j, j < 32 → v.getLsbD j = ((s.x rs).getLsbD j != (s.x rt).getLsbD j)) ∧
    (∃ t v, exec (.nor rs rt rd sa) s = .next t ∧ WritesX rd v s t ∧ ∀ j, j < 32 → v.getLsbD j = !((s.x rs).getLsbD j || (s.x rt).getLsbD j)) ∧
    (∃ t v, exec (.andi rs rt imm) s = .next t ∧ WritesX rt v s t ∧ ∀ j, j < 32 → v.getLsbD j = ((s.x rs).getLsbD j && imm.getLsbD j)) ∧
    (∃ t v, exec (.ori rs rt imm) s = .next t ∧ WritesX rt v s t ∧ ∀ j, j < 32 → v.getLsbD j = ((s.x rs).getLsbD j || imm.getLsbD j)) ∧
    (∃ t v, exec (.xori rs rt imm) s = .next t ∧ WritesX rt v s t ∧ ∀ j, j < 32 → v.getLsbD j = ((s.x rs).getLsbD j != imm.getLsbD j)) ∧
    (∃ t v, exec (.lui rt imm) s = .next t ∧ WritesX rt v s t ∧ ∀ j, j < 32 → v.getLsbD j = (decide (16 ≤ j) && imm.getLsbD (j - 16)))

/-- O4 (R228, R229, R230, R231, R232, R233, R234, R235). A left shift multiplies by the power of two modulo 2^32, a logical right shift
divides the unsigned value, an arithmetic one the signed value rounding toward minus infinity, a rotate rotates right; a variable
amount is the low five bits of x[rs]; nothing else changes but the pc. -/
def Obligations.ShiftRotate : Prop :=
  ∀ (s : State) (rs rt rd : GReg) (sa : BitVec 5),
    (∃ t, exec (.sll rt rd sa) s = .next t ∧ WritesX rd (BitVec.ofNat 32 ((s.x rt).toNat * 2 ^ sa.toNat)) s t) ∧
    (∃ t, exec (.srl rt rd sa) s = .next t ∧ WritesX rd (BitVec.ofNat 32 ((s.x rt).toNat / 2 ^ sa.toNat)) s t) ∧
    (∃ t, exec (.sra rt rd sa) s = .next t ∧ WritesX rd (BitVec.ofInt 32 ((s.x rt).toInt / 2 ^ sa.toNat)) s t) ∧
    (∃ t, exec (.sllv rs rt rd sa) s = .next t ∧ WritesX rd (BitVec.ofNat 32 ((s.x rt).toNat * 2 ^ ((s.x rs).toNat % 32))) s t) ∧
    (∃ t, exec (.srlv rs rt rd sa) s = .next t ∧ WritesX rd (BitVec.ofNat 32 ((s.x rt).toNat / 2 ^ ((s.x rs).toNat % 32))) s t) ∧
    (∃ t, exec (.srav rs rt rd sa) s = .next t ∧ WritesX rd (BitVec.ofInt 32 ((s.x rt).toInt / 2 ^ ((s.x rs).toNat % 32))) s t) ∧
    (∃ t, exec (.rotr rt rd sa) s = .next t ∧ WritesX rd ((s.x rt).rotateRight sa.toNat) s t) ∧
    (∃ t, exec (.rotrv rs rt rd sa) s = .next t ∧ WritesX rd ((s.x rt).rotateRight ((s.x rs).toNat % 32)) s t)

/-- O5 (R236, R237, R238, R239, R240, R241). movz and movn move when x[rt] is zero or nonzero and otherwise only advance the pc; clz and
clo write the length of the run of 0 or 1 bits from bit 31 down, 32 for a whole word; max and min write the signed larger or smaller
operand. -/
def Obligations.MoveCountMinMax : Prop :=
  ∀ (s : State) (rs rt rd : GReg) (sa : BitVec 5),
    (∃ t, exec (.movz rs rt rd sa) s = .next t ∧ if s.x rt = 0#32 then WritesX rd (s.x rs) s t else OnlyPc s t) ∧
    (∃ t, exec (.movn rs rt rd sa) s = .next t ∧ if s.x rt = 0#32 then OnlyPc s t else WritesX rd (s.x rs) s t) ∧
    (∃ t n, exec (.clz rs rd) s = .next t ∧ n ≤ 32 ∧ WritesX rd (BitVec.ofNat 32 n) s t ∧
      (∀ j, 32 - n ≤ j → j < 32 → (s.x rs).getLsbD j = false) ∧ (n < 32 → (s.x rs).getLsbD (31 - n) = !false)) ∧
    (∃ t n, exec (.clo rs rd) s = .next t ∧ n ≤ 32 ∧ WritesX rd (BitVec.ofNat 32 n) s t ∧
      (∀ j, 32 - n ≤ j → j < 32 → (s.x rs).getLsbD j = true) ∧ (n < 32 → (s.x rs).getLsbD (31 - n) = !true)) ∧
    (∃ t, exec (.max rs rt rd sa) s = .next t ∧ WritesX rd (if (s.x rs).toInt > (s.x rt).toInt then s.x rs else s.x rt) s t) ∧
    (∃ t, exec (.min rs rt rd sa) s = .next t ∧ WritesX rd (if (s.x rs).toInt < (s.x rt).toInt then s.x rs else s.x rt) s t)

/-- O6 (R242, R243, R246, R247, R248, R249, R250, R251, R252, R253). mult and multu write the exact signed or unsigned product to HL = hi
|| lo; madd, maddu, msub, msubu add it to or subtract it from HL modulo 2^64; mfhi, mflo, mthi, mtlo move one half and keep the other;
nothing else changes but the pc. -/
def Obligations.MultiplyAccumulate : Prop :=
  ∀ (s : State) (rs rt rd : GReg),
    (∃ t, exec (.mult rs rt) s = .next t ∧ t.hl = BitVec.ofInt 64 ((s.x rs).toInt * (s.x rt).toInt) ∧ OnlyHiLo s t) ∧
    (∃ t, exec (.multu rs rt) s = .next t ∧ t.hl = BitVec.ofNat 64 ((s.x rs).toNat * (s.x rt).toNat) ∧ OnlyHiLo s t) ∧
    (∃ t, exec (.madd rs rt) s = .next t ∧ t.hl = BitVec.ofInt 64 (s.hl.toInt + (s.x rs).toInt * (s.x rt).toInt) ∧ OnlyHiLo s t) ∧
    (∃ t, exec (.maddu rs rt) s = .next t ∧ t.hl = BitVec.ofNat 64 (s.hl.toNat + (s.x rs).toNat * (s.x rt).toNat) ∧ OnlyHiLo s t) ∧
    (∃ t, exec (.msub rs rt) s = .next t ∧ t.hl = BitVec.ofInt 64 (s.hl.toInt - (s.x rs).toInt * (s.x rt).toInt) ∧ OnlyHiLo s t) ∧
    (∃ t, exec (.msubu rs rt) s = .next t ∧ t.hl = BitVec.ofInt 64 ((s.hl.toNat : Int) - ((s.x rs).toNat * (s.x rt).toNat : Nat)) ∧ OnlyHiLo s t) ∧
    (∃ t, exec (.mfhi rd) s = .next t ∧ WritesX rd (s.cpu.hi) s t) ∧
    (∃ t, exec (.mflo rd) s = .next t ∧ WritesX rd (s.cpu.lo) s t) ∧
    (∃ t, exec (.mthi rs) s = .next t ∧ t.cpu.hi = s.x rs ∧ t.cpu.lo = s.cpu.lo ∧ OnlyHiLo s t) ∧
    (∃ t, exec (.mtlo rs) s = .next t ∧ t.cpu.lo = s.x rs ∧ t.cpu.hi = s.cpu.hi ∧ OnlyHiLo s t)

/-- O7 (R244, R245). div with divisor 0 gives lo = 1 or -1 by the sign of the dividend and hi = the dividend; -2^31 / -1 gives lo =
0x80000000, hi = 0xFFFFFFFF; otherwise lo and hi are the quotient rounded toward zero and the remainder with the sign of the dividend.
divu with divisor 0 gives hi = the dividend and lo = 0xFFFFFFFF or DIVU0_SMALL_LO; otherwise floor and remainder. Nothing else changes
but the pc. -/
def Obligations.DivideQuotientRemainder : Prop :=
  ∀ (s : State) (rs rt : GReg),
    (∃ t, exec (.div rs rt) s = .next t ∧ OnlyHiLo s t ∧
      (s.x rt = 0#32 → t.cpu.hi = s.x rs ∧ t.cpu.lo = (if (s.x rs).toInt < 0 then 1#32 else 0xFFFFFFFF#32)) ∧
      ((s.x rs).toInt = -(2 ^ 31) → (s.x rt).toInt = -1 → t.cpu.lo = 0x80000000#32 ∧ t.cpu.hi = 0xFFFFFFFF#32) ∧
      (s.x rt ≠ 0#32 → ¬((s.x rs).toInt = -(2 ^ 31) ∧ (s.x rt).toInt = -1) →
        (s.x rs).toInt = (s.x rt).toInt * t.cpu.lo.toInt + t.cpu.hi.toInt ∧ t.cpu.hi.toInt.natAbs < (s.x rt).toInt.natAbs ∧
        (t.cpu.hi.toInt = 0 ∨ (t.cpu.hi.toInt < 0 ↔ (s.x rs).toInt < 0)))) ∧
    (∃ t, exec (.divu rs rt) s = .next t ∧ OnlyHiLo s t ∧
      (s.x rt = 0#32 → t.cpu.hi = s.x rs ∧
        t.cpu.lo = (if (s.x rs).toNat > 0xFFFF then 0xFFFFFFFF#32 else s.cfg.divu0SmallLo)) ∧
      (s.x rt ≠ 0#32 → (s.x rs).toNat = (s.x rt).toNat * t.cpu.lo.toNat + t.cpu.hi.toNat ∧ t.cpu.hi.toNat < (s.x rt).toNat))

/-- O8 (R254, R255, R256, R257, R258, R259, R260). ext extracts, ins inserts the field (refused with EXT_INS_RANGE exactly when it is out
of range); wsbh swaps the bytes of each half, wsbw reverses the bytes, seb and seh sign-extend, bitrev reverses the bits; nothing else
changes but the pc. -/
def Obligations.BitFields : Prop :=
  ∀ (s : State) (rs rt rd : GReg) (m l : BitVec 5),
    (l.toNat + (m.toNat + 1) ≤ 32 → (∃ t v, exec (.ext rs rt m l) s = .next t ∧ WritesX rt v s t ∧ ∀ j, j < 32 → v.getLsbD j = (decide (j ≤ m.toNat) && (s.x rs).getLsbD (j + l.toNat)))) ∧
    (32 < l.toNat + (m.toNat + 1) → exec (.ext rs rt m l) s = .refused .extInsRange) ∧
    (l.toNat ≤ m.toNat → (∃ t v, exec (.ins rs rt m l) s = .next t ∧ WritesX rt v s t ∧ ∀ j, j < 32 → v.getLsbD j = (if l.toNat ≤ j ∧ j ≤ m.toNat then (s.x rs).getLsbD (j - l.toNat) else (s.x rt).getLsbD j))) ∧
    (m.toNat < l.toNat → exec (.ins rs rt m l) s = .refused .extInsRange) ∧
    (∃ t v, exec (.wsbh rt rd) s = .next t ∧ WritesX rd v s t ∧ ∀ j, j < 32 → v.getLsbD j = (s.x rt).getLsbD (if j / 8 % 2 = 0 then j + 8 else j - 8)) ∧
    (∃ t v, exec (.wsbw rt rd) s = .next t ∧ WritesX rd v s t ∧ ∀ j, j < 32 → v.getLsbD j = (s.x rt).getLsbD (8 * (3 - j / 8) + j % 8)) ∧
    (∃ t, exec (.seb rt rd) s = .next t ∧ WritesX rd (BitVec.ofInt 32 ((s.x rt).extractLsb' 0 8).toInt) s t) ∧
    (∃ t, exec (.seh rt rd) s = .next t ∧ WritesX rd (BitVec.ofInt 32 ((s.x rt).extractLsb' 0 16).toInt) s t) ∧
    (∃ t v, exec (.bitrev rt rd) s = .next t ∧ WritesX rd v s t ∧ ∀ j, j < 32 → v.getLsbD j = (s.x rt).getLsbD (31 - j))

/-- O9 (R291, R292, R293, R294, R295, R296, R297, R298, R299, R300, R301, R302). With no transfer pending, each branch answers a next
state: taken, its target is latched and the delay slot comes next; not taken and not likely, P + 8 is latched; not taken and likely,
the pc is P + 8 and nothing is latched. No register, flag or byte changes. -/
def Obligations.ConditionalBranches : Prop :=
  ∀ (s : State) (rs rt : GReg) (imm : Half), s.pending = false →
    (∃ t, exec (.beq rs rt imm) s = .next t ∧ BranchEnds false (decide (s.x rs = s.x rt)) imm s t ∧ OnlyTransfer (fun _ => False) s t) ∧
    (∃ t, exec (.bne rs rt imm) s = .next t ∧ BranchEnds false (decide (s.x rs ≠ s.x rt)) imm s t ∧ OnlyTransfer (fun _ => False) s t) ∧
    (∃ t, exec (.blez rs rt imm) s = .next t ∧ BranchEnds false (decide ((s.x rs).toInt ≤ 0)) imm s t ∧ OnlyTransfer (fun _ => False) s t) ∧
    (∃ t, exec (.bgtz rs rt imm) s = .next t ∧ BranchEnds false (decide ((s.x rs).toInt > 0)) imm s t ∧ OnlyTransfer (fun _ => False) s t) ∧
    (∃ t, exec (.beql rs rt imm) s = .next t ∧ BranchEnds true (decide (s.x rs = s.x rt)) imm s t ∧ OnlyTransfer (fun _ => False) s t) ∧
    (∃ t, exec (.bnel rs rt imm) s = .next t ∧ BranchEnds true (decide (s.x rs ≠ s.x rt)) imm s t ∧ OnlyTransfer (fun _ => False) s t) ∧
    (∃ t, exec (.blezl rs rt imm) s = .next t ∧ BranchEnds true (decide ((s.x rs).toInt ≤ 0)) imm s t ∧ OnlyTransfer (fun _ => False) s t) ∧
    (∃ t, exec (.bgtzl rs rt imm) s = .next t ∧ BranchEnds true (decide ((s.x rs).toInt > 0)) imm s t ∧ OnlyTransfer (fun _ => False) s t) ∧
    (∃ t, exec (.bltz rs imm) s = .next t ∧ BranchEnds false (decide ((s.x rs).toInt < 0)) imm s t ∧ OnlyTransfer (fun _ => False) s t) ∧
    (∃ t, exec (.bgez rs imm) s = .next t ∧ BranchEnds false (decide ((s.x rs).toInt ≥ 0)) imm s t ∧ OnlyTransfer (fun _ => False) s t) ∧
    (∃ t, exec (.bltzl rs imm) s = .next t ∧ BranchEnds true (decide ((s.x rs).toInt < 0)) imm s t ∧ OnlyTransfer (fun _ => False) s t) ∧
    (∃ t, exec (.bgezl rs imm) s = .next t ∧ BranchEnds true (decide ((s.x rs).toInt ≥ 0)) imm s t ∧ OnlyTransfer (fun _ => False) s t)

/-- O10 (R303, R304, R305, R306). With no transfer pending, bltzal, bgezal, bltzall, bgezall answer a next state with x[31] = P + 8,
ending as a branch on the sign of x[rs] as it was at the start of the step (also for rs = 31), and change nothing else. -/
def Obligations.LinkingBranches : Prop :=
  ∀ (s : State) (rs : GReg) (imm : Half), s.pending = false →
    (∃ t, exec (.bltzal rs imm) s = .next t ∧ t.x 31#5 = s.cpu.pc + 8#32 ∧ BranchEnds false (decide ((s.x rs).toInt < 0)) imm s t ∧ OnlyTransfer (fun r => r = 31#5) s t) ∧
    (∃ t, exec (.bgezal rs imm) s = .next t ∧ t.x 31#5 = s.cpu.pc + 8#32 ∧ BranchEnds false (decide ((s.x rs).toInt ≥ 0)) imm s t ∧ OnlyTransfer (fun r => r = 31#5) s t) ∧
    (∃ t, exec (.bltzall rs imm) s = .next t ∧ t.x 31#5 = s.cpu.pc + 8#32 ∧ BranchEnds true (decide ((s.x rs).toInt < 0)) imm s t ∧ OnlyTransfer (fun r => r = 31#5) s t) ∧
    (∃ t, exec (.bgezall rs imm) s = .next t ∧ t.x 31#5 = s.cpu.pc + 8#32 ∧ BranchEnds true (decide ((s.x rs).toInt ≥ 0)) imm s t ∧ OnlyTransfer (fun r => r = 31#5) s t)

/-- O11 (R307, R308, R309, R310). With no transfer pending, each jump answers a next state with its target latched and its delay slot
next: for j and jal the word target in the 256 MiB region of the delay slot, for jr and jalr the old x[rs]; jal writes P + 8 to x[31],
jalr to x[rd] (nothing for rd = 0). -/
def Obligations.JumpsLatchTarget : Prop :=
  ∀ (s : State) (rs rd : GReg) (target : BitVec 26), s.pending = false →
    (∃ t, exec (.j target) s = .next t ∧
      Latched true (BitVec.ofNat 32 ((s.cpu.pc + 4#32).toNat / 2 ^ 28 * 2 ^ 28 + target.toNat * 4)) s t ∧
      OnlyTransfer (fun _ => False) s t) ∧
    (∃ t, exec (.jal target) s = .next t ∧ t.x 31#5 = s.cpu.pc + 8#32 ∧
      Latched true (BitVec.ofNat 32 ((s.cpu.pc + 4#32).toNat / 2 ^ 28 * 2 ^ 28 + target.toNat * 4)) s t ∧
      OnlyTransfer (fun r => r = 31#5) s t) ∧
    (∃ t, exec (.jr rs) s = .next t ∧ Latched true (s.x rs) s t ∧ OnlyTransfer (fun _ => False) s t) ∧
    (∃ t, exec (.jalr rs rd) s = .next t ∧ t.x rd = (if rd = 0#5 then 0#32 else s.cpu.pc + 8#32) ∧
      Latched true (s.x rs) s t ∧ OnlyTransfer (fun r => r = rd) s t)

/-- O12 (R287). With a transfer pending, each of the 28 branches and jumps answers the refusal CTI_IN_DELAY_SLOT; and whenever an
instruction other than syscall answers that refusal, a transfer was pending and the instruction is one of them. -/
def Obligations.TransferInSlotRefused : Prop :=
  ∀ (s : State) (i : Instr) (transfers : GReg → GReg → GReg → Half → BitVec 26 → BitVec 3 → List Instr),
    (∀ rs rt rd imm target cc, transfers rs rt rd imm target cc = [
      .beq rs rt imm, .bne rs rt imm, .blez rs rt imm, .bgtz rs rt imm, .beql rs rt imm, .bnel rs rt imm, .blezl rs rt imm,
      .bgtzl rs rt imm, .bltz rs imm, .bgez rs imm, .bltzl rs imm, .bgezl rs imm, .bltzal rs imm, .bgezal rs imm,
      .bltzall rs imm, .bgezall rs imm, .j target, .jal target, .jr rs, .jalr rs rd, .bc1f imm, .bc1t imm, .bc1fl imm,
      .bc1tl imm, .bvf cc imm, .bvt cc imm, .bvfl cc imm, .bvtl cc imm]) →
    (s.pending = true → (∃ rs rt rd imm target cc, i ∈ transfers rs rt rd imm target cc) → exec i s = .refused .ctiInDelaySlot) ∧
    ((∀ code, i ≠ .syscall code) → exec i s = .refused .ctiInDelaySlot →
      s.pending = true ∧ ∃ rs rt rd imm target cc, i ∈ transfers rs rt rd imm target cc)

/-- O13 (R397, R398, R399, R400, R447, R448, R449, R450). With no transfer pending, bc1f, bc1t, bc1fl, bc1tl branch on fpcond and bvf,
bvt, bvfl, bvtl on bit cc of the CC register, of which bits 6 and 7 read as 0; they end as every conditional branch and change nothing
else. -/
def Obligations.CoprocessorBranches : Prop :=
  ∀ (s : State) (cc : BitVec 3) (imm : Half), s.pending = false →
    (∃ t, exec (.bc1f imm) s = .next t ∧ BranchEnds false (!s.cpu.fpcond) imm s t ∧ OnlyTransfer (fun _ => False) s t) ∧
    (∃ t, exec (.bc1t imm) s = .next t ∧ BranchEnds false (s.cpu.fpcond) imm s t ∧ OnlyTransfer (fun _ => False) s t) ∧
    (∃ t, exec (.bc1fl imm) s = .next t ∧ BranchEnds true (!s.cpu.fpcond) imm s t ∧ OnlyTransfer (fun _ => False) s t) ∧
    (∃ t, exec (.bc1tl imm) s = .next t ∧ BranchEnds true (s.cpu.fpcond) imm s t ∧ OnlyTransfer (fun _ => False) s t) ∧
    (∃ t, exec (.bvf cc imm) s = .next t ∧ BranchEnds false (!(decide (cc.toNat < 6) && (s.vc CReg.cc).getLsbD cc.toNat)) imm s t ∧ OnlyTransfer (fun _ => False) s t) ∧
    (∃ t, exec (.bvt cc imm) s = .next t ∧ BranchEnds false (decide (cc.toNat < 6) && (s.vc CReg.cc).getLsbD cc.toNat) imm s t ∧ OnlyTransfer (fun _ => False) s t) ∧
    (∃ t, exec (.bvfl cc imm) s = .next t ∧ BranchEnds true (!(decide (cc.toNat < 6) && (s.vc CReg.cc).getLsbD cc.toNat)) imm s t ∧ OnlyTransfer (fun _ => False) s t) ∧
    (∃ t, exec (.bvtl cc imm) s = .next t ∧ BranchEnds true (decide (cc.toNat < 6) && (s.vc CReg.cc).getLsbD cc.toNat) imm s t ∧ OnlyTransfer (fun _ => False) s t)

/-- O14 (R280, R285, R289, R290). When an instruction completes: if a transfer was pending, the pc is its target and nothing is pending;
if none was, the pc and the transfer state are as the instruction left them. Either way register 0 holds zero, and every register,
byte, and the scheduler are as the instruction left them. -/
def Obligations.DelaySlotThenTarget : Prop :=
  ∀ (s u : State) (i : Instr), exec i s = .next u → u.failure = none →
    ∃ t, executeInstr i s = .next t ∧ t.cpu.gpr[0] = 0#32 ∧
      (s.pending = true → t.cpu.pc = s.cpu.branchPC ∧ t.pending = false) ∧
      (s.pending = false → t.cpu.pc = u.cpu.pc ∧ TransferSame u t) ∧
      GprSame u t ∧ FprSame u t ∧ VprSame u t ∧ VcSame u t ∧ HiLoSame u t ∧ FlagsSame u t ∧ MemSame u t ∧
      t.failure = none ∧ t.refused = u.refused ∧ t.sched = u.sched ∧ t.cfg = u.cfg

/-- O15 (R95, R280, R634, R641). If the next step is an instruction (State.runsNext: no failure or refusal, the run loop or a nested run
going on), the pc is aligned and resolves, and the word there decodes to i, then step is exec of i (with the word in ir): a next state
without a failure is settled (register 0, free values, the delay slot) and accounted, one with a failure is accounted, a refusal is
answered as it is. -/
def Obligations.StepRunsDecodedInstruction : Prop :=
  ∀ (s : State) (i : Instr), s.runsNext = true → s.cpu.pc.toNat % 4 = 0 → bytesResolve s.cfg s.cpu.pc 4 = true →
    decode (s.loadWord s.cpu.pc) = .ok i →
    ∀ count : State → State, count = (if s.sched.nested.isSome then State.accountNested else State.account) →
    (∀ t, exec i { s with ir := s.loadWord s.cpu.pc } = .next t → t.failure = none →
      step s = .next (count (settle s.pending s.cpu.branchPC t))) ∧
    (∀ t, exec i { s with ir := s.loadWord s.cpu.pc } = .next t → t.failure.isSome = true → step s = .next (count t)) ∧
    (∀ r, exec i { s with ir := s.loadWord s.cpu.pc } = .refused r → step s = .refused r)

/-- O16 (R95). If the next step is an instruction: a pc that is no multiple of 4 sets the latch with FETCH_ALIGN, an aligned pc that does
not resolve with FETCH_ADDRESS (both with the pc as address and word 0), and a word that is no instruction with the cause of its
opcode, the word recorded; the registers, memory and pending transfer are as before. -/
def Obligations.FetchFailures : Prop :=
  ∀ s : State, s.runsNext = true →
    (s.cpu.pc.toNat % 4 ≠ 0 → ∃ t, step s = .next t ∧ t.failure = some ⟨.fetchAlign, s.cpu.pc, 0#32, s.cpu.pc⟩ ∧
      t.cpu = s.cpu ∧ t.mem = s.mem) ∧
    (s.cpu.pc.toNat % 4 = 0 → bytesResolve s.cfg s.cpu.pc 4 = false →
      ∃ t, step s = .next t ∧ t.failure = some ⟨.fetchAddress, s.cpu.pc, 0#32, s.cpu.pc⟩ ∧ t.cpu = s.cpu ∧ t.mem = s.mem) ∧
    (s.cpu.pc.toNat % 4 = 0 → bytesResolve s.cfg s.cpu.pc 4 = true → ∀ e, decode (s.loadWord s.cpu.pc) = .error e →
      ∃ t, step s = .next t ∧ t.failure = some ⟨DecodeError.cause e, s.cpu.pc, s.loadWord s.cpu.pc, 0#32⟩ ∧ t.cpu = s.cpu ∧ t.mem = s.mem)

/-- O17 (R321, R322, R323, R324, R325, R336, R338). Where the access at ea = x[rs] + sext(imm) is aligned and resolves, each load answers
a next state in which its register holds the byte, halfword or word there, sign- or zero-extended, and nothing else has changed but
the pc; a load to register 0 writes nothing. lv.s is the same with its own offset, and writes the VFPU slot that its number names,
under no prefix. -/
def Obligations.LoadsWriteTheirRegister : Prop :=
  ∀ (s : State) (rs rt : GReg) (imm : Half) (off : BitVec 14) (hi : BitVec 2) (ea va : Word),
    ea = s.x rs + BitVec.ofInt 32 imm.toInt → va = s.x rs + BitVec.ofInt 32 (4 * off.toInt) →
    (Accessible s ea 1 1 → ∃ t, exec (.lb rs rt imm) s = .next t ∧ WritesX rt (BitVec.ofInt 32 (s.loadByte ea).toInt) s t) ∧
    (Accessible s ea 1 1 → ∃ t, exec (.lbu rs rt imm) s = .next t ∧ WritesX rt (BitVec.ofNat 32 (s.loadByte ea).toNat) s t) ∧
    (Accessible s ea 2 2 → ∃ t, exec (.lh rs rt imm) s = .next t ∧ WritesX rt (BitVec.ofInt 32 (s.loadHalf ea).toInt) s t) ∧
    (Accessible s ea 2 2 → ∃ t, exec (.lhu rs rt imm) s = .next t ∧ WritesX rt (BitVec.ofNat 32 (s.loadHalf ea).toNat) s t) ∧
    (Accessible s ea 4 4 → ∃ t, exec (.lw rs rt imm) s = .next t ∧ WritesX rt (s.loadWord ea) s t) ∧
    (Accessible s ea 4 4 → ∃ t, exec (.lwc1 rs rt imm) s = .next t ∧ WritesF rt (s.loadWord ea) s t) ∧
    (Accessible s va 4 4 → ∃ t, exec (.lvS rs rt off hi) s = .next t ∧ OnlyVpr s t ∧
      ∀ k : VReg, t.vr k = if k = BitVec.ofNat 7 (rt.toNat + 32 * hi.toNat) then s.loadWord va else s.vr k)

/-- O18 (R328, R329, R330, R337, R339). Where memory is canonical and the access at ea is aligned and resolves, each store answers a next
state in which the bytes at ea are those of the register, every byte outside them reads as before, and nothing else has changed but
the pc; sv.s is the same with its own offset and its VFPU slot. -/
def Obligations.StoresWriteTheirBytes : Prop :=
  ∀ (s : State) (rs rt : GReg) (imm : Half) (off : BitVec 14) (hi : BitVec 2) (ea va : Word),
    ea = s.x rs + BitVec.ofInt 32 imm.toInt → va = s.x rs + BitVec.ofInt 32 (4 * off.toInt) → s.mem.wf = true →
    (Accessible s ea 1 1 → ∃ t, exec (.sb rs rt imm) s = .next t ∧ t.loadByte ea = (s.x rt).extractLsb' 0 8 ∧
      (∀ b, OutsideBytes s.cfg ea 1 b → t.loadByte b = s.loadByte b) ∧ OnlyMem s t) ∧
    (Accessible s ea 2 2 → ∃ t, exec (.sh rs rt imm) s = .next t ∧ t.loadHalf ea = (s.x rt).extractLsb' 0 16 ∧
      (∀ b, OutsideBytes s.cfg ea 2 b → t.loadByte b = s.loadByte b) ∧ OnlyMem s t) ∧
    (Accessible s ea 4 4 → ∃ t, exec (.sw rs rt imm) s = .next t ∧ t.loadWord ea = s.x rt ∧
      (∀ b, OutsideBytes s.cfg ea 4 b → t.loadByte b = s.loadByte b) ∧ OnlyMem s t) ∧
    (Accessible s ea 4 4 → ∃ t, exec (.swc1 rs rt imm) s = .next t ∧ t.loadWord ea = s.f rt ∧
      (∀ b, OutsideBytes s.cfg ea 4 b → t.loadByte b = s.loadByte b) ∧ OnlyMem s t) ∧
    (Accessible s va 4 4 → ∃ t, exec (.svS rs rt off hi) s = .next t ∧
      t.loadWord va = s.vr (BitVec.ofNat 7 (rt.toNat + 32 * hi.toNat)) ∧
      (∀ b, OutsideBytes s.cfg va 4 b → t.loadByte b = s.loadByte b) ∧ OnlyMem s t)

/-- O19 (R326, R327, R331, R332). With k = ea mod 4, where the aligned word of ea resolves: lwl writes a value whose byte 3 - j is the
memory byte at ea - j for j <= k and whose other bytes are those of the old register; lwr one whose byte j is the memory byte at ea +
j for j <= 3 - k. Where memory is canonical too: after swl the byte at ea - j is byte 3 - j of the register for j <= k; after swr the
byte at ea + j is byte j for j <= 3 - k; every other byte reads as before. Nothing else changes but the pc. -/
def Obligations.UnalignedLoadsStores : Prop :=
  ∀ (s : State) (rs rt : GReg) (imm : Half) (ea : Word), ea = s.x rs + BitVec.ofInt 32 imm.toInt →
    Accessible s (ea - BitVec.ofNat 32 (ea.toNat % 4)) 4 4 →
    (∃ t v, exec (.lwl rs rt imm) s = .next t ∧ WritesX rt v s t ∧ ∀ j, j < 4 →
      v.extractLsb' (8 * (3 - j)) 8 =
        if j ≤ ea.toNat % 4 then s.loadByte (ea - BitVec.ofNat 32 j) else (s.x rt).extractLsb' (8 * (3 - j)) 8) ∧
    (∃ t v, exec (.lwr rs rt imm) s = .next t ∧ WritesX rt v s t ∧ ∀ j, j < 4 →
      v.extractLsb' (8 * j) 8 =
        if j ≤ 3 - ea.toNat % 4 then s.loadByte (ea + BitVec.ofNat 32 j) else (s.x rt).extractLsb' (8 * j) 8) ∧
    (s.mem.wf = true → ∃ t, exec (.swl rs rt imm) s = .next t ∧ OnlyMem s t ∧
      (∀ j, j ≤ ea.toNat % 4 → t.loadByte (ea - BitVec.ofNat 32 j) = (s.x rt).extractLsb' (8 * (3 - j)) 8) ∧
      ∀ b, (∀ j, j ≤ ea.toNat % 4 → byteKey s.cfg b ≠ byteKey s.cfg (ea - BitVec.ofNat 32 j)) → t.loadByte b = s.loadByte b) ∧
    (s.mem.wf = true → ∃ t, exec (.swr rs rt imm) s = .next t ∧ OnlyMem s t ∧
      (∀ j, j ≤ 3 - ea.toNat % 4 → t.loadByte (ea + BitVec.ofNat 32 j) = (s.x rt).extractLsb' (8 * j) 8) ∧
      ∀ b, (∀ j, j ≤ 3 - ea.toNat % 4 → byteKey s.cfg b ≠ byteKey s.cfg (ea + BitVec.ofNat 32 j)) → t.loadByte b = s.loadByte b)

/-- O20 (R334, R335). ll at an accessible address writes the word and sets llBit; sc with llBit set, at an accessible address and with
canonical memory, stores the register and then writes 1 to it; sc without llBit touches no memory, at any address, and writes 0; llBit
is unchanged by sc; nothing else changes but the pc. -/
def Obligations.LoadLinkedStoreConditional : Prop :=
  ∀ (s : State) (rs rt : GReg) (imm : Half) (ea : Word), ea = s.x rs + BitVec.ofInt 32 imm.toInt →
    (Accessible s ea 4 4 → ∃ t, exec (.ll rs rt imm) s = .next t ∧ t.cpu.llBit = true ∧
      WritesX rt (s.loadWord ea) s { t with cpu := { t.cpu with llBit := s.cpu.llBit } }) ∧
    (s.cpu.llBit = true → Accessible s ea 4 4 → s.mem.wf = true → ∃ t, exec (.sc rs rt imm) s = .next t ∧
      t.loadWord ea = s.x rt ∧ t.x rt = (if rt = 0#5 then 0#32 else 1#32) ∧
      (∀ b, OutsideBytes s.cfg ea 4 b → t.loadByte b = s.loadByte b) ∧ OnlyX rt s { t with mem := s.mem }) ∧
    (s.cpu.llBit = false → ∃ t, exec (.sc rs rt imm) s = .next t ∧ WritesX rt 0#32 s t)

/-- O21 (R340, R342, R343). lv.q at a 16-aligned address whose block resolves writes the four words upward from ea; lvl.q at a
word-aligned address writes lanes 3 - k to 3 with the words from ea downward to the block start (k = ea[3:2]); lvr.q writes lanes 0 to
3 - k with the words from ea upward; lanes not loaded and lanes masked by the D prefix keep their value; no prefix is read otherwise
or eaten; nothing else changes but the pc. -/
def Obligations.QuadLoads : Prop :=
  ∀ (s : State) (rs : GReg) (vt : BitVec 5) (off : BitVec 14) (hi : BitVec 1) (ea : Word) (r : VReg) (k : Nat),
    ea = s.x rs + BitVec.ofInt 32 (4 * off.toInt) → r = BitVec.ofNat 7 (vt.toNat + 32 * hi.toNat) → k = ea.toNat / 4 % 4 →
    (ea.toNat % 16 = 0 → (∀ i, i < 4 → Accessible s (ea + BitVec.ofNat 32 (4 * i)) 4 4) →
      ∃ t, exec (.lvQ rs vt off hi) s = .next t ∧ OnlyVpr s t ∧
        VectorWritten .quad r (fun i => s.loadWord (ea + BitVec.ofNat 32 (4 * i))) s t) ∧
    ((∀ i, i ≤ k → Accessible s (ea - BitVec.ofNat 32 (4 * i)) 4 4) →
      ∃ t, exec (.lvlQ rs vt off hi) s = .next t ∧ OnlyVpr s t ∧
        VectorWritten .quad r (fun i => if 3 - k ≤ i then s.loadWord (ea - BitVec.ofNat 32 (4 * (3 - i)))
          else s.vr (vectorSlot .quad r i)) s t) ∧
    ((∀ i, i ≤ 3 - k → Accessible s (ea + BitVec.ofNat 32 (4 * i)) 4 4) →
      ∃ t, exec (.lvrQ rs vt off hi) s = .next t ∧ OnlyVpr s t ∧
        VectorWritten .quad r (fun i => if i ≤ 3 - k then s.loadWord (ea + BitVec.ofNat 32 (4 * i))
          else s.vr (vectorSlot .quad r i)) s t)

/-- O22 (R341, R344, R345). With canonical memory: sv.q at a 16-aligned address whose block resolves stores the four lanes upward from ea;
svl.q stores lanes 3 - i at ea - 4i for i <= k = ea[3:2]; svr.q stores lanes i at ea + 4i for i <= 3 - k; every byte outside those
words reads as before and nothing else changes but the pc. The write-back hint changes nothing. -/
def Obligations.QuadStores : Prop :=
  ∀ (s : State) (rs : GReg) (vt : BitVec 5) (off : BitVec 14) (hi wb : BitVec 1) (ea : Word) (r : VReg) (k : Nat),
    ea = s.x rs + BitVec.ofInt 32 (4 * off.toInt) → r = BitVec.ofNat 7 (vt.toNat + 32 * hi.toNat) → k = ea.toNat / 4 % 4 →
    s.mem.wf = true →
    (ea.toNat % 16 = 0 → (∀ i, i < 4 → Accessible s (ea + BitVec.ofNat 32 (4 * i)) 4 4) →
      ∃ t, exec (.svQ rs vt off hi wb) s = .next t ∧ OnlyMem s t ∧
        (∀ i, i < 4 → t.loadWord (ea + BitVec.ofNat 32 (4 * i)) = s.vr (vectorSlot .quad r i)) ∧
        ∀ b, (∀ i, i < 4 → OutsideBytes s.cfg (ea + BitVec.ofNat 32 (4 * i)) 4 b) → t.loadByte b = s.loadByte b) ∧
    ((∀ i, i ≤ k → Accessible s (ea - BitVec.ofNat 32 (4 * i)) 4 4) →
      ∃ t, exec (.svlQ rs vt off hi) s = .next t ∧ OnlyMem s t ∧
        (∀ i, i ≤ k → t.loadWord (ea - BitVec.ofNat 32 (4 * i)) = s.vr (vectorSlot .quad r (3 - i))) ∧
        ∀ b, (∀ i, i ≤ k → OutsideBytes s.cfg (ea - BitVec.ofNat 32 (4 * i)) 4 b) → t.loadByte b = s.loadByte b) ∧
    ((∀ i, i ≤ 3 - k → Accessible s (ea + BitVec.ofNat 32 (4 * i)) 4 4) →
      ∃ t, exec (.svrQ rs vt off hi) s = .next t ∧ OnlyMem s t ∧
        (∀ i, i ≤ 3 - k → t.loadWord (ea + BitVec.ofNat 32 (4 * i)) = s.vr (vectorSlot .quad r i)) ∧
        ∀ b, (∀ i, i ≤ 3 - k → OutsideBytes s.cfg (ea + BitVec.ofNat 32 (4 * i)) 4 b) → t.loadByte b = s.loadByte b)

/-- O23 (R93, R94, R90). With no failure latched, every load and store whose own access is misaligned sets the latch with MISALIGNED_DATA,
and every one that is aligned but whose bytes do not resolve in one window with DATA_ADDRESS, with the faulting address; nothing else
of the state changes. lwl, lwr, swl, swr access the aligned word of ea; sc accesses memory only with llBit; the quad transfers fail
with their first failing word. (Which address the record names for lwl, lwr, swl, swr, for a misaligned quad access and for a later
word of one is the model choice of log entry 17.) -/
def Obligations.AccessFaults : Prop :=
  ∀ (s : State) (rs rt : GReg) (imm : Half) (off : BitVec 14) (vhi : BitVec 2) (hi wb : BitVec 1) (ea va wa : Word) (k : Nat),
    ea = s.x rs + BitVec.ofInt 32 imm.toInt → va = s.x rs + BitVec.ofInt 32 (4 * off.toInt) →
    wa = ea - BitVec.ofNat 32 (ea.toNat % 4) → k = va.toNat / 4 % 4 → s.failure = none →
    (∀ i, i ∈ ([.lb rs rt imm, .lbu rs rt imm, .sb rs rt imm] : List Instr) → bytesResolve s.cfg ea 1 = false →
      ∃ t, exec i s = .next t ∧ FatalOnly .dataAddress ea s t) ∧
    (∀ i, i ∈ ([.lh rs rt imm, .lhu rs rt imm, .sh rs rt imm] : List Instr) →
      (ea.toNat % 2 ≠ 0 → ∃ t, exec i s = .next t ∧ FatalOnly .misalignedData ea s t) ∧
      (ea.toNat % 2 = 0 → bytesResolve s.cfg ea 2 = false → ∃ t, exec i s = .next t ∧ FatalOnly .dataAddress ea s t)) ∧
    (s.cpu.llBit = true →
      (ea.toNat % 4 ≠ 0 → ∃ t, exec (.sc rs rt imm) s = .next t ∧ FatalOnly .misalignedData ea s t) ∧
      (ea.toNat % 4 = 0 → bytesResolve s.cfg ea 4 = false →
        ∃ t, exec (.sc rs rt imm) s = .next t ∧ FatalOnly .dataAddress ea s t)) ∧
    (∀ i, i ∈ ([.lw rs rt imm, .sw rs rt imm, .ll rs rt imm, .lwc1 rs rt imm, .swc1 rs rt imm] : List Instr) →
      (ea.toNat % 4 ≠ 0 → ∃ t, exec i s = .next t ∧ FatalOnly .misalignedData ea s t) ∧
      (ea.toNat % 4 = 0 → bytesResolve s.cfg ea 4 = false → ∃ t, exec i s = .next t ∧ FatalOnly .dataAddress ea s t)) ∧
    (∀ i, i ∈ ([.lwl rs rt imm, .lwr rs rt imm, .swl rs rt imm, .swr rs rt imm] : List Instr) →
      bytesResolve s.cfg wa 4 = false → ∃ t, exec i s = .next t ∧ FatalOnly .dataAddress wa s t) ∧
    (∀ i, i ∈ ([.lvS rs rt off vhi, .svS rs rt off vhi] : List Instr) →
      (va.toNat % 4 ≠ 0 → ∃ t, exec i s = .next t ∧ FatalOnly .misalignedData va s t) ∧
      (va.toNat % 4 = 0 → bytesResolve s.cfg va 4 = false → ∃ t, exec i s = .next t ∧ FatalOnly .dataAddress va s t)) ∧
    (∀ i, i ∈ ([.lvQ rs rt off hi, .svQ rs rt off hi wb] : List Instr) →
      (va.toNat % 16 ≠ 0 → ∃ t, exec i s = .next t ∧ FatalOnly .misalignedData va s t) ∧
      (va.toNat % 16 = 0 → ∀ j, j < 4 → (∀ m, m < j → Accessible s (va + BitVec.ofNat 32 (4 * m)) 4 4) →
        bytesResolve s.cfg (va + BitVec.ofNat 32 (4 * j)) 4 = false →
        ∃ t, exec i s = .next t ∧ FatalOnly .dataAddress (va + BitVec.ofNat 32 (4 * j)) s t)) ∧
    (∀ i, i ∈ ([.lvlQ rs rt off hi, .svlQ rs rt off hi] : List Instr) →
      (va.toNat % 4 ≠ 0 → ∃ t, exec i s = .next t ∧ FatalOnly .misalignedData va s t) ∧
      (va.toNat % 4 = 0 → ∀ j, j ≤ k → (∀ m, m < j → Accessible s (va - BitVec.ofNat 32 (4 * m)) 4 4) →
        bytesResolve s.cfg (va - BitVec.ofNat 32 (4 * j)) 4 = false →
        ∃ t, exec i s = .next t ∧ FatalOnly .dataAddress (va - BitVec.ofNat 32 (4 * j)) s t)) ∧
    ∀ i, i ∈ ([.lvrQ rs rt off hi, .svrQ rs rt off hi] : List Instr) →
      (va.toNat % 4 ≠ 0 → ∃ t, exec i s = .next t ∧ FatalOnly .misalignedData va s t) ∧
      (va.toNat % 4 = 0 → ∀ j, j ≤ 3 - k → (∀ m, m < j → Accessible s (va + BitVec.ofNat 32 (4 * m)) 4 4) →
        bytesResolve s.cfg (va + BitVec.ofNat 32 (4 * j)) 4 = false →
        ∃ t, exec i s = .next t ∧ FatalOnly .dataAddress (va + BitVec.ofNat 32 (4 * j)) s t)

/-- O24 (R362, R363, R364, R365, R371, R372, R373). mfc1 and mtc1 move a pattern; cfc1 reads 0x00003351 for 0, fcr31 with fpcond as bit 23
for 31, and 0 for any other number; ctc1 writes fcr31 under its mask and fpcond for 31 and only advances the pc for any other; abs.s
clears, neg.s flips and mov.s keeps the sign bit of any pattern. Nothing else changes but the pc. -/
def Obligations.Cop1Moves : Prop :=
  ∀ (s : State) (rt : GReg) (fs fd : FReg),
    (∃ t, exec (.mfc1 rt fs) s = .next t ∧ WritesX rt (s.f fs) s t) ∧
    (∃ t, exec (.mtc1 rt fs) s = .next t ∧ WritesF fs (s.x rt) s t) ∧
    (∃ t, exec (.cfc1 rt 0#5) s = .next t ∧ WritesX rt (0x00003351#32) s t) ∧
    (∃ t, exec (.cfc1 rt 31#5) s = .next t ∧ ∃ v : Word, WritesX rt v s t ∧ v.getLsbD 23 = s.cpu.fpcond ∧
      ∀ j, j < 32 → j ≠ 23 → v.getLsbD j = s.cpu.fcr31.getLsbD j) ∧
    (fs ≠ 0#5 → fs ≠ 31#5 → (∃ t, exec (.cfc1 rt fs) s = .next t ∧ WritesX rt (0#32) s t)) ∧
    (∃ t, exec (.ctc1 rt 31#5) s = .next t ∧ OnlyCop1Control s t ∧ t.cpu.fcr31 = (s.x rt &&& 0x0181FFFF#32) ∧
      t.cpu.fpcond = (s.x rt).getLsbD 23) ∧
    (fs ≠ 31#5 → (∃ t, exec (.ctc1 rt fs) s = .next t ∧ OnlyPc s t)) ∧
    (∃ t, exec (.absS fs fd) s = .next t ∧ ∃ v : Word, WritesF fd v s t ∧ ∀ j, j < 32 → v.getLsbD j = (decide (j ≠ 31) && (s.f fs).getLsbD j)) ∧
    (∃ t, exec (.movS fs fd) s = .next t ∧ WritesF fd (s.f fs) s t) ∧
    (∃ t, exec (.negS fs fd) s = .next t ∧ ∃ v : Word, WritesF fd v s t ∧ ∀ j, j < 32 → v.getLsbD j = ((s.f fs).getLsbD j != decide (j = 31)))

/-- O25 (R360, R366, R367, R368, R369, R370, R380). On every operand each instruction answers a next state that writes only its register
and the pc. Of the operands, subnormals flushed to a zero of their sign if FTZ is on (log entry 24): a NaN gives some NaN; infinities
of opposite sign added, infinity times zero, 0/0, infinity/infinity and the root of a negative nonzero value give some NaN; any other
sum, product or quotient with an infinity, and a nonzero finite value over zero, is the infinity or zero of its sign; the root of a
zero or of +infinity is itself; the word 0 converts to +0. The results on finite operands are the statement
ArithmeticCorrectlyRounded. -/
def Obligations.Cop1Arithmetic : Prop :=
  ∀ (s : State) (ft fs fd : FReg) (fl : Word → Word) (a b : Word),
    (∀ p : Word, fl p = if s.cfg.ftz = true ∧ fExp p = 0 then (if fNeg p then 0x80000000#32 else 0#32) else p) → a = fl (s.f fs) → b = fl (s.f ft) →
    (∃ t, exec (.addS ft fs fd) s = .next t ∧ OnlyF fd s t ∧
      ((isNaN a || isNaN b) = true → isNaN (t.f fd) = true) ∧
      (isInf a = true → isInf b = true → a ≠ b → isNaN (t.f fd) = true) ∧
      (isInf a = true → isNaNorInf b = false ∨ b = a → t.f fd = a) ∧
      (isInf b = true → isNaNorInf a = false → t.f fd = b)) ∧
    (∃ t, exec (.subS ft fs fd) s = .next t ∧ OnlyF fd s t ∧
      ((isNaN a || isNaN b) = true → isNaN (t.f fd) = true) ∧
      (isInf a = true → b = a → isNaN (t.f fd) = true) ∧
      (isInf a = true → isNaN b = false → b ≠ a → t.f fd = a) ∧
      (isInf b = true → isNaNorInf a = false → t.f fd = b ^^^ 0x80000000#32)) ∧
    (∃ t, exec (.mulS ft fs fd) s = .next t ∧ OnlyF fd s t ∧
      ((isNaN a || isNaN b) = true → isNaN (t.f fd) = true) ∧
      (isInf a = true ∧ isZero b = true ∨ isZero a = true ∧ isInf b = true → isNaN (t.f fd) = true) ∧
      (isNaN a = false → isNaN b = false → isZero a = false → isZero b = false → isInf a = true ∨ isInf b = true →
        t.f fd = (if fNeg a = fNeg b then 0x7F800000#32 else 0xFF800000#32))) ∧
    (∃ t, exec (.divS ft fs fd) s = .next t ∧ OnlyF fd s t ∧
      ((isNaN a || isNaN b) = true → isNaN (t.f fd) = true) ∧
      (isZero a = true ∧ isZero b = true ∨ isInf a = true ∧ isInf b = true → isNaN (t.f fd) = true) ∧
      (isInf a = true → isNaNorInf b = false → t.f fd = (if fNeg a = fNeg b then 0x7F800000#32 else 0xFF800000#32)) ∧
      (isNaNorInf a = false → isInf b = true → t.f fd = if fNeg a = fNeg b then 0#32 else 0x80000000#32) ∧
      (isNaNorInf a = false → isZero a = false → isZero b = true → t.f fd = (if fNeg a = fNeg b then 0x7F800000#32 else 0xFF800000#32))) ∧
    (∃ t, exec (.sqrtS fs fd) s = .next t ∧ OnlyF fd s t ∧ (isNaN a = true → isNaN (t.f fd) = true) ∧
      (fNeg a = true → isZero a = false → isNaN (t.f fd) = true) ∧ (isZero a = true ∨ a = 0x7F800000#32 → t.f fd = a)) ∧
    (∃ t, exec (.cvtSW fs fd) s = .next t ∧ OnlyF fd s t ∧ (s.f fs = 0#32 → t.f fd = 0#32))

/-- O26 (R360, R366, R367, R368, R369, R370, R380). On finite operands (and a divisor that is not zero, a radicand that is positive) the
pattern written is the nearest binary32 pattern to the exact sum, difference, product, quotient or root of the operand values, or to
the integer converted: ties to the even fraction, from 2^128 - 2^103 on the infinity of its sign. A zero sum is +0 unless both terms
are negative; the sign of a product or quotient is that of its operands. With FTZ on, subnormal operands and results are zeros of
their sign (log entry 24). Nothing else changes but the pc. -/
def Obligations.ArithmeticCorrectlyRounded : Prop :=
  ∀ (s : State) (ft fs fd : FReg) (fl : Word → Word) (a b : Word),
    (∀ p : Word, fl p = if s.cfg.ftz = true ∧ fExp p = 0 then (if fNeg p then 0x80000000#32 else 0#32) else p) → a = fl (s.f fs) → b = fl (s.f ft) →
    (isNaNorInf a = false → isNaNorInf b = false →
      (∃ t, exec (.addS ft fs fd) s = .next t ∧ OnlyF fd s t ∧ (∃ q, IsNearest (fValue a + fValue b) q ∧ t.f fd = fl q) ∧
        (fValue a + fValue b = 0 → t.f fd = if fNeg a && fNeg b then 0x80000000#32 else 0#32)) ∧
      (∃ t, exec (.subS ft fs fd) s = .next t ∧ OnlyF fd s t ∧ (∃ q, IsNearest (fValue a - fValue b) q ∧ t.f fd = fl q) ∧
        (fValue a - fValue b = 0 → t.f fd = if fNeg a && !fNeg b then 0x80000000#32 else 0#32)) ∧
      (∃ t, exec (.mulS ft fs fd) s = .next t ∧ OnlyF fd s t ∧ (∃ q, IsNearest (fValue a * fValue b) q ∧ t.f fd = fl q) ∧
        fNeg (t.f fd) = (fNeg a != fNeg b)) ∧
      (isZero b = false → (∃ t, exec (.divS ft fs fd) s = .next t ∧ OnlyF fd s t ∧ (∃ q, IsNearest (fValue a / fValue b) q ∧ t.f fd = fl q) ∧
        fNeg (t.f fd) = (fNeg a != fNeg b))) ∧
      (isZero a = false → fNeg a = false → (∃ t, exec (.sqrtS fs fd) s = .next t ∧ OnlyF fd s t ∧ IsNearestRoot (fValue a) (t.f fd)))) ∧
    (∃ t, exec (.cvtSW fs fd) s = .next t ∧ OnlyF fd s t ∧ IsNearest ((s.f fs).toInt : ℚ) (t.f fd))

/-- O27 (R374, R375, R376, R377, R378, R379). On every pattern each conversion answers a next state whose register holds the integer that
its mode (for cvt.w.s the RM field of fcr31) rounds the exact value to, saturated to the 32-bit integers, and for a NaN or an infinity
the bound of its sign; nothing else changes but the pc. -/
def Obligations.FloatToWordConversions : Prop :=
  ∀ (s : State) (fs fd : FReg),
    (∃ t, exec (.roundWS fs fd) s = .next t ∧ IsConverted .nearestEven (s.f fs) (t.f fd) ∧ OnlyF fd s t) ∧
    (∃ t, exec (.truncWS fs fd) s = .next t ∧ IsConverted .towardZero (s.f fs) (t.f fd) ∧ OnlyF fd s t) ∧
    (∃ t, exec (.ceilWS fs fd) s = .next t ∧ IsConverted .towardPlus (s.f fs) (t.f fd) ∧ OnlyF fd s t) ∧
    (∃ t, exec (.floorWS fs fd) s = .next t ∧ IsConverted .towardMinus (s.f fs) (t.f fd) ∧ OnlyF fd s t) ∧
    (s.cpu.fcr31.toNat % 4 = 0 → (∃ t, exec (.cvtWS fs fd) s = .next t ∧ IsConverted .nearestEven (s.f fs) (t.f fd) ∧ OnlyF fd s t)) ∧
    (s.cpu.fcr31.toNat % 4 = 1 → (∃ t, exec (.cvtWS fs fd) s = .next t ∧ IsConverted .towardZero (s.f fs) (t.f fd) ∧ OnlyF fd s t)) ∧
    (s.cpu.fcr31.toNat % 4 = 2 → (∃ t, exec (.cvtWS fs fd) s = .next t ∧ IsConverted .towardPlus (s.f fs) (t.f fd) ∧ OnlyF fd s t)) ∧
    (s.cpu.fcr31.toNat % 4 = 3 → (∃ t, exec (.cvtWS fs fd) s = .next t ∧ IsConverted .towardMinus (s.f fs) (t.f fd) ∧ OnlyF fd s t))

/-- O28 (R361). With unordered that an operand is a NaN, equal and less those of the exact values of the patterns (of which infinities are
beyond every finite one) and false when unordered, each compare answers a next state whose fpcond is its combination of the three, the
signaling form as the quiet one; fcr31 and everything else but the pc are unchanged. -/
def Obligations.CompareConditions : Prop :=
  ∀ (s : State) (ft fs : FReg) (un eq lt : Bool),
    un = (isNaN (s.f fs) || isNaN (s.f ft)) →
    (un = true → eq = false ∧ lt = false) →
    (un = false → isInf (s.f fs) = false → isInf (s.f ft) = false →
      (eq = true ↔ fValue (s.f fs) = fValue (s.f ft)) ∧ (lt = true ↔ fValue (s.f fs) < fValue (s.f ft))) →
    (un = false → (isInf (s.f fs) || isInf (s.f ft)) = true →
      (eq = true ↔ s.f fs = s.f ft) ∧
      (lt = true ↔ s.f fs ≠ s.f ft ∧ ((isInf (s.f fs) && fNeg (s.f fs)) || (isInf (s.f ft) && !fNeg (s.f ft))) = true)) →
    (∃ t, exec (.cFS ft fs) s = .next t ∧ t.cpu.fpcond = (false) ∧ t.cpu.fcr31 = s.cpu.fcr31 ∧ OnlyCop1Control s t) ∧
    (∃ t, exec (.cUnS ft fs) s = .next t ∧ t.cpu.fpcond = (un) ∧ t.cpu.fcr31 = s.cpu.fcr31 ∧ OnlyCop1Control s t) ∧
    (∃ t, exec (.cEqS ft fs) s = .next t ∧ t.cpu.fpcond = (eq) ∧ t.cpu.fcr31 = s.cpu.fcr31 ∧ OnlyCop1Control s t) ∧
    (∃ t, exec (.cUeqS ft fs) s = .next t ∧ t.cpu.fpcond = (un || eq) ∧ t.cpu.fcr31 = s.cpu.fcr31 ∧ OnlyCop1Control s t) ∧
    (∃ t, exec (.cOltS ft fs) s = .next t ∧ t.cpu.fpcond = (lt) ∧ t.cpu.fcr31 = s.cpu.fcr31 ∧ OnlyCop1Control s t) ∧
    (∃ t, exec (.cUltS ft fs) s = .next t ∧ t.cpu.fpcond = (un || lt) ∧ t.cpu.fcr31 = s.cpu.fcr31 ∧ OnlyCop1Control s t) ∧
    (∃ t, exec (.cOleS ft fs) s = .next t ∧ t.cpu.fpcond = (eq || lt) ∧ t.cpu.fcr31 = s.cpu.fcr31 ∧ OnlyCop1Control s t) ∧
    (∃ t, exec (.cUleS ft fs) s = .next t ∧ t.cpu.fpcond = (un || eq || lt) ∧ t.cpu.fcr31 = s.cpu.fcr31 ∧ OnlyCop1Control s t) ∧
    (∃ t, exec (.cSfS ft fs) s = .next t ∧ t.cpu.fpcond = (false) ∧ t.cpu.fcr31 = s.cpu.fcr31 ∧ OnlyCop1Control s t) ∧
    (∃ t, exec (.cNgleS ft fs) s = .next t ∧ t.cpu.fpcond = (un) ∧ t.cpu.fcr31 = s.cpu.fcr31 ∧ OnlyCop1Control s t) ∧
    (∃ t, exec (.cSeqS ft fs) s = .next t ∧ t.cpu.fpcond = (eq) ∧ t.cpu.fcr31 = s.cpu.fcr31 ∧ OnlyCop1Control s t) ∧
    (∃ t, exec (.cNglS ft fs) s = .next t ∧ t.cpu.fpcond = (un || eq) ∧ t.cpu.fcr31 = s.cpu.fcr31 ∧ OnlyCop1Control s t) ∧
    (∃ t, exec (.cLtS ft fs) s = .next t ∧ t.cpu.fpcond = (lt) ∧ t.cpu.fcr31 = s.cpu.fcr31 ∧ OnlyCop1Control s t) ∧
    (∃ t, exec (.cNgeS ft fs) s = .next t ∧ t.cpu.fpcond = (un || lt) ∧ t.cpu.fcr31 = s.cpu.fcr31 ∧ OnlyCop1Control s t) ∧
    (∃ t, exec (.cLeS ft fs) s = .next t ∧ t.cpu.fpcond = (eq || lt) ∧ t.cpu.fcr31 = s.cpu.fcr31 ∧ OnlyCop1Control s t) ∧
    (∃ t, exec (.cNgtS ft fs) s = .next t ∧ t.cpu.fpcond = (un || eq || lt) ∧ t.cpu.fcr31 = s.cpu.fcr31 ∧ OnlyCop1Control s t)

/-- O29 (R402, R404, R651, R659, R692, R693, R682, R683, R684, R686, R687, R688). With no failure latched and a NID mapped at the pc:
where the command (or the handled external handler) goes on, syscall answers the state it leaves with the poisoned set at 0xDEADBEEF
and the pc advanced; where it fails, its failure with the live ProcessorState as before (log entry 43); where it is refused, the
refusal. So cpuSuspendIntr, cpuResumeIntr and getThreadId. The interrupt-record, callback and alarm commands change their record alone
and answer OK, a fresh UID or ERR_UNKNOWN_UID in x[2] (an alarm deadline counts the step, log entry 39). (A syscall at an address
without a NID is in SystemInstructions.) -/
def Obligations.SyscallRunsCommand : Prop :=
  (∀ (s : State) (code : BitVec 20) (nid : Word) (r : Result), s.failure = none → lookup s.cfg.nidMap s.cpu.pc = some nid →
    (∀ c, lookup s.cfg.kernelNid nid = some c → r = runCommand c ⟨s.x 4#5, s.x 5#5, s.x 6#5, s.x 7#5, s.x 8#5, s.x 9#5⟩ s) →
    (lookup s.cfg.kernelNid nid = none →
      (Config.dispatch nid s).handled = true ∧ r = runActions (Config.dispatch nid s).actions s) →
    (∀ u, r = .next u → u.failure = none → ∃ t, exec (.syscall code) s = .next t ∧
      (∀ g : GReg, t.x g = if g.toNat ∈ [1, 4, 5, 6, 7, 8, 9, 10, 11, 12, 13, 14, 15, 24, 25] then 0xDEADBEEF#32 else u.x g) ∧
      t.cpu.hi = 0xDEADBEEF#32 ∧ t.cpu.lo = 0xDEADBEEF#32 ∧ Advanced s t ∧ FprSame u t ∧ VprSame u t ∧ VcSame u t ∧
      FlagsSame u t ∧ TransferSame u t ∧ t.mem = u.mem ∧ t.sched = u.sched ∧ t.failure = none ∧ t.refused = u.refused ∧
      t.cfg = u.cfg) ∧
    (∀ u, r = .next u → u.failure.isSome = true → exec (.syscall code) s = .next { u with cpu := s.cpu }) ∧
    ∀ e, r = .refused e → exec (.syscall code) s = .refused e) ∧
  (∀ (s : State) (code : BitVec 20) (nid : Word), s.failure = none → lookup s.cfg.nidMap s.cpu.pc = some nid →
    (lookup s.cfg.kernelNid nid = some .cpuSuspendIntr → ∃ t, exec (.syscall code) s = .next t ∧
      (∀ r : GReg, t.x r = if r.toNat ∈ [1, 4, 5, 6, 7, 8, 9, 10, 11, 12, 13, 14, 15, 24, 25] then 0xDEADBEEF#32
        else if r = 2#5 then (if s.sched.intrEnabled then 1#32 else 0#32) else s.x r) ∧ t.cpu.hi = 0xDEADBEEF#32 ∧ t.cpu.lo = 0xDEADBEEF#32 ∧
      t.sched = { s.sched with intrEnabled := false } ∧ FprSame s t ∧ VprSame s t ∧ VcSame s t ∧
      FlagsSame s t ∧ TransferSame s t ∧ Advanced s t ∧ MemSame s t ∧ t.failure = s.failure ∧ t.refused = s.refused ∧ t.cfg = s.cfg) ∧
    (lookup s.cfg.kernelNid nid = some .cpuResumeIntr → ∃ t, exec (.syscall code) s = .next t ∧
      (∀ r : GReg, t.x r = if r.toNat ∈ [1, 4, 5, 6, 7, 8, 9, 10, 11, 12, 13, 14, 15, 24, 25] then 0xDEADBEEF#32
        else if r = 2#5 then s.cfg.err.ok else s.x r) ∧ t.cpu.hi = 0xDEADBEEF#32 ∧ t.cpu.lo = 0xDEADBEEF#32 ∧
      t.sched = { s.sched with intrEnabled := decide (s.x 4#5 ≠ 0#32) } ∧ FprSame s t ∧ VprSame s t ∧ VcSame s t ∧
      FlagsSame s t ∧ TransferSame s t ∧ Advanced s t ∧ MemSame s t ∧ t.failure = s.failure ∧ t.refused = s.refused ∧ t.cfg = s.cfg) ∧
    (∀ c, lookup s.cfg.kernelNid nid = some .getThreadId → s.currentThread? = some c → ∃ t, exec (.syscall code) s = .next t ∧
      (∀ r : GReg, t.x r = if r.toNat ∈ [1, 4, 5, 6, 7, 8, 9, 10, 11, 12, 13, 14, 15, 24, 25] then 0xDEADBEEF#32
        else if r = 2#5 then c.uid else s.x r) ∧ t.cpu.hi = 0xDEADBEEF#32 ∧ t.cpu.lo = 0xDEADBEEF#32 ∧ t.sched = s.sched ∧ FprSame s t ∧ VprSame s t ∧ VcSame s t ∧
      FlagsSame s t ∧ TransferSame s t ∧ Advanced s t ∧ MemSame s t ∧ t.failure = s.failure ∧ t.refused = s.refused ∧ t.cfg = s.cfg)) ∧
  ∀ (s : State) (a : CommandArgs),
    (∃ t, runCommand .registerSubIntrHandler a s = .next t ∧ Answered s.cfg.err.ok s t ∧ { t.sched with intrHandlers := s.sched.intrHandlers } = s.sched ∧
      ∀ n m, t.intrHandler? n m = if n = a.a0 ∧ m = a.a1 then some ⟨a.a0, a.a1, a.a2, a.a3, false⟩ else s.intrHandler? n m) ∧
    (s.intrHandler? a.a0 a.a1 = none → ∀ k, k ∈ ([.releaseSubIntrHandler, .enableSubIntr, .disableSubIntr] : List Command) →
      ∃ t, runCommand k a s = .next t ∧ Answered s.cfg.err.unknownUid s t ∧ t.sched = s.sched) ∧
    (∀ h, s.intrHandler? a.a0 a.a1 = some h →
      (∃ t, runCommand .releaseSubIntrHandler a s = .next t ∧ Answered s.cfg.err.ok s t ∧ { t.sched with intrHandlers := s.sched.intrHandlers } = s.sched ∧
        ∀ n m, t.intrHandler? n m = if n = a.a0 ∧ m = a.a1 then none else s.intrHandler? n m) ∧
      ∀ k on, (k = .enableSubIntr ∧ on = true) ∨ (k = .disableSubIntr ∧ on = false) →
        ∃ t, runCommand k a s = .next t ∧ Answered s.cfg.err.ok s t ∧ { t.sched with intrHandlers := s.sched.intrHandlers } = s.sched ∧
        ∀ n m, t.intrHandler? n m = if n = a.a0 ∧ m = a.a1 then some { h with enabled := on } else s.intrHandler? n m) ∧
    (s.callback? a.a0 = none → ∀ k, k ∈ ([.deleteCallback, .notifyCallback] : List Command) →
      ∃ t, runCommand k a s = .next t ∧ Answered s.cfg.err.unknownUid s t ∧ t.sched = s.sched) ∧
    (∀ c, s.callback? a.a0 = some c →
      (∃ t, runCommand .deleteCallback a s = .next t ∧ Answered s.cfg.err.ok s t ∧ { t.sched with callbacks := s.sched.callbacks } = s.sched ∧
        ∀ u, t.callback? u = if u = a.a0 then none else s.callback? u) ∧
      ∃ t, runCommand .notifyCallback a s = .next t ∧ Answered s.cfg.err.ok s t ∧ { t.sched with callbacks := s.sched.callbacks } = s.sched ∧
        ∀ u, t.callback? u = if u = a.a0 then some { c with notifyCount := c.notifyCount + 1, notifyArg := a.a1 } else s.callback? u) ∧
    (∀ c, s.currentThread? = some c →
      (∃ t, runCommand .checkCallback a s = .next t ∧ Answered s.cfg.err.ok s t ∧ OnlyThread c.uid { c with callbackPending := true } s t) ∧
      (s.sched.uids.length < 2 ^ 31 - 1 → ∃ t u kind, runCommand .createCallback a s = .next t ∧ Answered u s t ∧ Issued u s t ∧
        { t.sched with callbacks := s.sched.callbacks, uids := s.sched.uids } = s.sched ∧
        t.sched.callbacks = s.sched.callbacks ++ [⟨u, kind, a.a1, a.a2, 0, 0#32, c.uid⟩])) ∧
    (s.sched.uids.length < 2 ^ 31 - 1 → ∀ n, IsCycles s.cfg a.a0.toNat n → ∃ t u, runCommand .setAlarm a s = .next t ∧ Answered u s t ∧ Issued u s t ∧
      { t.sched with alarms := s.sched.alarms, uids := s.sched.uids } = s.sched ∧
      t.sched.alarms = s.sched.alarms ++ [⟨u, a.a1, a.a2, s.sched.now + s.cfg.cyclesPerInsn + n⟩]) ∧
    ((∀ o, o ∈ s.sched.alarms → o.uid ≠ a.a0) → ∃ t, runCommand .cancelAlarm a s = .next t ∧ Answered s.cfg.err.unknownUid s t ∧ t.sched = s.sched) ∧
    ((∃ o, o ∈ s.sched.alarms ∧ o.uid = a.a0) → ∃ t, runCommand .cancelAlarm a s = .next t ∧ Answered s.cfg.err.ok s t ∧ 
      t.sched = { s.sched with alarms := s.sched.alarms.filter fun o => o.uid ≠ a.a0 })

/-- O30 (R405, R406, R407, R592, R594). With no failure latched, break sets the latch with BREAK and changes nothing else, and so does a
syscall with SYSCALL where no NID is mapped; in every state sync, cache, vnop, vsync and vflush answer a next state in which only the
pc has changed, whatever their ignored fields and addresses are. -/
def Obligations.SystemInstructions : Prop :=
  ∀ (s : State) (code : BitVec 20) (rs : GReg) (op st : BitVec 5) (imm : Half),
    (s.failure = none → ∃ t, exec (.brk code) s = .next t ∧ FatalOnly .brk 0#32 s t) ∧
    (s.failure = none → lookup s.cfg.nidMap s.cpu.pc = none →
      ∃ t, exec (.syscall code) s = .next t ∧ FatalOnly .syscall 0#32 s t) ∧
    (∃ t, exec (.sync st) s = .next t ∧ OnlyPc s t) ∧
    (∃ t, exec (.cache rs op imm) s = .next t ∧ OnlyPc s t) ∧
    (∃ t, exec (.vnop) s = .next t ∧ OnlyPc s t) ∧
    (∃ t, exec (.vsync) s = .next t ∧ OnlyPc s t) ∧
    (∃ t, exec (.vflush) s = .next t ∧ OnlyPc s t)

/-- O31 (R442, R443, R444, R445, R446, R451, R452, R453, R454). The prefix-setting instructions replace their whole register; mfv and mtv
move one slot; mfvc, mtvc, vmfvc, vmtvc move a control register, a write under its mask and none for a read-only register (5, 6, 7); a
number of 16 or more writes nothing, but vmfvc then writes 0. Nothing else changes but the pc. -/
def Obligations.PrefixSettingTransfers : Prop :=
  ∀ (s : State) (rt : GReg) (d20 : BitVec 20) (d12 : BitVec 12) (idx : BitVec 8) (vd vs c : BitVec 7),
    (∃ t, exec (.vpfxs d20) s = .next t ∧ OnlyVc s t ∧ ∀ k : CReg, t.vc k = if k = 0 then d20.setWidth 32 else s.vc k) ∧
    (∃ t, exec (.vpfxt d20) s = .next t ∧ OnlyVc s t ∧ ∀ k : CReg, t.vc k = if k = 1 then d20.setWidth 32 else s.vc k) ∧
    (∃ t, exec (.vpfxd d12) s = .next t ∧ OnlyVc s t ∧ ∀ k : CReg, t.vc k = if k = 2 then d12.setWidth 32 else s.vc k) ∧
    (∃ t, exec (.mfv rt idx) s = .next t ∧ WritesX rt (s.vr (idx.setWidth 7)) s t) ∧
    (∃ t, exec (.mtv rt idx) s = .next t ∧ OnlyVpr s t ∧ ∀ k : VReg, t.vr k = if k = idx.setWidth 7 then s.x rt else s.vr k) ∧
    (∀ h : c.toNat < 16, (∃ t, exec (.mfvc rt c) s = .next t ∧ WritesX rt (s.vc ⟨c.toNat, h⟩) s t)) ∧
    (16 ≤ c.toNat → (∃ t, exec (.mfvc rt c) s = .next t ∧ OnlyPc s t)) ∧
    (∀ m : CReg → Option Word, (∀ k : CReg, m k = if k.val ≤ 1 then some 0x000FFFFF#32 else if k.val = 2 then some 0x00000FFF#32
      else if k.val = 3 then some 0x0000003F#32 else if k.val = 4 then some 0xFFFFFFFF#32 else if k.val ≤ 7 then none
      else some 0x3FFFFFFF#32) →
      (∃ t, exec (.mtvc rt c) s = .next t ∧ OnlyVc s t ∧ ∀ k : CReg,
        t.vc k = if k.val = c.toNat then (match m k with | some w => s.x rt &&& w | none => s.vc k) else s.vc k) ∧
      (∃ t, exec (.vmtvc vs c) s = .next t ∧ OnlyVc s t ∧ ∀ k : CReg,
        t.vc k = if k.val = c.toNat then (match m k with | some w => s.vr vs &&& w | none => s.vc k) else s.vc k)) ∧
    (∃ t, exec (.vmfvc vd c) s = .next t ∧ OnlyVpr s t ∧ ∀ k : VReg,
      t.vr k = if k = vd then (if h : c.toNat < 16 then s.vc ⟨c.toNat, h⟩ else 0#32) else s.vr k)

/-- O32 (R431, R432, R433, R434, R435, R439, R441). Lane by lane: under a prefix that is not pass-through, a lane is the swizzled source
lane (an invalid one the given value), with its sign cleared under abs, or the constant of its index under const, then negated under
neg; under pass-through it is the operand itself. The effective prefix is the stored one less the removed and with the added bits of
the parameter entry, else of the table of R441 (whose entry for vbfy1 Params.default replaces, log entry 41), else the stored one. An
invalid lane is 0 or the old destination lane by INVALID_SWIZZLE, or any value. The D prefix clamps a lane to [0,1] in mode 1 and to
[-1,1] in mode 3, by IEEE comparison, leaves it in mode 0, and in mode 2 draws or passes by the parameter. -/
def Obligations.PrefixRules : Prop :=
  ∀ (s : State) (op : VfpuOp) (sz z : Size) (vd vs vt : VReg) (P : Word) (n i : Nat) (v inv d : Lanes) (consts : List Word)
    (table : List (VfpuOp × List Size × PrefixOverride)) (entry : PrefixOverride) (policy : SwizzlePolicy), i < 4 →
    consts = [0x00000000#32, 0x3F800000#32, 0x40000000#32, 0x3F000000#32, 0x40400000#32, 0x3EAAAAAB#32, 0x3E800000#32,
      0x3E2AAAAB#32] →
    table = [
      (.vocp, [.single, .pair, .triple, .quad], ⟨0x000F0000#32, 0x000F0000#32, 0x000000FF#32, 0x0000F055#32, 0#32, 0#32⟩),
      (.vcrs, [.triple], ⟨0x0000003F#32, 0x00000009#32, 0x0000003F#32, 0x00000012#32, 0#32, 0#32⟩),
      (.vsocp, [.single, .pair], ⟨0x000F00FF#32, 0x00050050#32, 0x000000FF#32, 0x0000F011#32, 0x000000FF#32, 0x00000055#32⟩),
      (.vbfy1, [.pair, .quad], ⟨0#32, 0x000A0000#32, 0x0000F0FF#32, 0x000000B1#32, 0#32, 0#32⟩),
      (.vbfy2, [.quad], ⟨0#32, 0x000C0000#32, 0x0000F0FF#32, 0x0000004E#32, 0#32, 0#32⟩),
      (.vhdp, [.pair], ⟨0x0000000C#32, 0x00002004#32, 0#32, 0#32, 0#32, 0#32⟩),
      (.vhdp, [.triple], ⟨0x00000030#32, 0x00004010#32, 0#32, 0#32, 0#32, 0#32⟩),
      (.vhdp, [.quad], ⟨0x000000C0#32, 0x00008040#32, 0#32, 0#32, 0#32, 0#32⟩),
      (.vfad, [.single, .pair, .triple, .quad], ⟨0#32, 0#32, 0x000000FF#32, 0x0000F055#32, 0#32, 0#32⟩),
      (.vavg, [.single], ⟨0#32, 0#32, 0x000000FF#32, 0x0000F055#32, 0#32, 0#32⟩),
      (.vavg, [.pair], ⟨0#32, 0#32, 0x000000FF#32, 0x0000F0FF#32, 0#32, 0#32⟩),
      (.vavg, [.triple], ⟨0#32, 0#32, 0x000000FF#32, 0x0000FF55#32, 0#32, 0#32⟩),
      (.vavg, [.quad], ⟨0#32, 0#32, 0x000000FF#32, 0x0000FFAA#32, 0#32, 0#32⟩)] →
    (∀ e, s.cfg.prefixOverrides.find? (fun e => e.1 == (op, sz)) = some e → entry = e.2) →
    (s.cfg.prefixOverrides.find? (fun e => e.1 == (op, sz)) = none →
      (∃ sizes, (op, sizes, entry) ∈ table ∧ sz ∈ sizes) ∨
        ((∀ e, e ∈ table → e.1 ≠ op) ∧ entry = ⟨0#32, 0#32, 0#32, 0#32, 0#32, 0#32⟩)) →
    (∀ e, s.cfg.invalidSwizzle.find? (fun e => e.1 == op) = some e → policy = e.2) →
    (s.cfg.invalidSwizzle.find? (fun e => e.1 == op) = none → policy = .zero) →
    (s.effS op sz = (s.vc CReg.spfx &&& ~~~entry.sRemove) ||| entry.sAdd ∧
      s.effT op sz = (s.vc CReg.tpfx &&& ~~~entry.tRemove) ||| entry.tAdd ∧
      s.effD op sz = (s.vc CReg.dpfx &&& ~~~entry.dRemove) ||| entry.dAdd) ∧
    (∃ inv : Lanes, (policy = .zero → ∀ k, inv k = 0#32) ∧
      (policy = .priorDest → ∀ k, inv k = if k < sz.lanes then s.vr (vectorSlot sz vd k) else 0#32) ∧
      s.sOperandAt op sz z (some (sz, vd)) vs = applyST (s.effS op sz) z.lanes (s.readVector z vs) inv ∧
      (z = sz → s.sOperand op sz (some (sz, vd)) vs = s.sOperandAt op sz z (some (sz, vd)) vs)) ∧
    (∃ inv : Lanes, (policy = .zero → ∀ k, inv k = 0#32) ∧
      (policy = .priorDest → ∀ k, inv k = if k < sz.lanes then s.vr (vectorSlot sz vd k) else 0#32) ∧
      s.tOperandAt op sz z (some (sz, vd)) vt = applyST (s.effT op sz) z.lanes (s.readVector z vt) inv ∧
      (z = sz → s.tOperand op sz (some (sz, vd)) vt = s.tOperandAt op sz z (some (sz, vd)) vt)) ∧
    applyST P n v inv i = (if P = 0xE4#32 then v i else
      let sel := P.toNat / 4 ^ i % 4
      let abs := P.getLsbD (8 + i)
      let lane := if sel < n then v sel else inv sel
      let r := if P.getLsbD (12 + i) then consts.getD (sel + if abs then 4 else 0) 0#32
        else if abs then lane &&& 0x7FFFFFFF#32 else lane
      if P.getLsbD (16 + i) then r ^^^ 0x80000000#32 else r) ∧
    ((s.effD op sz).toNat / 4 ^ i % 4 = 0 → s.applyD op sz d i = d i) ∧
    ((s.effD op sz).toNat / 4 ^ i % 4 = 1 → s.applyD op sz d i =
      if fLe 0x3F800000#32 (d i) then 0x3F800000#32 else if fLe (d i) 0#32 then 0#32 else d i) ∧
    ((s.effD op sz).toNat / 4 ^ i % 4 = 2 → s.cfg.sat2Policy = .passthrough → s.applyD op sz d i = d i) ∧
    ((s.effD op sz).toNat / 4 ^ i % 4 = 3 → s.applyD op sz d i =
      if fLe 0x3F800000#32 (d i) then 0x3F800000#32 else if fLe (d i) 0xBF800000#32 then 0xBF800000#32 else d i)

/-- O33 (R470, R471, R472, R473, R474, R476, R478, R479, R420). Each instruction, at every size its rule lists, answers a next state in
which each unmasked lane of the destination is the D-prefixed result of its rule on the prefixed operands, read before any lane is
written (the operations are those of 43_cop1.md, a NaN result any NaN); under identity prefixes lane i of vcrs.t is lane i + 1 of vs
times lane i + 2 of vt, modulo 3; vsbn.s gives a finite nonzero lane, a subnormal flushed if FTZ is on (log entry 24), the nearest
pattern to its value times 2^t, with its sign and flushed in the same way, leaves an infinity or a zero as it is, and makes of a NaN
any NaN of its sign (log entry 28); the prefixes are eaten, the pc has advanced and nothing else has changed. -/
def Obligations.VectorArithmetic : Prop :=
  ∀ (s : State) (vd vs vt : VReg) (sz : Size),
    (∃ t d, exec (.vadd vd vs vt sz) s = .next t ∧ (∀ i, i < Size.lanes sz → IsFloat (fAdd s.cfg.ftz (s.sOperand .vadd sz (some (sz, vd)) vs i) (s.tOperand .vadd sz (some (sz, vd)) vt i)) (d i)) ∧
      VectorDone sz vd (s.applyD .vadd sz d) s t) ∧
    (∃ t d, exec (.vsub vd vs vt sz) s = .next t ∧ (∀ i, i < Size.lanes sz → IsFloat (fSub s.cfg.ftz (s.sOperand .vsub sz (some (sz, vd)) vs i) (s.tOperand .vsub sz (some (sz, vd)) vt i)) (d i)) ∧
      VectorDone sz vd (s.applyD .vsub sz d) s t) ∧
    (∃ t d, exec (.vdiv vd vs vt sz) s = .next t ∧ (∀ i, i < Size.lanes sz → IsFloat (fDiv s.cfg.ftz (s.sOperand .vdiv sz (some (sz, vd)) vs i) (s.tOperand .vdiv sz (some (sz, vd)) vt i)) (d i)) ∧
      VectorDone sz vd (s.applyD .vdiv sz d) s t) ∧
    (∃ t d, exec (.vmul vd vs vt sz) s = .next t ∧ (∀ i, i < Size.lanes sz → IsFloat (fMul s.cfg.ftz (s.sOperand .vmul sz (some (sz, vd)) vs i) (s.tOperand .vmul sz (some (sz, vd)) vt i)) (d i)) ∧
      VectorDone sz vd (s.applyD .vmul sz d) s t) ∧
    (∃ t d, exec (.vsbn vd vs vt .single) s = .next t ∧ (∀ i, i < Size.lanes .single → IsFloat (fScale s.cfg.ftz (s.sOperand .vsbn .single (some (.single, vd)) vs i) (s.tOperand .vsbn .single (some (.single, vd)) vt i).toInt) (d i)) ∧
      VectorDone .single vd (s.applyD .vsbn .single d) s t) ∧
    (∀ (fl : Word → Word) (a : Word) (k : Int),
      (∀ p : Word, fl p = if s.cfg.ftz = true ∧ fExp p = 0 then (if fNeg p then 0x80000000#32 else 0#32) else p) →
      a = fl (s.sOperand .vsbn .single (some (.single, vd)) vs 0) → k = (s.tOperand .vsbn .single (some (.single, vd)) vt 0).toInt →
      ∃ t d, exec (.vsbn vd vs vt .single) s = .next t ∧ VectorDone .single vd (s.applyD .vsbn .single d) s t ∧ fNeg (d 0) = fNeg a ∧
        (if isNaN a = true then isNaN (d 0) = true else if isInf a = true ∨ isZero a = true then d 0 = a
          else ∃ q, IsNearest (fValue a * (2 : ℚ) ^ k) q ∧ d 0 = fl q)) ∧
    (sz ≠ .single → (∃ t d, exec (.vscl vd vs vt sz) s = .next t ∧ (∀ i, i < Size.lanes sz → IsFloat (fMul s.cfg.ftz (s.sOperand .vscl sz (some (sz, vd)) vs i) (s.tOperandAt .vscl sz .single (some (sz, vd)) vt 0)) (d i)) ∧
      VectorDone sz vd (s.applyD .vscl sz d) s t)) ∧
    (∃ t d, exec (.vcrsT vd vs vt .triple) s = .next t ∧ (∀ i, i < Size.lanes .triple → IsFloat (fMul s.cfg.ftz (s.sOperand .vcrs .triple (some (.triple, vd)) vs i) (s.tOperand .vcrs .triple (some (.triple, vd)) vt i)) (d i)) ∧
      VectorDone .triple vd (s.applyD .vcrs .triple d) s t) ∧
    (s.prefixesIdentity = true → s.FollowsTable .vcrs .triple → ∃ t d, exec (.vcrsT vd vs vt .triple) s = .next t ∧ VectorDone .triple vd d s t ∧
      ∀ i, i < 3 → IsFloat (fMul s.cfg.ftz (s.vr (vectorSlot .triple vs ((i + 1) % 3))) (s.vr (vectorSlot .triple vt ((i + 2) % 3)))) (d i)) ∧
    (∃ t d, exec (.vdetP vd vs vt .pair) s = .next t ∧ VectorDone .single vd (s.applyD .vdet .pair d) s t ∧
      IsFloat (do
        let p ← fMul s.cfg.ftz (s.sOperand .vdet .pair (some (.pair, vd)) vs 0) (s.tOperand .vdet .pair (some (.pair, vd)) vt 1)
        let q ← fMul s.cfg.ftz (s.sOperand .vdet .pair (some (.pair, vd)) vs 1) (s.tOperand .vdet .pair (some (.pair, vd)) vt 0)
        fSub s.cfg.ftz p q) (d 0))

/-- O34 (R456, R475, R477, R567, R568, R441). Each reduction, at every size it defines, answers a next state in which the single
destination slot, unless masked, is the D-prefixed VFPU_DOT (an opaque function) of the prefixed lanes; under identity prefixes the S
operand of vhdp ends in the constant 1, the T operand of vfad is 1 in every lane and that of vavg 1/n, under the entries of R441
(under another entry of PREFIX_OVERRIDE the T operand of vfad and vavg is that of vs, the model choice of log entry 33); the prefixes
are eaten and nothing else changes. -/
def Obligations.VectorDots : Prop :=
  ∀ (s : State) (vd vs vt : VReg) (sz : Size),
    (∃ t, exec (.vdot vd vs vt sz) s = .next t ∧ VectorDone .single vd (s.applyD .vdot sz fun _ => Config.vfpuDot
      ((List.range sz.lanes).map (s.sOperand .vdot sz (some (sz, vd)) vs)) ((List.range sz.lanes).map (s.tOperand .vdot sz (some (sz, vd)) vt))) s t) ∧
    (sz ≠ .single → (∃ t, exec (.vhdp vd vs vt sz) s = .next t ∧ VectorDone .single vd (s.applyD .vhdp sz fun _ => Config.vfpuDot
      ((List.range sz.lanes).map (s.sOperand .vhdp sz (some (sz, vd)) vs)) ((List.range sz.lanes).map (s.tOperand .vhdp sz (some (sz, vd)) vt))) s t)) ∧
    (∃ t, exec (.vfad vd vs sz) s = .next t ∧ VectorDone .single vd (s.applyD .vfad sz fun _ => Config.vfpuDot
      ((List.range sz.lanes).map (s.sOperand .vfad sz (some (sz, vd)) vs)) ((List.range sz.lanes).map (s.tOperand .vfad sz (some (sz, vd)) vs))) s t) ∧
    (∃ t, exec (.vavg vd vs sz) s = .next t ∧ VectorDone .single vd (s.applyD .vavg sz fun _ => Config.vfpuDot
      ((List.range sz.lanes).map (s.sOperand .vavg sz (some (sz, vd)) vs)) ((List.range sz.lanes).map (s.tOperand .vavg sz (some (sz, vd)) vs))) s t) ∧
    (s.prefixesIdentity = true → ∀ i, i < sz.lanes →
      (s.FollowsTable .vfad sz → s.tOperand .vfad sz (some (sz, vd)) vs i = 0x3F800000#32) ∧
      (s.FollowsTable .vavg sz → s.tOperand .vavg sz (some (sz, vd)) vs i = match sz with
        | .single => 0x3F800000#32 | .pair => 0x3F000000#32 | .triple => 0x3EAAAAAB#32 | .quad => 0x3E800000#32) ∧
      (s.FollowsTable .vhdp sz → sz ≠ .single → s.sOperand .vhdp sz (some (sz, vd)) vs i = if i + 1 = sz.lanes then 0x3F800000#32 else s.vr (vectorSlot sz vs i)))

/-- O35 (R480, R481, R482, R483, R484). On prefixed lanes a, b: with a NaN or an infinity vmin and vmax choose by the signed patterns,
reversed when both are negative; else by value, a tie giving either pattern. vscmp gives 1, -1 or 0 by the order, any of the three
when unordered; vsge and vslt give 1.0 or 0, 0 when unordered. Lanes are D-prefixed and masked, prefixes eaten, nothing else changes.
(That a negative number and a negative NaN are compared as R480 and R481 say, and not as the worked example of R533 does, is the model
choice of log entry 38.) -/
def Obligations.MinMaxCompare : Prop :=
  ∀ (s : State) (vd vs vt : VReg) (sz : Size),
    (∃ t d, exec (.vmin vd vs vt sz) s = .next t ∧ VectorDone sz vd (s.applyD .vmin sz d) s t ∧
      ∀ i, i < sz.lanes → ∀ a b : Word, a = s.sOperand .vmin sz (some (sz, vd)) vs i → b = s.tOperand .vmin sz (some (sz, vd)) vt i →
      if (isNaNorInf a || isNaNorInf b) = true then
        d i = (if a.toInt < 0 ∧ b.toInt < 0 then (if a.toInt > b.toInt then a else b) else (if a.toInt < b.toInt then a else b))
      else if fLt a b then d i = a else if fLt b a then d i = b else d i = a ∨ d i = b) ∧
    (∃ t d, exec (.vmax vd vs vt sz) s = .next t ∧ VectorDone sz vd (s.applyD .vmax sz d) s t ∧
      ∀ i, i < sz.lanes → ∀ a b : Word, a = s.sOperand .vmax sz (some (sz, vd)) vs i → b = s.tOperand .vmax sz (some (sz, vd)) vt i →
      if (isNaNorInf a || isNaNorInf b) = true then
        d i = (if a.toInt < 0 ∧ b.toInt < 0 then (if a.toInt < b.toInt then a else b) else (if a.toInt > b.toInt then a else b))
      else if fLt b a then d i = a else if fLt a b then d i = b else d i = a ∨ d i = b) ∧
    (∃ t d, exec (.vscmp vd vs vt sz) s = .next t ∧ VectorDone sz vd (s.applyD .vscmp sz d) s t ∧
      ∀ i, i < sz.lanes → ∀ a b : Word, a = s.sOperand .vscmp sz (some (sz, vd)) vs i → b = s.tOperand .vscmp sz (some (sz, vd)) vt i →
      if (isNaN a || isNaN b) = true then d i ∈ [0xBF800000#32, 0#32, 0x3F800000#32]
      else d i = if fLt b a then 0x3F800000#32 else if fLt a b then 0xBF800000#32 else 0#32) ∧
    (∃ t, exec (.vsge vd vs vt sz) s = .next t ∧ VectorDone sz vd (s.applyD .vsge sz (fun i => if fLe (s.tOperand .vsge sz (some (sz, vd)) vt i) (s.sOperand .vsge sz (some (sz, vd)) vs i) then 0x3F800000#32 else 0#32)) s t) ∧
    (∃ t, exec (.vslt vd vs vt sz) s = .next t ∧ VectorDone sz vd (s.applyD .vslt sz (fun i => if fLt (s.sOperand .vslt sz (some (sz, vd)) vs i) (s.tOperand .vslt sz (some (sz, vd)) vt i) then 0x3F800000#32 else 0#32)) s t)

/-- O36 (R485, R486, R487, R488, R489, R490, R491, R492, R523, R571, R575, R576). Each instruction, at every size it defines, answers a
next state in which each unmasked lane is the D-prefixed result of its rule on the prefixed operand: the lane, its absolute value, its
negation, a row of the identity, the clamped lane, 0.0, 1.0, the constant of the table, the sign on bits, the integer immediate as a
float (exactly), or the exact value of the half-float immediate; prefixes are eaten and nothing else changes. -/
def Obligations.VectorMovesConstants : Prop :=
  ∀ (s : State) (vd vs : VReg) (sz : Size) (k : BitVec 5) (imm : Half) (table : List Word),
    table = [0x00000000#32, 0x7F7FFFFF#32, 0x3FB504F3#32, 0x3F3504F3#32, 0x3F906EBB#32, 0x3F22F983#32, 0x3EA2F983#32, 0x3F490FDB#32, 0x3FC90FDB#32,
      0x40490FDB#32, 0x402DF854#32, 0x3FB8AA3B#32, 0x3EDE5BD9#32, 0x3F317218#32, 0x40135D8E#32, 0x40C90FDB#32, 0x3F060A92#32, 0x3E9A209B#32, 0x40549A78#32, 0x3F5DB3D7#32] →
    (∃ t, exec (.vmov vd vs sz) s = .next t ∧ VectorDone sz vd (s.applyD .vmov sz (fun i => s.sOperand .vmov sz (some (sz, vd)) vs i)) s t) ∧
    (∃ t, exec (.vabs vd vs sz) s = .next t ∧ VectorDone sz vd (s.applyD .vabs sz (fun i => s.sOperand .vabs sz (some (sz, vd)) vs i &&& 0x7FFFFFFF#32)) s t) ∧
    (∃ t, exec (.vneg vd vs sz) s = .next t ∧ VectorDone sz vd (s.applyD .vneg sz (fun i => s.sOperand .vneg sz (some (sz, vd)) vs i ^^^ 0x80000000#32)) s t) ∧
    (∃ t, exec (.vidt vd vs .pair) s = .next t ∧ VectorDone .pair vd (s.applyD .vidt .pair (fun i => if i = vd.toNat % 2 then 0x3F800000#32 else 0#32)) s t) ∧
    (∃ t, exec (.vidt vd vs .quad) s = .next t ∧ VectorDone .quad vd (s.applyD .vidt .quad (fun i => if i = vd.toNat % 4 then 0x3F800000#32 else 0#32)) s t) ∧
    (∃ t, exec (.vsat0 vd vs sz) s = .next t ∧ VectorDone sz vd (s.applyD .vsat0 sz (fun i => let a := s.sOperand .vsat0 sz (some (sz, vd)) vs i
      if fLe 0x3F800000#32 a then 0x3F800000#32 else if fLe a 0#32 then 0#32 else a)) s t) ∧
    (∃ t, exec (.vsat1 vd vs sz) s = .next t ∧ VectorDone sz vd (s.applyD .vsat1 sz (fun i => let a := s.sOperand .vsat1 sz (some (sz, vd)) vs i
      if fLe 0x3F800000#32 a then 0x3F800000#32 else if fLe a 0xBF800000#32 then 0xBF800000#32 else a)) s t) ∧
    (∃ t, exec (.vzero vd vs sz) s = .next t ∧ VectorDone sz vd (s.applyD .vzero sz (fun _ => 0#32)) s t) ∧
    (∃ t, exec (.vone vd vs sz) s = .next t ∧ VectorDone sz vd (s.applyD .vone sz (fun _ => 0x3F800000#32)) s t) ∧
    (∃ t, exec (.vcst vd k sz) s = .next t ∧ VectorDone sz vd (s.applyD .vcst sz (fun _ => table.getD k.toNat 0#32)) s t) ∧
    (∃ t, exec (.vsgn vd vs sz) s = .next t ∧ VectorDone sz vd (s.applyD .vsgn sz (fun i => let a := s.sOperand .vsgn sz (some (sz, vd)) vs i
      if a &&& 0x7FFFFFFF#32 = 0#32 then 0#32 else if a.getLsbD 31 then 0xBF800000#32 else 0x3F800000#32)) s t) ∧
    (∃ t v, exec (.viimS vd imm) s = .next t ∧ VectorDone .single vd (s.applyD .viim .single fun _ => v) s t ∧
      isNaNorInf v = false ∧ fValue v = imm.toInt ∧ (imm = 0#16 → v = 0#32)) ∧
    (∃ t v, exec (.vfimS vd imm) s = .next t ∧ VectorDone .single vd (s.applyD .vfim .single fun _ => v) s t ∧ IsHalfWidened imm v)

/-- O37 (R493, R494, R495). For every condition and size vcmp answers a next state whose CC register has, in bit i below n, the condition
on the prefixed lanes i, in bit 4 their OR, in bit 5 their AND, and every other bit as before; the prefixes are eaten, no slot and
nothing else changes but the pc. The sixteen conditions are those of R493 in their order. -/
def Obligations.VectorCompare : Prop :=
  ∀ (s : State) (vs vt : VReg) (sz : Size) (cond : BitVec 4) (a b : Lanes) (c : Nat → Bool),
    a = s.sOperand .vcmp sz (none) vs → b = s.tOperand .vcmp sz (none) vt →
    (∀ i, c i = ([false, fEq (a i) (b i), fLt (a i) (b i), fLt (a i) (b i) || fEq (a i) (b i), true, !fEq (a i) (b i),
      fLt (b i) (a i) || fEq (b i) (a i), fLt (b i) (a i), isZero (a i), isNaN (a i), isInf (a i), isNaNorInf (a i),
      !isZero (a i), !isNaN (a i), !isInf (a i), !isNaNorInf (a i)] : List Bool).getD cond.toNat false) →
    ∃ t, exec (.vcmp vs vt sz cond) s = .next t ∧ OnlyVfpu s t ∧ VprSame s t ∧ Eaten (fun k => k = CReg.cc) s t ∧
      ∀ j, j < 32 → (t.vc CReg.cc).getLsbD j =
        if j < sz.lanes then c j else if j = 4 then decide (∃ i, i < sz.lanes ∧ c i = true)
        else if j = 5 then decide (∀ i, i < sz.lanes → c i = true) else (s.vc CReg.cc).getLsbD j

/-- O38 (R496, R497, R498, R499, R500, R501, R502, R503, R504, R505, R506). vrcp, vrsq, vsin, vcos, vexp2, vlog2, vsqrt, vasin give their
(opaque) function of the prefixed lane, vnrcp and vnsin its negation, vrexp2 the rounded quotient of 1 by exp2 of the lane; lanes are
D-prefixed and masked, prefixes eaten, and nothing else changes. -/
def Obligations.VectorApproximations : Prop :=
  ∀ (s : State) (vd vs : VReg) (sz : Size),
    (∃ t, exec (.vrcp vd vs sz) s = .next t ∧ VectorDone sz vd (s.applyD .vrcp sz (fun i => Config.vfpuRcp (s.sOperand .vrcp sz (some (sz, vd)) vs i))) s t) ∧
    (∃ t, exec (.vrsq vd vs sz) s = .next t ∧ VectorDone sz vd (s.applyD .vrsq sz (fun i => Config.vfpuRsq (s.sOperand .vrsq sz (some (sz, vd)) vs i))) s t) ∧
    (∃ t, exec (.vsin vd vs sz) s = .next t ∧ VectorDone sz vd (s.applyD .vsin sz (fun i => Config.vfpuSin (s.sOperand .vsin sz (some (sz, vd)) vs i))) s t) ∧
    (∃ t, exec (.vcos vd vs sz) s = .next t ∧ VectorDone sz vd (s.applyD .vcos sz (fun i => Config.vfpuCos (s.sOperand .vcos sz (some (sz, vd)) vs i))) s t) ∧
    (∃ t, exec (.vexp2 vd vs sz) s = .next t ∧ VectorDone sz vd (s.applyD .vexp2 sz (fun i => Config.vfpuExp2 (s.sOperand .vexp2 sz (some (sz, vd)) vs i))) s t) ∧
    (∃ t, exec (.vlog2 vd vs sz) s = .next t ∧ VectorDone sz vd (s.applyD .vlog2 sz (fun i => Config.vfpuLog2 (s.sOperand .vlog2 sz (some (sz, vd)) vs i))) s t) ∧
    (∃ t, exec (.vsqrt vd vs sz) s = .next t ∧ VectorDone sz vd (s.applyD .vsqrt sz (fun i => Config.vfpuSqrt (s.sOperand .vsqrt sz (some (sz, vd)) vs i))) s t) ∧
    (∃ t, exec (.vasin vd vs sz) s = .next t ∧ VectorDone sz vd (s.applyD .vasin sz (fun i => Config.vfpuAsin (s.sOperand .vasin sz (some (sz, vd)) vs i))) s t) ∧
    (∃ t, exec (.vnrcp vd vs sz) s = .next t ∧ VectorDone sz vd (s.applyD .vnrcp sz (fun i => Config.vfpuRcp (s.sOperand .vnrcp sz (some (sz, vd)) vs i) ^^^ 0x80000000#32)) s t) ∧
    (∃ t, exec (.vnsin vd vs sz) s = .next t ∧ VectorDone sz vd (s.applyD .vnsin sz (fun i => Config.vfpuSin (s.sOperand .vnsin sz (some (sz, vd)) vs i) ^^^ 0x80000000#32)) s t) ∧
    (∃ t d, exec (.vrexp2 vd vs sz) s = .next t ∧ (∀ i, i < Size.lanes sz → IsFloat (fDiv s.cfg.ftz 0x3F800000#32 (Config.vfpuExp2 (s.sOperand .vrexp2 sz (some (sz, vd)) vs i))) (d i)) ∧
      VectorDone sz vd (s.applyD .vrexp2 sz d) s t)

/-- O39 (R507, R508, R509, R510). vrnds (Single) writes no slot; vrndi writes any patterns, vrndf1 patterns of values in [1, 2), vrndf2 in
[2, 4), D-prefixed, to its unmasked lanes; after each the eight RCX registers hold some values within their mask (for vrndi, vrndf1,
vrndf2 the model choice of log entry 27), the prefixes are eaten, and nothing else changes but the pc. -/
def Obligations.RandomDraws : Prop :=
  ∀ (s : State) (vd vs : VReg) (sz : Size),
    (∃ t, exec (.vrnds vd vs .single) s = .next t ∧ (∀ k : CReg, 8 ≤ k.val → t.vc k &&& 0xC0000000#32 = 0#32) ∧ OnlyVfpu s t ∧
      Eaten (fun k => 8 ≤ k.val) s t ∧ VprSame s t) ∧
    (∃ t d, exec (.vrndi vd vs sz) s = .next t ∧ (∀ k : CReg, 8 ≤ k.val → t.vc k &&& 0xC0000000#32 = 0#32) ∧ OnlyVfpu s t ∧
      Eaten (fun k => 8 ≤ k.val) s t ∧
      VectorWritten sz vd (s.applyD .vrndi sz d) s t) ∧
    (∃ t d, exec (.vrndf1 vd vs sz) s = .next t ∧ (∀ k : CReg, 8 ≤ k.val → t.vc k &&& 0xC0000000#32 = 0#32) ∧ OnlyVfpu s t ∧
      Eaten (fun k => 8 ≤ k.val) s t ∧
      (∀ i, 1 ≤ fValue (d i) ∧ fValue (d i) < 2 ∧ isNaNorInf (d i) = false) ∧ VectorWritten sz vd (s.applyD .vrndf1 sz d) s t) ∧
    (∃ t d, exec (.vrndf2 vd vs sz) s = .next t ∧ (∀ k : CReg, 8 ≤ k.val → t.vc k &&& 0xC0000000#32 = 0#32) ∧ OnlyVfpu s t ∧
      Eaten (fun k => 8 ≤ k.val) s t ∧
      (∀ i, 2 ≤ fValue (d i) ∧ fValue (d i) < 4 ∧ isNaNorInf (d i) = false) ∧ VectorWritten sz vd (s.applyD .vrndf2 sz d) s t)

/-- O40 (R512, R515, R516, R517, R518, R458). Each answers a next state whose unmasked output lanes are the pieces of the prefixed operand
as its rule places them: the bytes of one lane spread (vuc2i) or shifted up (vc2i), the halfwords shifted (vus2i, vs2i; mask only), or
the exact values of its half-floats, with the D prefix (vh2f); prefixes are eaten, nothing else changes. -/
def Obligations.UnpackingConversions : Prop :=
  ∀ (s : State) (vd vs : VReg),
    (∀ a : Lanes, a = s.sOperand .vh2f .single (some (.single, vd)) vs → (∃ t d, exec (.vh2f vd vs .single) s = .next t ∧ (∀ i, i < Size.lanes .pair → IsHalfWidened ((a (i / 2)).extractLsb' (16 * (i % 2)) 16) (d i)) ∧
      VectorDone .pair vd (s.applyD .vh2f .single d) s t)) ∧
    (∀ a : Lanes, a = s.sOperand .vh2f .pair (some (.pair, vd)) vs → (∃ t d, exec (.vh2f vd vs .pair) s = .next t ∧ (∀ i, i < Size.lanes .quad → IsHalfWidened ((a (i / 2)).extractLsb' (16 * (i % 2)) 16) (d i)) ∧
      VectorDone .quad vd (s.applyD .vh2f .pair d) s t)) ∧
    (∀ a : Lanes, a = s.sOperand .vuc2i .single (some (.single, vd)) vs → (∃ t, exec (.vuc2i vd vs .single) s = .next t ∧ VectorDone .quad vd (fun i => BitVec.ofNat 32 ((a 0).toNat / 2 ^ (8 * i) % 2 ^ 8 * 0x01010101 / 2)) s t)) ∧
    (∀ a : Lanes, a = s.sOperand .vc2i .single (some (.single, vd)) vs → (∃ t, exec (.vc2i vd vs .single) s = .next t ∧ VectorDone .quad vd (fun i => BitVec.ofNat 32 ((a 0).toNat / 2 ^ (8 * i) % 2 ^ 8 * 2 ^ 24)) s t)) ∧
    (∀ a : Lanes, a = s.sOperand .vus2i .single (some (.single, vd)) vs → (∃ t, exec (.vus2i vd vs .single) s = .next t ∧ VectorDone .pair vd (fun i => if i % 2 = 0 then BitVec.ofNat 32 ((a (i / 2)).toNat % 2 ^ 16 * 2 ^ 15) else BitVec.ofNat 32 ((a (i / 2)).toNat / 2 ^ 16 * 2 ^ 15)) s t)) ∧
    (∀ a : Lanes, a = s.sOperand .vus2i .pair (some (.pair, vd)) vs → (∃ t, exec (.vus2i vd vs .pair) s = .next t ∧ VectorDone .quad vd (fun i => if i % 2 = 0 then BitVec.ofNat 32 ((a (i / 2)).toNat % 2 ^ 16 * 2 ^ 15) else BitVec.ofNat 32 ((a (i / 2)).toNat / 2 ^ 16 * 2 ^ 15)) s t)) ∧
    (∀ a : Lanes, a = s.sOperand .vs2i .single (some (.single, vd)) vs → (∃ t, exec (.vs2i vd vs .single) s = .next t ∧ VectorDone .pair vd (fun i => if i % 2 = 0 then BitVec.ofNat 32 ((a (i / 2)).toNat % 2 ^ 16 * 2 ^ 16) else BitVec.ofNat 32 ((a (i / 2)).toNat / 2 ^ 16 * 2 ^ 16)) s t)) ∧
    (∀ a : Lanes, a = s.sOperand .vs2i .pair (some (.pair, vd)) vs → (∃ t, exec (.vs2i vd vs .pair) s = .next t ∧ VectorDone .quad vd (fun i => if i % 2 = 0 then BitVec.ofNat 32 ((a (i / 2)).toNat % 2 ^ 16 * 2 ^ 16) else BitVec.ofNat 32 ((a (i / 2)).toNat / 2 ^ 16 * 2 ^ 16)) s t))

/-- O41 (R511, R519, R520, R521, R522, R572, R573, R574). Each answers a next state whose unmasked output lanes pack the prefixed operand
as its rule says: half-floats rounded to nearest even (overflow to infinity, a NaN becoming any binary16 NaN), the top bits of
non-negative lanes and 0 for negative ones (vi2uc, vi2us), the top bytes or halfwords (vi2c, vi2s), or colours reduced channel by
channel; no saturation applies; prefixes are eaten, nothing else changes. -/
def Obligations.PackingConversions : Prop :=
  ∀ (s : State) (vd vs : VReg),
    (∀ a : Lanes, a = s.sOperand .vf2h .pair (some (.pair, vd)) vs → ∃ t d, exec (.vf2h vd vs .pair) s = .next t ∧ VectorDone .single vd d s t ∧
      ∀ j, j < Size.lanes .single → ∃ x y : Half, (d j) = y ++ x ∧ IsHalfNarrowed (a (2 * j)) x ∧ IsHalfNarrowed (a (2 * j + 1)) y) ∧
    (∀ a : Lanes, a = s.sOperand .vf2h .quad (some (.quad, vd)) vs → ∃ t d, exec (.vf2h vd vs .quad) s = .next t ∧ VectorDone .pair vd d s t ∧
      ∀ j, j < Size.lanes .pair → ∃ x y : Half, (d j) = y ++ x ∧ IsHalfNarrowed (a (2 * j)) x ∧ IsHalfNarrowed (a (2 * j + 1)) y) ∧
    (∀ a : Lanes, a = s.sOperand .vi2uc .quad (some (.quad, vd)) vs → (∃ t, exec (.vi2uc vd vs .quad) s = .next t ∧ VectorDone .single vd (fun _ => BitVec.ofNat 32 ((if (a 0).toInt < 0 then 0 else (a 0).toNat / 2 ^ 23 % 2 ^ 8) * 2 ^ 0 + (if (a 1).toInt < 0 then 0 else (a 1).toNat / 2 ^ 23 % 2 ^ 8) * 2 ^ 8 + (if (a 2).toInt < 0 then 0 else (a 2).toNat / 2 ^ 23 % 2 ^ 8) * 2 ^ 16 + (if (a 3).toInt < 0 then 0 else (a 3).toNat / 2 ^ 23 % 2 ^ 8) * 2 ^ 24)) s t)) ∧
    (∀ a : Lanes, a = s.sOperand .vi2c .quad (some (.quad, vd)) vs → (∃ t, exec (.vi2c vd vs .quad) s = .next t ∧ VectorDone .single vd (fun _ => BitVec.ofNat 32 ((a 0).toNat / 2 ^ 24 * 2 ^ 0 + (a 1).toNat / 2 ^ 24 * 2 ^ 8 + (a 2).toNat / 2 ^ 24 * 2 ^ 16 + (a 3).toNat / 2 ^ 24 * 2 ^ 24)) s t)) ∧
    (∀ a : Lanes, a = s.sOperand .vi2us .pair (some (.pair, vd)) vs → (∃ t, exec (.vi2us vd vs .pair) s = .next t ∧ VectorDone .single vd (fun j => BitVec.ofNat 32 ((if (a (2 * j)).toInt < 0 then 0 else (a (2 * j)).toNat / 2 ^ 15 % 2 ^ 16) + (if (a (2 * j + 1)).toInt < 0 then 0 else (a (2 * j + 1)).toNat / 2 ^ 15 % 2 ^ 16) * 2 ^ 16)) s t)) ∧
    (∀ a : Lanes, a = s.sOperand .vi2us .quad (some (.quad, vd)) vs → (∃ t, exec (.vi2us vd vs .quad) s = .next t ∧ VectorDone .pair vd (fun j => BitVec.ofNat 32 ((if (a (2 * j)).toInt < 0 then 0 else (a (2 * j)).toNat / 2 ^ 15 % 2 ^ 16) + (if (a (2 * j + 1)).toInt < 0 then 0 else (a (2 * j + 1)).toNat / 2 ^ 15 % 2 ^ 16) * 2 ^ 16)) s t)) ∧
    (∀ a : Lanes, a = s.sOperand .vi2s .pair (some (.pair, vd)) vs → (∃ t, exec (.vi2s vd vs .pair) s = .next t ∧ VectorDone .single vd (fun j => BitVec.ofNat 32 ((a (2 * j)).toNat / 2 ^ 16 + (a (2 * j + 1)).toNat / 2 ^ 16 * 2 ^ 16)) s t)) ∧
    (∀ a : Lanes, a = s.sOperand .vi2s .quad (some (.quad, vd)) vs → (∃ t, exec (.vi2s vd vs .quad) s = .next t ∧ VectorDone .pair vd (fun j => BitVec.ofNat 32 ((a (2 * j)).toNat / 2 ^ 16 + (a (2 * j + 1)).toNat / 2 ^ 16 * 2 ^ 16)) s t)) ∧
    (∀ (a : Lanes) (c : Word → Nat), a = s.sOperand .vt4444 .quad (some (.quad, vd)) vs → (∀ w, c w = w.toNat / 2 ^ 28 % 16 * 2 ^ 12 + w.toNat / 2 ^ 20 % 16 * 2 ^ 8 + w.toNat / 2 ^ 12 % 16 * 2 ^ 4 + w.toNat / 2 ^ 4 % 16) →
      (∃ t, exec (.vt4444 vd vs .quad) s = .next t ∧ VectorDone .pair vd (fun j => BitVec.ofNat 32 (c (a (2 * j)) + c (a (2 * j + 1)) * 2 ^ 16)) s t)) ∧
    (∀ (a : Lanes) (c : Word → Nat), a = s.sOperand .vt5551 .quad (some (.quad, vd)) vs → (∀ w, c w = w.toNat / 2 ^ 31 % 2 * 2 ^ 15 + w.toNat / 2 ^ 19 % 32 * 2 ^ 10 + w.toNat / 2 ^ 11 % 32 * 2 ^ 5 + w.toNat / 2 ^ 3 % 32) →
      (∃ t, exec (.vt5551 vd vs .quad) s = .next t ∧ VectorDone .pair vd (fun j => BitVec.ofNat 32 (c (a (2 * j)) + c (a (2 * j + 1)) * 2 ^ 16)) s t)) ∧
    (∀ (a : Lanes) (c : Word → Nat), a = s.sOperand .vt5650 .quad (some (.quad, vd)) vs → (∀ w, c w = w.toNat / 2 ^ 19 % 32 * 2 ^ 11 + w.toNat / 2 ^ 10 % 64 * 2 ^ 5 + w.toNat / 2 ^ 3 % 32) →
      (∃ t, exec (.vt5650 vd vs .quad) s = .next t ∧ VectorDone .pair vd (fun j => BitVec.ofNat 32 (c (a (2 * j)) + c (a (2 * j + 1)) * 2 ^ 16)) s t))

/-- O42 (R524, R525, R526, R527, R528). Each unmasked lane is the integer that the mode rounds the exact value times 2^scale to,
0x7FFFFFFF for a NaN or from 2^31 - 1 up, 0x80000000 from -2^31 down; the D-prefix saturation is skipped, the prefixes are eaten and
nothing else changes. -/
def Obligations.ScaledFloatToInteger : Prop :=
  ∀ (s : State) (vd vs : VReg) (scale : BitVec 5) (sz : Size),
    (∃ t d, exec (.vf2in vd vs scale sz) s = .next t ∧ VectorDone sz vd d s t ∧
      ∀ i, i < sz.lanes → IsScaledConverted .nearestEven scale.toNat (s.sOperand .vf2in sz (some (sz, vd)) vs i) (d i)) ∧
    (∃ t d, exec (.vf2iz vd vs scale sz) s = .next t ∧ VectorDone sz vd d s t ∧
      ∀ i, i < sz.lanes → IsScaledConverted .towardZero scale.toNat (s.sOperand .vf2iz sz (some (sz, vd)) vs i) (d i)) ∧
    (∃ t d, exec (.vf2iu vd vs scale sz) s = .next t ∧ VectorDone sz vd d s t ∧
      ∀ i, i < sz.lanes → IsScaledConverted .towardPlus scale.toNat (s.sOperand .vf2iu sz (some (sz, vd)) vs i) (d i)) ∧
    (∃ t d, exec (.vf2id vd vs scale sz) s = .next t ∧ VectorDone sz vd d s t ∧
      ∀ i, i < sz.lanes → IsScaledConverted .towardMinus scale.toNat (s.sOperand .vf2id sz (some (sz, vd)) vs i) (d i))

/-- O43 (R529, R530, R531). vi2f: each unmasked lane is the D-prefixed pattern nearest to the signed integer times 2^-scale. vcmovt and
vcmovf: under a CC bit below 6, all lanes, or with 6 each lane by its own CC bit, take the S-prefixed source when the bit is 1
(vcmovf: 0) and else the T-prefixed old destination; with 7 they are refused with VFPU_BAD_FIELD. Prefixes are eaten and nothing else
changes. -/
def Obligations.IntegerToFloatAndMoves : Prop :=
  ∀ (s : State) (vd vs : VReg) (imm3 : BitVec 3) (scale : BitVec 5) (sz : Size),
    (∃ t d, exec (.vi2f vd vs scale sz) s = .next t ∧ VectorDone sz vd (s.applyD .vi2f sz d) s t ∧
      ∀ i, i < sz.lanes → IsNearest ((s.sOperand .vi2f sz (some (sz, vd)) vs i).toInt / 2 ^ scale.toNat) (d i)) ∧
    (imm3.toNat < 6 → (∃ t, exec (.vcmovt vd vs imm3 sz) s = .next t ∧ VectorDone sz vd (s.applyD .vcmovt sz (fun i => if (s.vc CReg.cc).getLsbD imm3.toNat = true then s.sOperand .vcmovt sz (some (sz, vd)) vs i else s.tOperand .vcmovt sz (some (sz, vd)) vd i)) s t)) ∧
    (∃ t, exec (.vcmovt vd vs 6#3 sz) s = .next t ∧ VectorDone sz vd (s.applyD .vcmovt sz (fun i => if (s.vc CReg.cc).getLsbD i = true then s.sOperand .vcmovt sz (some (sz, vd)) vs i else s.tOperand .vcmovt sz (some (sz, vd)) vd i)) s t) ∧
    exec (.vcmovt vd vs 7#3 sz) s = .refused .vfpuBadField ∧
    (imm3.toNat < 6 → (∃ t, exec (.vcmovf vd vs imm3 sz) s = .next t ∧ VectorDone sz vd (s.applyD .vcmovf sz (fun i => if (s.vc CReg.cc).getLsbD imm3.toNat = false then s.sOperand .vcmovf sz (some (sz, vd)) vs i else s.tOperand .vcmovf sz (some (sz, vd)) vd i)) s t)) ∧
    (∃ t, exec (.vcmovf vd vs 6#3 sz) s = .next t ∧ VectorDone sz vd (s.applyD .vcmovf sz (fun i => if (s.vc CReg.cc).getLsbD i = false then s.sOperand .vcmovf sz (some (sz, vd)) vs i else s.tOperand .vcmovf sz (some (sz, vd)) vd i)) s t) ∧
    exec (.vcmovf vd vs 7#3 sz) s = .refused .vfpuBadField

/-- O44 (R561, R562, R563, R564, R565, R566, R569, R570, R441). The sorts write the pairwise minima and maxima of the prefixed lanes (a
false compare keeps the first); vbfy1, vbfy2, vocp, vsocp write the sum of the two overridden operands, both read from vs, which under
identity prefixes are (s0+s1, s0-s1, s2+s3, s2-s3), (s0+s2, s1+s3, s0-s2, s1-s3), 1 - s, and (1-x, x, 1-y, y) clamped to [0, 1]. With
the entry of PREFIX_OVERRIDE for vbfy1 that also removes the abs and negate bits, as R563 has it and the table of R441 has not, its T
operand is (s1, s0, s3, s2) whatever the T prefix; that Params.default holds this entry, and for vbfy2 the mask of the table, is the
model choice of log entry 41. Lanes are masked, prefixes eaten, nothing else changes. -/
def Obligations.SortButterfly : Prop :=
  ∀ (s : State) (vd vs : VReg) (sz : Size),
    (∀ a : Lanes, a = s.sOperand .vsrt1 .quad (some (.quad, vd)) vs → (∃ t, exec (.vsrt1 vd vs .quad) s = .next t ∧ VectorDone .quad vd (s.applyD .vsrt1 .quad (lanes4 (if fLt (a 1) (a 0) then a 1 else a 0) (if fLt (a 0) (a 1) then a 1 else a 0) (if fLt (a 3) (a 2) then a 3 else a 2) (if fLt (a 2) (a 3) then a 3 else a 2))) s t)) ∧
    (∀ a : Lanes, a = s.sOperand .vsrt2 .quad (some (.quad, vd)) vs → (∃ t, exec (.vsrt2 vd vs .quad) s = .next t ∧ VectorDone .quad vd (s.applyD .vsrt2 .quad (lanes4 (if fLt (a 3) (a 0) then a 3 else a 0) (if fLt (a 2) (a 1) then a 2 else a 1) (if fLt (a 1) (a 2) then a 2 else a 1) (if fLt (a 0) (a 3) then a 3 else a 0))) s t)) ∧
    (∀ a : Lanes, a = s.sOperand .vsrt3 .quad (some (.quad, vd)) vs → (∃ t, exec (.vsrt3 vd vs .quad) s = .next t ∧ VectorDone .quad vd (s.applyD .vsrt3 .quad (lanes4 (if fLt (a 0) (a 1) then a 1 else a 0) (if fLt (a 1) (a 0) then a 1 else a 0) (if fLt (a 2) (a 3) then a 3 else a 2) (if fLt (a 3) (a 2) then a 3 else a 2))) s t)) ∧
    (∀ a : Lanes, a = s.sOperand .vsrt4 .quad (some (.quad, vd)) vs → (∃ t, exec (.vsrt4 vd vs .quad) s = .next t ∧ VectorDone .quad vd (s.applyD .vsrt4 .quad (lanes4 (if fLt (a 0) (a 3) then a 3 else a 0) (if fLt (a 1) (a 2) then a 2 else a 1) (if fLt (a 2) (a 1) then a 2 else a 1) (if fLt (a 3) (a 0) then a 3 else a 0))) s t)) ∧
    (sz = .pair ∨ sz = .quad → (∃ t d, exec (.vbfy1 vd vs sz) s = .next t ∧ (∀ i, i < Size.lanes sz → IsFloat (fAdd s.cfg.ftz (s.sOperand .vbfy1 sz (some (sz, vd)) vs i) (s.tOperand .vbfy1 sz (some (sz, vd)) vs i)) (d i)) ∧
      VectorDone sz vd (s.applyD .vbfy1 sz d) s t)) ∧
    (∃ t d, exec (.vbfy2 vd vs .quad) s = .next t ∧ (∀ i, i < Size.lanes .quad → IsFloat (fAdd s.cfg.ftz (s.sOperand .vbfy2 .quad (some (.quad, vd)) vs i) (s.tOperand .vbfy2 .quad (some (.quad, vd)) vs i)) (d i)) ∧
      VectorDone .quad vd (s.applyD .vbfy2 .quad d) s t) ∧
    (∃ t d, exec (.vocp vd vs sz) s = .next t ∧ (∀ i, i < Size.lanes sz → IsFloat (fAdd s.cfg.ftz (s.tOperand .vocp sz (some (sz, vd)) vs i) (s.sOperand .vocp sz (some (sz, vd)) vs i)) (d i)) ∧
      VectorDone sz vd (s.applyD .vocp sz d) s t) ∧
    (∀ (out : Size) (a : Lanes), (sz = .single ∧ out = .pair) ∨ (sz = .pair ∧ out = .quad) →
      (∀ i, a i = if i < sz.lanes then s.readVector sz vs i else 0#32) → ∃ t d, exec (.vsocp vd vs sz) s = .next t ∧
      VectorDone out vd (s.applyD .vsocp sz d) s t ∧ ∀ i, i < out.lanes → IsFloat (fAdd s.cfg.ftz
        (applyST (s.effS .vsocp sz) sz.lanes a (fun _ => 0#32) i)
        (applyST (s.effT .vsocp sz) sz.lanes a (fun _ => 0#32) i)) (d i)) ∧
    (s.prefixesIdentity = true → ∀ a : Lanes, a = s.readVector sz vs → ∀ i, i < sz.lanes →
      (s.FollowsTable .vocp sz → s.sOperand .vocp sz (some (sz, vd)) vs i = a i ^^^ 0x80000000#32 ∧ s.tOperand .vocp sz (some (sz, vd)) vs i = 0x3F800000#32) ∧
      (s.FollowsTable .vbfy1 sz ∨ prefixOverride s.cfg .vbfy1 sz = ⟨0#32, 0x000A0000#32, 0x000FFFFF#32, 0x000000B1#32, 0#32, 0#32⟩ →
        sz = .pair ∨ sz = .quad → s.sOperand .vbfy1 sz (some (sz, vd)) vs i = (if i % 2 = 1 then a i ^^^ 0x80000000#32 else a i) ∧
        s.tOperand .vbfy1 sz (some (sz, vd)) vs i = a (if i % 2 = 0 then i + 1 else i - 1)) ∧
      (s.FollowsTable .vbfy2 sz → sz = .quad → s.sOperand .vbfy2 sz (some (sz, vd)) vs i = (if 2 ≤ i then a i ^^^ 0x80000000#32 else a i) ∧
        s.tOperand .vbfy2 sz (some (sz, vd)) vs i = a (if i < 2 then i + 2 else i - 2))) ∧
    (prefixOverride s.cfg .vbfy1 sz = ⟨0#32, 0x000A0000#32, 0x000FFFFF#32, 0x000000B1#32, 0#32, 0#32⟩ → sz = .pair ∨ sz = .quad →
      ∀ i, i < sz.lanes → s.tOperand .vbfy1 sz (some (sz, vd)) vs i = s.readVector sz vs (if i % 2 = 0 then i + 1 else i - 1)) ∧
    (s.prefixesIdentity = true → s.FollowsTable .vsocp sz → sz = .single ∨ sz = .pair → ∀ a : Lanes,
      (∀ i, a i = if i < sz.lanes then s.readVector sz vs i else 0#32) → ∀ i, i < 2 * sz.lanes →
      applyST (s.effS .vsocp sz) sz.lanes a (fun _ => 0#32) i =
        (if i % 2 = 0 then a (i / 2) ^^^ 0x80000000#32 else a (i / 2)) ∧
      applyST (s.effT .vsocp sz) sz.lanes a (fun _ => 0#32) i = (if i % 2 = 0 then 0x3F800000#32 else 0#32) ∧
      (s.effD .vsocp sz).toNat / 4 ^ i % 4 = 1)

/-- O45 (R577, R578, R579, R580, R581, R582, R584, R587, R588, R589, R590). With identity prefixes: vmmul writes element (a, b) as
VFPU_DOT of vector b of vs and vector a of vt; the transforms write lane i as VFPU_DOT of vector i of the matrix and the vector,
extended with 1.0 in the homogeneous forms; vmscl scales every element by a Single; vmmov copies, vmidt, vmzero, vmone write
constants; every source is read before any write; prefixes are eaten and nothing else changes. -/
def Obligations.MatrixInstructions : Prop :=
  ∀ (s : State) (vd vs vt : VReg) (sz : Size), s.prefixesIdentity = true → sz ≠ .single →
    (∃ t, exec (.vmmul vd vs vt sz) s = .next t ∧ MatrixDone sz vd (fun a b => Config.vfpuDot
      ((List.range sz.lanes).map (s.readMatrix sz vs b)) ((List.range sz.lanes).map (s.readMatrix sz vt a))) s t) ∧
    (∃ t, exec (.vtfm2P vd vs vt) s = .next t ∧ VectorDone .pair vd (fun i => Config.vfpuDot ((List.range 2).map (s.readMatrix .pair vs i)) ((List.range 2).map (s.readVector .pair vt))) s t) ∧
    (∃ t, exec (.vhtfm2P vd vs vt) s = .next t ∧ VectorDone .pair vd (fun i => Config.vfpuDot ((List.range 2).map (s.readMatrix .pair vs i)) ((List.range 2).map (fun i => if i < 1 then s.readVector .single vt i else 0x3F800000#32))) s t) ∧
    (∃ t, exec (.vtfm3T vd vs vt) s = .next t ∧ VectorDone .triple vd (fun i => Config.vfpuDot ((List.range 3).map (s.readMatrix .triple vs i)) ((List.range 3).map (s.readVector .triple vt))) s t) ∧
    (∃ t, exec (.vhtfm3T vd vs vt) s = .next t ∧ VectorDone .triple vd (fun i => Config.vfpuDot ((List.range 3).map (s.readMatrix .triple vs i)) ((List.range 3).map (fun i => if i < 2 then s.readVector .pair vt i else 0x3F800000#32))) s t) ∧
    (∃ t, exec (.vtfm4Q vd vs vt) s = .next t ∧ VectorDone .quad vd (fun i => Config.vfpuDot ((List.range 4).map (s.readMatrix .quad vs i)) ((List.range 4).map (s.readVector .quad vt))) s t) ∧
    (∃ t, exec (.vhtfm4Q vd vs vt) s = .next t ∧ VectorDone .quad vd (fun i => Config.vfpuDot ((List.range 4).map (s.readMatrix .quad vs i)) ((List.range 4).map (fun i => if i < 3 then s.readVector .triple vt i else 0x3F800000#32))) s t) ∧
    (∃ t m, exec (.vmscl vd vs vt sz) s = .next t ∧ MatrixDone sz vd m s t ∧ ∀ j i, j < sz.lanes → i < sz.lanes →
      IsFloat (fMul s.cfg.ftz (s.readMatrix sz vs j i) (s.vr vt)) (m j i)) ∧
    (∃ t, exec (.vmmov vd vs sz) s = .next t ∧ MatrixDone sz vd (s.readMatrix sz vs) s t) ∧
    (∃ t, exec (.vmidt vd vs sz) s = .next t ∧ MatrixDone sz vd (fun j i => if i = j then 0x3F800000#32 else 0#32) s t) ∧
    (∃ t, exec (.vmzero vd vs sz) s = .next t ∧ MatrixDone sz vd (fun _ _ => 0#32) s t) ∧
    (∃ t, exec (.vmone vd vs sz) s = .next t ∧ MatrixDone sz vd (fun _ _ => 0x3F800000#32) s t)

/-- O46 (R585, R586, R591). vcrsp.t writes the three differences of rounded products, vqmul.q the four signed sums added left to right
with every product and sum rounded (a NaN anywhere giving any NaN), both of the prefixed operands; vrot at Pair, Triple and Quad
writes the cosine at lane imm5[1:0], the sine (negated under imm5[4]) at lane imm5[3:2], or in every other lane where the two lanes
are one, and 0 elsewhere. Lanes D-prefixed and masked, prefixes eaten, nothing else changes. -/
def Obligations.CrossQuaternionRotate : Prop :=
  ∀ (s : State) (vd vs vt : VReg) (sz : Size) (imm5 : BitVec 5) (z : Bool), z = s.cfg.ftz →
    (∀ a b : Lanes, a = s.sOperand .vcrsp .triple (some (.triple, vd)) vs → b = s.tOperand .vcrsp .triple (some (.triple, vd)) vt →
      ∃ t d, exec (.vcrspT vd vs vt) s = .next t ∧ VectorDone .triple vd (s.applyD .vcrsp .triple d) s t ∧
      IsFloat (do let p ← fMul z (a 1) (b 2); let q ← fMul z (a 2) (b 1); fSub z p q) (d 0) ∧
      IsFloat (do let p ← fMul z (a 2) (b 0); let q ← fMul z (a 0) (b 2); fSub z p q) (d 1) ∧
      IsFloat (do let p ← fMul z (a 0) (b 1); let q ← fMul z (a 1) (b 0); fSub z p q) (d 2)) ∧
    (∀ a b : Lanes, a = s.sOperand .vqmul .quad (some (.quad, vd)) vs → b = s.tOperand .vqmul .quad (some (.quad, vd)) vt →
      ∃ t d, exec (.vqmulQ vd vs vt) s = .next t ∧ VectorDone .quad vd (s.applyD .vqmul .quad d) s t ∧
      IsFloat (do let p0 ← fMul z (a 0) (b 3); let p1 ← fMul z (a 1) (b 2); let p2 ← fMul z (a 2) (b 1); let p3 ← fMul z (a 3) (b 0); let q1 ← fAdd z p0 p1; let q2 ← fAdd z q1 (p2 ^^^ 0x80000000#32); fAdd z q2 p3)
        (d 0) ∧
      IsFloat (do let p0 ← fMul z (a 0) (b 2); let p1 ← fMul z (a 1) (b 3); let p2 ← fMul z (a 2) (b 0); let p3 ← fMul z (a 3) (b 1); let q1 ← fAdd z (p0 ^^^ 0x80000000#32) p1; let q2 ← fAdd z q1 p2; fAdd z q2 p3)
        (d 1) ∧
      IsFloat (do let p0 ← fMul z (a 0) (b 1); let p1 ← fMul z (a 1) (b 0); let p2 ← fMul z (a 2) (b 3); let p3 ← fMul z (a 3) (b 2); let q1 ← fAdd z p0 (p1 ^^^ 0x80000000#32); let q2 ← fAdd z q1 p2; fAdd z q2 p3)
        (d 2) ∧
      IsFloat (do let p0 ← fMul z (a 0) (b 0); let p1 ← fMul z (a 1) (b 1); let p2 ← fMul z (a 2) (b 2); let p3 ← fMul z (a 3) (b 3); let q1 ← fAdd z (p0 ^^^ 0x80000000#32) (p1 ^^^ 0x80000000#32); let q2 ← fAdd z q1 (p2 ^^^ 0x80000000#32); fAdd z q2 p3)
        (d 3)) ∧
    (sz ≠ .single → ∀ a sn cs : Word, a = s.sOperandAt .vrot sz .single (some (sz, vd)) vs 0 → cs = Config.vfpuCos a →
      sn = (if imm5.getLsbD 4 then Config.vfpuSin a ^^^ 0x80000000#32 else Config.vfpuSin a) →
      (∃ t, exec (.vrot vd vs imm5 sz) s = .next t ∧ VectorDone sz vd (s.applyD .vrot sz (fun i => if i = imm5.toNat % 4 then cs
        else if imm5.toNat / 4 % 4 = imm5.toNat % 4 ∨ i = imm5.toNat / 4 % 4 then sn else 0#32)) s t))

/-- O47 (R430, R461, R462). vsbz, vlgb and vwbn answer the refusal UNMODELLED_VFPU_OP; every sized instruction answers VFPU_BAD_SIZE at a
size that its rule does not list, a matrix instruction at Single under identity prefixes; under a prefix that is not the identity
every matrix instruction and transform answers PREFIX_ON_MATRIX_OP, at any size. -/
def Obligations.VfpuRefusals : Prop :=
  ∀ (s : State) (vd vs vt : VReg) (sz : Size) (imm5 : BitVec 5) (imm8 : BitVec 8),
    (∀ i, i ∈ ([.vsbz vd vs sz, .vlgb vd vs sz, .vwbn vd vs imm8 sz] : List Instr) → exec i s = .refused .unmodelledVfpuOp) ∧
    (sz ∉ ([.single] : List Size) → ∀ i, i ∈ ([.vsbn vd vs vt sz, .vrnds vd vs sz, .vuc2i vd vs sz, .vc2i vd vs sz] : List Instr) →
      exec i s = .refused .vfpuBadSize) ∧
    (sz ∉ ([.pair, .triple, .quad] : List Size) → ∀ i, i ∈ ([.vscl vd vs vt sz, .vhdp vd vs vt sz, .vrot vd vs imm5 sz] : List Instr) →
      exec i s = .refused .vfpuBadSize) ∧
    (sz ∉ ([.triple] : List Size) → ∀ i, i ∈ ([.vcrsT vd vs vt sz] : List Instr) →
      exec i s = .refused .vfpuBadSize) ∧
    (sz ∉ ([.pair] : List Size) → ∀ i, i ∈ ([.vdetP vd vs vt sz] : List Instr) →
      exec i s = .refused .vfpuBadSize) ∧
    (sz ∉ ([.pair, .quad] : List Size) → ∀ i, i ∈ ([.vidt vd vs sz, .vf2h vd vs sz, .vi2us vd vs sz, .vi2s vd vs sz, .vbfy1 vd vs sz] : List Instr) →
      exec i s = .refused .vfpuBadSize) ∧
    (sz ∉ ([.single, .pair] : List Size) → ∀ i, i ∈ ([.vh2f vd vs sz, .vus2i vd vs sz, .vs2i vd vs sz, .vsocp vd vs sz] : List Instr) →
      exec i s = .refused .vfpuBadSize) ∧
    (sz ∉ ([.quad] : List Size) → ∀ i, i ∈ ([.vi2uc vd vs sz, .vi2c vd vs sz, .vsrt1 vd vs sz, .vsrt2 vd vs sz, .vsrt3 vd vs sz, .vsrt4 vd vs sz,
      .vbfy2 vd vs sz, .vt4444 vd vs sz, .vt5551 vd vs sz, .vt5650 vd vs sz] : List Instr) →
      exec i s = .refused .vfpuBadSize) ∧
    (s.prefixesIdentity = true → ∀ i, i ∈ ([.vmmul vd vs vt .single, .vmscl vd vs vt .single, .vmmov vd vs .single, .vmidt vd vs .single, .vmzero vd vs .single, .vmone vd vs .single] : List Instr) →
      exec i s = .refused .vfpuBadSize) ∧
    (s.prefixesIdentity = false → ∀ i, i ∈ ([.vmmul vd vs vt sz, .vmscl vd vs vt sz, .vmmov vd vs sz, .vmidt vd vs sz, .vmzero vd vs sz, .vmone vd vs sz,
      .vtfm2P vd vs vt, .vhtfm2P vd vs vt, .vtfm3T vd vs vt, .vhtfm3T vd vs vt, .vtfm4Q vd vs vt, .vhtfm4Q vd vs vt] : List Instr) →
      exec i s = .refused .prefixOnMatrixOp)

/-- O48 (R120, R121, R130). For every well-formed instruction, with every value of every operand, decode (encode i) is i, also through
decodeTableWord of the 32-bit number; and every instruction that decode answers for any word is well formed. -/
def Obligations.DecodeEncode : Prop :=
  (∀ i : Instr, i.wellFormed = true → decode (encode i) = .ok i ∧ decodeTableWord 32 (encode i).toNat = some i) ∧
  ∀ (w : Word) (i : Instr), decode w = .ok i → i.wellFormed = true

/-- O49 (R83, R91, R98). From every state whose memory is in canonical form with addresses inside the windows (State.memWf), a step that
answers a next state gives one with the same property and the same parameters. -/
def Obligations.StepKeepsMemoryCanonical : Prop :=
  ∀ s t : State, s.memWf = true → step s = .next t → t.memWf = true ∧ t.cfg = s.cfg

/-- O50 (R32, R35, R38, R41). From every state whose live, saved and per-thread registers are well formed (State.regsWf: register 0 is
zero, each VFPU control register holds only bits of its write mask and the read-only ones their fixed values, fcr31 only its writable
bits, and not both kinds of transfer are pending), a step that answers a next state gives such a state. -/
def Obligations.StepKeepsRegistersWellFormed : Prop :=
  ∀ s t : State, s.regsWf = true → step s = .next t → t.regsWf = true

/-- O51 (R630, R701, R704, R705, R722, R409, R627). An instruction other than syscall that sets the latch leaves every other part of the
state as it was, and the record holds its pc and word; so does a syscall that no handler handles, and any syscall that sets it leaves
the live ProcessorState as it was (log entry 43) and records its pc and word. With the latch set a step is the fault of its cause (log
entry 7) and with the refusal mark it is the refusal (log entry 8); interpretOneInstruction then changes nothing and returns false,
and runInterpreterForCycles, as with no cycles to spend, changes nothing and returns 0. Without either, no step is a fault. -/
def Obligations.FaultsPreciseAndFinal : Prop :=
  (∀ (s t : State) (i : Instr), (∀ code, i ≠ .syscall code) → s.failure = none → exec i s = .next t → ∀ f, t.failure = some f →
    t = { s with failure := some f } ∧ f.pc = s.cpu.pc ∧ f.word = s.ir) ∧
  (∀ (s : State) (code : BitVec 20) (nid : Word), s.failure = none → lookup s.cfg.nidMap s.cpu.pc = some nid →
    lookup s.cfg.kernelNid nid = none →
    (Config.dispatch nid s).handled = true ∨ ∃ t, exec (.syscall code) s = .next t ∧ FatalOnly .syscall 0#32 s t) ∧
  (∀ (s t : State) (code : BitVec 20), s.failure = none → exec (.syscall code) s = .next t → ∀ f, t.failure = some f →
    t.cpu = s.cpu ∧ f.pc = s.cpu.pc ∧ f.word = s.ir ∧ t.refused = s.refused ∧ t.cfg = s.cfg) ∧
  (∀ (s : State) (fuel : Nat) (cycles : Int), s.failure.isSome = true ∨ s.refused.isSome = true ∨ cycles ≤ 0 →
    runInterpreterForCycles fuel cycles s = some (s, 0)) ∧
  (∀ (s : State) (f : FailRecord) (w : Word), s.failure = some f →
    step s = .fault (.processorFailed f.cause) ∧ interpretOneInstruction w s = (s, false)) ∧
  (∀ (s : State) (r : Refusal) (w : Word), s.failure = none → s.refused = some r →
    step s = .refused r ∧ interpretOneInstruction w s = (s, false)) ∧
  ∀ s : State, s.failure = none → s.refused = none → ∀ e, step s ≠ .fault e

/-- O52 (R641, R717). An instruction that answers a next state leaves now, downcount and idleCycles as they were (a syscall too), and from
one step to the next now and idleCycles never decrease. -/
def Obligations.TimeNeverDecreases : Prop :=
  (∀ (s t : State) (i : Instr), exec i s = .next t → t.sched.now = s.sched.now ∧ t.sched.downcount = s.sched.downcount ∧
    t.sched.idleCycles = s.sched.idleCycles) ∧
  ∀ s t : State, step s = .next t → s.sched.now ≤ t.sched.now ∧ s.sched.idleCycles ≤ t.sched.idleCycles

/-- O53 (R742, R743, R741, R86). Under any well-formed parameters the state right after reset has no failure or refusal, the memory of
INITIAL_MEMORY (canonical) and well-formed registers, register 0 zero, no pending transfer, llBit, fcr31 and fpcond 0, the VFPU
control registers of the table, no current thread, the boot thread alone and READY at the entry point, time 0 and interrupts enabled.
(That a byte which INITIAL_MEMORY does not list reads 0, its default, the loader values and the boot UID are in log entries 3, 5 and
15.) -/
def Obligations.ResetState : Prop :=
  State.reset = State.resetWith Params.default ∧ Params.default.wf = true ∧ ∀ p : Params, p.wf = true →
    let s := State.resetWith p
    s.mem = p.initialMemory ∧ s.memWf = true ∧ s.regsWf = true ∧ s.safe = true ∧ s.x 0#5 = 0#32 ∧ s.cpu.gpr[0] = 0#32 ∧ s.pending = false ∧
    s.cpu.llBit = false ∧ s.cpu.fcr31 = 0#32 ∧ s.cpu.fpcond = false ∧
    (∀ k : CReg, s.vc k = ([0xE4#32, 0xE4#32, 0#32, 0x3F#32, 0#32, 0#32, 0#32, 0x7772CEAB#32, 0x3F800001#32, 0x3F800002#32,
      0x3F800004#32, 0x3F800008#32, 0x3F800000#32, 0x3F800000#32, 0x3F800000#32, 0x3F800000#32] : List Word).getD k.val 0#32) ∧
    s.sched.current = none ∧ s.sched.now = 0 ∧ s.sched.downcount = 0 ∧ s.sched.idleCycles = 0 ∧ s.sched.yieldRequested = false ∧
    s.sched.intrEnabled = true ∧ s.sched.pendingIntr = [] ∧ s.sched.waitingList = [] ∧
    ∃ th, s.sched.threads = [th] ∧ s.sched.readyQueue = [th.uid] ∧ th.status = .ready ∧ th.ctx.pc = p.bootEntry ∧
      th.ctx.gpr[29] = p.bootSp ∧ th.ctx.gpr[31] = p.threadExitAddr ∧ th.priority = p.bootPriority

/-- O54 (R122, R123, R124, R125, R126, R408). One word of each family, its fields written out from the formats of 30_encoding.md, decodes
to the instruction it stands for; a COP0 word, a SPECIAL2 word and a SPECIAL word of no row are unknown opcodes, and a VFPU7 and a
VFPU0 word of no row unknown VFPU words. -/
def Obligations.DecodeSampleWords : Prop :=
  decode 0b00000000011001010001000000100001#32 = .ok (.addu 3#5 5#5 2#5 0#5) ∧
  decode 0b00100100000010001111111111111111#32 = .ok (.addiu 0#5 8#5 0xFFFF#16) ∧
  decode 0b00010000100001010000000000000010#32 = .ok (.beq 4#5 5#5 2#16) ∧
  decode 0b00001100000000000000000000000001#32 = .ok (.jal 1#26) ∧
  decode 0b10001111101000100000000000000100#32 = .ok (.lw 29#5 2#5 4#16) ∧
  decode 0b01111100100000100011100100000000#32 = .ok (.ext 4#5 2#5 7#5 4#5) ∧
  decode 0b01000110000000100000100000000000#32 = .ok (.addS 2#5 1#5 0#5) ∧
  decode 0b01000110000000100000100000111100#32 = .ok (.cLtS 2#5 1#5) ∧
  decode 0b00000000000000000000000000001100#32 = .ok (.syscall 0#20) ∧
  decode 0b01100000000010001000010010000000#32 = .ok (.vadd 0#7 4#7 8#7 .quad) ∧
  decode 0b11010000000000000000010000000001#32 = .ok (.vmov 1#7 4#7 .single) ∧
  decode 0b11011100000000000000000010110001#32 = .ok (.vpfxs 0xB1#20) ∧
  decode 0b11110000000010001000010010000000#32 = .ok (.vmmul 0#7 4#7 8#7 .quad) ∧
  decode 0b11011000100000010000000000010000#32 = .ok (.lvQ 4#5 1#5 4#14 0#1) ∧
  decode 0b11111111111111110000000000000000#32 = .ok (.vnop) ∧
  decode 0b01000000000000000000000000000000#32 = .error .unknownOpcode ∧
  decode 0b01110000000000000000000000111111#32 = .error .unknownOpcode ∧
  decode 0b00000000000000000000000000000001#32 = .error .unknownOpcode ∧
  decode 0b11111111111111110000000000000001#32 = .error .unknownVfpu ∧
  decode 0b01100001100000000000000000000000#32 = .error .unknownVfpu

/-- O55 (R624, R631, R632, R646, R666, R667). With the ready queue in order of priority and room in it, enqueueReady makes the thread
READY and splits the queue into threads at least as urgent, the thread, and strictly less urgent ones, so the order is kept and ties
go by insertion; without room it is refused. selectReady answers the first thread of the queue, than which no thread of an ordered
queue is more urgent, and none of an empty queue. rotateThreadReadyQueue moves the first thread of its level behind the others of the
level, or at the level of the caller requests a yield (refused in a nested run); changeThreadPriority sets the priority, and moves a
READY thread behind the others of its new level. -/
def Obligations.ReadyQueueOrder : Prop :=
  (∀ (s : State) (u : Word) (th : PSPThread), s.thread? u = some th →
    (s.sched.readyQueue.Pairwise fun v w => s.priorityOf v ≤ s.priorityOf w) →
    (s.sched.readyQueue.length < s.cfg.readyCapacity → ∃ t q₁ q₂, enqueueReady u s = .next t ∧
      s.sched.readyQueue = q₁ ++ q₂ ∧ t.sched.readyQueue = q₁ ++ u :: q₂ ∧
      (∀ v, v ∈ q₁ → s.priorityOf v ≤ th.priority) ∧ (∀ v, v ∈ q₂ → th.priority < s.priorityOf v) ∧
      (t.sched.readyQueue.Pairwise fun v w => t.priorityOf v ≤ t.priorityOf w) ∧
      t.thread? u = some { th with status := .ready } ∧ t.cpu = s.cpu ∧ t.mem = s.mem) ∧
    (s.cfg.readyCapacity ≤ s.sched.readyQueue.length → enqueueReady u s = .refused .unmodelledKernelCase) ∧
    (∀ rest, s.sched.readyQueue = u :: rest → s.selectReady = some th ∧ ∀ v, v ∈ rest → th.priority ≤ s.priorityOf v) ∧
    (s.sched.readyQueue = [] → s.selectReady = none)) ∧
  (∀ (s : State) (a : CommandArgs) (p : Nat), 0x08 ≤ p → p ≤ 0x77 →
    (a.a0.toNat = p ∨ (a.a0 = 0#32 ∧ ∃ c, s.currentThread? = some c ∧ c.priority = p) →
      (∀ c, s.currentThread? = some c → c.priority = p →
        (s.sched.nested = none → ∃ t, runCommand .rotateThreadReadyQueue a s = .next t ∧ Answered s.cfg.err.ok s t ∧ 
          t.sched = { s.sched with yieldRequested := true }) ∧
        (s.sched.nested ≠ none → runCommand .rotateThreadReadyQueue a s = .refused .unmodelledKernelCase)) ∧
      ((∀ c, s.currentThread? = some c → c.priority ≠ p) → ∃ t, runCommand .rotateThreadReadyQueue a s = .next t ∧ Answered s.cfg.err.ok s t ∧ 
        { t.sched with readyQueue := s.sched.readyQueue } = s.sched ∧
        (∀ q₁ v q₂ q₃, s.sched.readyQueue = q₁ ++ v :: (q₂ ++ q₃) → (∀ w, w ∈ q₁ → s.priorityOf w < p) → s.priorityOf v = p →
          (∀ w, w ∈ q₂ → s.priorityOf w = p) → (∀ w, w ∈ q₃ → p < s.priorityOf w) →
          t.sched.readyQueue = q₁ ++ q₂ ++ v :: q₃) ∧
        ((∀ w, w ∈ s.sched.readyQueue → s.priorityOf w ≠ p) → t.sched.readyQueue = s.sched.readyQueue))) ∧
    (∀ th, (a.a0 ≠ 0#32 ∧ s.thread? a.a0 = some th) ∨ (a.a0 = 0#32 ∧ s.currentThread? = some th) →
      (a.a1.toNat = p ∨ (a.a1 = 0#32 ∧ ∃ c, s.currentThread? = some c ∧ c.priority = p)) →
      ∃ t, runCommand .changeThreadPriority a s = .next t ∧ Answered s.cfg.err.ok s t ∧ 
        t.thread? th.uid = some { th with priority := p } ∧ (∀ v, v ≠ th.uid → t.thread? v = s.thread? v) ∧
        { t.sched with threads := s.sched.threads, readyQueue := s.sched.readyQueue } = s.sched ∧
        (th.status ≠ .ready → t.sched.readyQueue = s.sched.readyQueue) ∧
        (th.status = .ready → s.sched.readyQueue.Nodup →
          (s.sched.readyQueue.Pairwise fun v w => s.priorityOf v ≤ s.priorityOf w) →
          ∃ q₁ q₂, s.sched.readyQueue.erase th.uid = q₁ ++ q₂ ∧ t.sched.readyQueue = q₁ ++ th.uid :: q₂ ∧
            (∀ v, v ∈ q₁ → s.priorityOf v ≤ p) ∧ ∀ v, v ∈ q₂ → p < s.priorityOf v))) ∧
  ∀ (s : State) (a : CommandArgs),
    (a.a0 ≠ 0#32 → ¬(0x08 ≤ a.a0.toNat ∧ a.a0.toNat ≤ 0x77) →
      ∃ t, runCommand .rotateThreadReadyQueue a s = .next t ∧ Answered s.cfg.err.illegalPriority s t ∧ t.sched = s.sched) ∧
    (a.a0 ≠ 0#32 → s.thread? a.a0 = none → ∃ t, runCommand .changeThreadPriority a s = .next t ∧ Answered s.cfg.err.unknownUid s t ∧ t.sched = s.sched) ∧
    (∀ th, s.thread? a.a0 = some th → a.a0 ≠ 0#32 → a.a1 ≠ 0#32 → ¬(0x08 ≤ a.a1.toNat ∧ a.a1.toNat ≤ 0x77) →
      ∃ t, runCommand .changeThreadPriority a s = .next t ∧ Answered s.cfg.err.illegalPriority s t ∧ t.sched = s.sched)

/-- O56 (R627, R633, R634, R635, R639, R643, R644, R750, R757). A call takes the next of the budgets asked for, or FRAME_BUDGET, and
returns when it is spent. At a quantum start the first thread context becomes the live registers with nothing pending and the thread
RUNNING. In the run loop the step is an instruction while a transfer is pending; with nothing pending, a spent downcount, a yield
request or a thread no longer RUNNING ends it without an instruction, and so does reaching THREAD_EXIT_ADDR, which also makes the
thread DORMANT with status x[2]. At the quantum end the live registers are saved in the thread, which is requeued if RUNNING and
destroyed if DORMANT and delete-pending, and a positive downcount is credited to now, consumed and idleCycles; memory is kept, where
DISPLAY_STEP is the identity (log entry 29). (The phases and the list of budgets are the form of the model, log entry 16.) -/
def Obligations.QuantumContextSwitch : Prop :=
  ∀ s : State, s.failure = none → s.refused = none → s.sched.nested = none →
    (s.sched.phase = .host → ∃ t, step s = .next t ∧ t.sched.phase = .frame ∧ t.sched.consumed = 0 ∧ t.cpu = s.cpu ∧ t.mem = s.mem ∧
      (s.sched.calls = [] → t.sched.callCycles = s.cfg.frameBudget ∧ t.sched.calls = []) ∧
      ∀ n rest, s.sched.calls = n :: rest → t.sched.callCycles = n.toNat ∧ t.sched.calls = rest) ∧
    (s.sched.phase = .frame → s.sched.callCycles ≤ s.sched.consumed → ∃ t, step s = .next t ∧ t.cpu = s.cpu ∧ t.mem = s.mem ∧
      t.sched = { s.sched with phase := .host }) ∧
    (s.sched.phase = .run → s.pending = true →
      s.runsNext = true ∧ ∀ t, step s = .next t → t.sched.phase = .run) ∧
    (∀ th, s.sched.phase = .frame → s.sched.consumed < s.sched.callCycles → s.selectReady = some th → ∃ t, step s = .next t ∧
      t.cpu.toContext = th.ctx ∧ t.pending = false ∧ t.sched.current = some th.uid ∧
      t.thread? th.uid = some { th with status := .running } ∧ s.sched.readyQueue = th.uid :: t.sched.readyQueue ∧
      t.sched.downcount = (min s.cfg.quantumCycles (s.sched.callCycles - s.sched.consumed) : Nat) ∧ t.mem = s.mem) ∧
    (s.sched.phase = .run → s.pending = false → s.quantumOver = true → ∃ t, step s = .next t ∧ t.cpu = s.cpu ∧ t.mem = s.mem ∧
      t.sched.phase ≠ .run ∧ t.sched.yieldRequested = false ∧ t.sched.now = s.sched.now) ∧
    (∀ c, s.sched.phase = .run → s.pending = false → s.quantumOver = false → s.cpu.pc = s.cfg.threadExitAddr →
      s.currentThread? = some c → ∃ t, step s = .next t ∧ t.cpu = s.cpu ∧ t.mem = s.mem ∧ t.sched.phase ≠ .run ∧
        t.thread? c.uid = some { c with status := .dormant, exitStatus := s.x 2#5 }) ∧
    (∀ u th, s.sched.phase = .finish → s.sched.current = some u → s.thread? u = some th →
      (th.status = .running → s.sched.readyQueue.length < s.cfg.readyCapacity → ∃ t, step s = .next t ∧
        t.thread? u = some { th with ctx := s.cpu.toContext, status := .ready } ∧
        t.sched.readyQueue = insertReady s.priorityOf u th.priority s.sched.readyQueue) ∧
      (th.status = .dormant → th.deletePending = true → ∃ t, step s = .next t ∧ t.thread? u = none ∧
        u ∉ t.sched.readyQueue ∧ u ∉ t.sched.waitingList ∧ ∀ c, c ∈ t.sched.callbacks → c.owner ≠ u) ∧
      (th.status = .waiting ∨ (th.status = .dormant ∧ th.deletePending = false) → ∃ t, step s = .next t ∧
        t.thread? u = some { th with ctx := s.cpu.toContext } ∧ t.sched.readyQueue = s.sched.readyQueue)) ∧
    (s.sched.phase = .finish → ∀ t, step s = .next t → t.failure = none → t.sched.current = none ∧
      (s.cfg.displayStep = .identity → t.mem = s.mem) ∧
      t.sched.idleCycles = s.sched.idleCycles + s.sched.downcount.toNat ∧ t.sched.now = s.sched.now + s.sched.downcount.toNat ∧
      t.sched.consumed = s.sched.consumed + s.sched.downcount.toNat)

/-- O57 (R637, R638, R640, R708, R709, R710, R711, R712, R713). A notified callback, an enabled interrupt record of the first pending
entry and an alarm entry enter their handler: the whole ProcessorState is saved, the caller-saved registers are poisoned, a0 to a2 are
the arguments of its kind, ra the trampoline, pc the handler, nothing pending, and every other register, byte and the enable are as
before (which callbacks of a list run, log entry 22; the phases, log entry 16). Reaching the trampoline restores the saved
ProcessorState in full and keeps memory. With interrupts disabled, tested before each entry (log entry 21), the queue is kept; an
entry without an enabled record is dropped. -/
def Obligations.HandlersEnterAndReturn : Prop :=
  (∀ (s : State) (entered : State → Word → Word → Word → Word → Prop),
    (∀ t handler a0 a1 a2, entered t handler a0 a1 a2 ↔
      (t.sched.nested = some s.cpu ∧ t.cpu.pc = handler ∧ t.pending = false ∧ t.mem = s.mem ∧ FprSame s t ∧ VprSame s t ∧
      VcSame s t ∧ FlagsSame s t ∧ t.cpu.hi = 0xDEADBEEF#32 ∧ t.cpu.lo = 0xDEADBEEF#32 ∧ t.sched.intrEnabled = s.sched.intrEnabled ∧
      ∀ r : GReg, t.x r = if r = 4#5 then a0 else if r = 5#5 then a1 else if r = 6#5 then a2
        else if r = 31#5 then s.cfg.handlerReturnAddr
        else if r.toNat ∈ [1, 7, 8, 9, 10, 11, 12, 13, 14, 15, 24, 25] then 0xDEADBEEF#32 else s.x r)) →
    s.failure = none → s.refused = none → s.sched.nested = none →
    (∀ u rest c, s.sched.phase = .callbacks (u :: rest) → s.callback? u = some c → ∃ t, step s = .next t ∧
      entered t c.handler (BitVec.ofNat 32 c.notifyCount) c.notifyArg c.arg) ∧
    (∀ n e rest, s.sched.phase = .interrupts (n + 1) → s.sched.pendingIntr = e :: rest →
      (s.sched.intrEnabled = false → ∃ t, step s = .next t ∧ t.sched.pendingIntr = e :: rest ∧ t.sched.nested = none ∧
        t.cpu = s.cpu ∧ t.mem = s.mem ∧ t.sched.phase = .reevaluate) ∧
      (s.sched.intrEnabled = true →
        (∀ num sub h, e = .interrupt num sub → s.intrHandler? num sub = some h → h.enabled = true → ∃ t, step s = .next t ∧
          t.sched.pendingIntr = rest ∧ entered t h.handler sub h.arg 0#32) ∧
        (∀ num sub, e = .interrupt num sub → (∀ h, s.intrHandler? num sub = some h → h.enabled = false) → ∃ t, step s = .next t ∧
          t.sched.pendingIntr = rest ∧ t.sched.nested = none ∧ t.cpu = s.cpu ∧ t.mem = s.mem) ∧
        ∀ handler arg, e = .alarm handler arg → ∃ t, step s = .next t ∧ t.sched.pendingIntr = rest ∧
          entered t handler arg 0#32 0#32))) ∧
  ∀ (s : State) (saved : ProcessorState), s.failure = none → s.refused = none → s.sched.nested = some saved →
    s.cpu.pc = s.cfg.handlerReturnAddr → s.pending = false → ∃ t, step s = .next t ∧ t.cpu = saved ∧ t.sched.nested = none ∧
      t.mem = s.mem ∧ t.sched.intrEnabled = s.sched.intrEnabled ∧ t.sched.threads = s.sched.threads ∧
      ∀ u rest c, s.sched.phase = .callbacks (u :: rest) → s.callback? u = some c →
        t.sched.phase = .callbacks rest ∧ t.callback? u = some { c with notifyCount := 0 }

/-- O58 (R642, R626, R648, R649, R650, R678, R686, R640). For a WAITING thread that is not current, with room in the ready queue: its
condition is that of its wait type (a wakeup, the delay passed, the count, the pattern matched, the awaited thread DORMANT,
EXT_WAIT_DONE); when it holds, the thread is released with the value of its type in its saved x[2] (OK, the exit status,
EXT_WAIT_RESULT) and its side effect (the wakeup or count taken, the old bits reported and the bits cleared, a bad report address, a
misaligned one too, failing with DATA_ADDRESS, log entry 18, and the live pc recorded, log entry 17); else, past its deadline, it is
released with the timeout code and no effect; else nothing changes. A released record has its wait and deadline cleared (log entry
31). Then the expired alarms move to pendingIntr in order of deadline, ties in order of creation. -/
def Obligations.WaitReevaluation : Prop :=
  (∀ (s : State) (u : Word) (th : PSPThread) (holds : Prop), s.thread? u = some th → s.sched.current ≠ some u →
    s.sched.readyQueue.length < s.cfg.readyCapacity → s.failure = none →
    (holds ↔ (th.wait = .sleep ∧ 0 < th.wakeupCount) ∨ (th.wait = .delay ∧ ∃ d, th.deadline = some d ∧ d ≤ s.sched.now) ∨
      (∃ q need o, th.wait = .sema q need ∧ s.sema? q = some o ∧ need ≤ o.count) ∨
      (∃ q m mode out o, th.wait = .eventFlag q m mode out ∧ s.eventFlag? q = some o ∧
        if mode.getLsbD 0 then o.bits &&& m ≠ 0#32 else o.bits &&& m = m) ∨
      (∃ v w, th.wait = .threadEnd v ∧ s.thread? v = some w ∧ w.status = .dormant) ∨
      ∃ id, th.wait = .external id ∧ Config.extWaitDone id s = true) →
    (holds → th.wait = .sleep →
      ∃ t, reevaluateOne u s = .next t ∧ Released u { th with wakeupCount := th.wakeupCount - 1 } s.cfg.err.ok s t ∧ t.mem = s.mem ∧
        t.sched.semaphores = s.sched.semaphores ∧ t.sched.eventFlags = s.sched.eventFlags) ∧
    (holds → th.wait = .delay →
      ∃ t, reevaluateOne u s = .next t ∧ Released u th s.cfg.err.ok s t ∧ t.mem = s.mem ∧
        t.sched.semaphores = s.sched.semaphores ∧ t.sched.eventFlags = s.sched.eventFlags) ∧
    (∀ q need o, holds → th.wait = .sema q need → s.sema? q = some o →
      ∃ t, reevaluateOne u s = .next t ∧ Released u th s.cfg.err.ok s t ∧ t.mem = s.mem ∧
        t.sched.eventFlags = s.sched.eventFlags ∧
        ∀ w, t.sema? w = if w = q then some { o with count := o.count - need } else s.sema? w) ∧
    (∀ q m mode out o, holds → th.wait = .eventFlag q m mode out → s.eventFlag? q = some o →
      (out = 0#32 ∨ Accessible s out 4 4 →
        ∃ t, reevaluateOne u s = .next t ∧ Released u th s.cfg.err.ok s t ∧ 
        t.mem = (if out = 0#32 then s.mem else (s.storeWord out o.bits).mem) ∧
        t.sched.semaphores = s.sched.semaphores ∧ ∀ w, t.eventFlag? w = if w = q then some { o with
          bits := if mode.getLsbD 4 then 0#32 else if mode.getLsbD 5 then o.bits &&& ~~~m else o.bits } else s.eventFlag? w) ∧
      (out ≠ 0#32 → ¬ Accessible s out 4 4 →
        reevaluateOne u s = .next { s with failure := some ⟨.dataAddress, s.cpu.pc, 0#32, out⟩ })) ∧
    (∀ v w, holds → th.wait = .threadEnd v → s.thread? v = some w →
      ∃ t, reevaluateOne u s = .next t ∧ Released u th w.exitStatus s t ∧ t.mem = s.mem ∧
        t.sched.semaphores = s.sched.semaphores ∧ t.sched.eventFlags = s.sched.eventFlags) ∧
    (∀ id, holds → th.wait = .external id →
      ∃ t, reevaluateOne u s = .next t ∧ Released u th (Config.extWaitResult id) s t ∧ t.mem = s.mem ∧
        t.sched.semaphores = s.sched.semaphores ∧ t.sched.eventFlags = s.sched.eventFlags) ∧
    (∀ d, ¬ holds → th.deadline = some d → d ≤ s.sched.now →
      ∃ t, reevaluateOne u s = .next t ∧ Released u th s.cfg.err.waitTimeout s t ∧ t.mem = s.mem ∧
        t.sched.semaphores = s.sched.semaphores ∧ t.sched.eventFlags = s.sched.eventFlags) ∧
    (¬ holds → (∀ d, th.deadline = some d → s.sched.now < d) → reevaluateOne u s = .next s)) ∧
  ∀ (s : State) (expired : List Alarm), s.failure = none → s.refused = none → s.sched.nested = none → s.sched.phase = .reevaluate →
    expired = s.sched.alarms.filter (fun o => o.deadline ≤ s.sched.now) →
    (s.sched.waitingList = [] → ∃ t, step s = .next t ∧ t.failure = none ∧ t.cpu = s.cpu ∧ t.mem = s.mem) ∧
    ∀ t, step s = .next t → t.failure = none → t.sched.phase = .finish ∧
      t.sched.alarms = s.sched.alarms.filter (fun o => s.sched.now < o.deadline) ∧
      ∃ l : List Alarm, l.Perm expired ∧ (l.Pairwise fun o p => o.deadline ≤ p.deadline) ∧
        (∀ d, l.filter (fun o => o.deadline = d) = expired.filter fun o => o.deadline = d) ∧
        t.sched.pendingIntr = s.sched.pendingIntr ++ l.map fun o => .alarm o.handler o.arg

/-- O59 (R668, R669, R670, R671, R673, R674, R675, R676, R677, R678, R679, R681). Each command changes the object its UID names, or adds
one under a fresh UID, answers in x[2], and changes nothing else: an unknown UID only writes ERR_UNKNOWN_UID; an illegal count or mode
its error; an object with a waiter is not deleted (refused). waitSema and waitEventFlag (and their CB forms) outside a nested run take
the count, or report and clear the bits, when the condition holds at the call, else block the caller with the deadline of their
timeout word, which is read at the call in both cases (log entries 19, 39) and fails with DATA_ADDRESS at a bad address (log entry
18); the poll forms answer an error instead of blocking. The blocked record is as log entry 31 says. -/
def Obligations.SemaphoreAndEventFlagCommands : Prop :=
  ∀ (s : State) (a : CommandArgs), s.failure = none →
    ((a.a2.toInt < 0 ∨ a.a3.toInt ≤ 0 ∨ a.a3.toInt < a.a2.toInt) → ∃ t, runCommand .createSema a s = .next t ∧ Answered s.cfg.err.illegalCount s t ∧ t.sched = s.sched) ∧
    (0 ≤ a.a2.toInt → 0 < a.a3.toInt → a.a2.toInt ≤ a.a3.toInt → s.sched.uids.length < 2 ^ 31 - 1 →
      ∃ t u, runCommand .createSema a s = .next t ∧ Answered u s t ∧ Issued u s t ∧
        { t.sched with semaphores := s.sched.semaphores, uids := s.sched.uids } = s.sched ∧
        t.sched.semaphores = s.sched.semaphores ++ [⟨u, a.a2.toInt, a.a3.toInt⟩]) ∧
    (s.sched.uids.length < 2 ^ 31 - 1 → ∃ t u, runCommand .createEventFlag a s = .next t ∧ Answered u s t ∧ Issued u s t ∧
        { t.sched with eventFlags := s.sched.eventFlags, uids := s.sched.uids } = s.sched ∧
        t.sched.eventFlags = s.sched.eventFlags ++ [⟨u, a.a2⟩]) ∧
    (s.sema? a.a0 = none →
      (∀ k, k ∈ ([.signalSema, .pollSema, .deleteSema] : List Command) → ∃ t, runCommand k a s = .next t ∧ Answered s.cfg.err.unknownUid s t ∧ t.sched = s.sched) ∧
      ∀ c, s.currentThread? = some c → s.sched.nested = none → ∀ k, k ∈ ([.waitSema, .waitSemaCB] : List Command) →
        ∃ t, runCommand k a s = .next t ∧ Answered s.cfg.err.unknownUid s t ∧ t.sched = s.sched) ∧
    (s.eventFlag? a.a0 = none →
      (∀ k, k ∈ ([.setEventFlag, .clearEventFlag, .pollEventFlag, .deleteEventFlag] : List Command) →
        ∃ t, runCommand k a s = .next t ∧ Answered s.cfg.err.unknownUid s t ∧ t.sched = s.sched) ∧
      ∀ c, s.currentThread? = some c → s.sched.nested = none → ∀ k, k ∈ ([.waitEventFlag, .waitEventFlagCB] : List Command) →
        ∃ t, runCommand k a s = .next t ∧ Answered s.cfg.err.unknownUid s t ∧ t.sched = s.sched) ∧
    (∀ o, s.sema? a.a0 = some o →
      ((∃ th need, th ∈ s.sched.threads ∧ th.status = .waiting ∧ th.wait = .sema a.a0 need) →
        runCommand .deleteSema a s = .refused .unmodelledKernelCase) ∧
      ((∀ th need, th ∈ s.sched.threads → th.status = .waiting → th.wait ≠ .sema a.a0 need) →
        ∃ t, runCommand .deleteSema a s = .next t ∧ Answered s.cfg.err.ok s t ∧ { t.sched with semaphores := s.sched.semaphores } = s.sched ∧
        ∀ u, t.sema? u = if u = a.a0 then none else s.sema? u) ∧
      (a.a1.toInt < 0 → ∃ t, runCommand .signalSema a s = .next t ∧ Answered s.cfg.err.illegalCount s t ∧ t.sched = s.sched) ∧
      (0 ≤ a.a1.toInt → o.maxCount < o.count + a.a1.toInt → ∃ t, runCommand .signalSema a s = .next t ∧ Answered s.cfg.err.semaOvf s t ∧ t.sched = s.sched) ∧
      (0 ≤ a.a1.toInt → o.count + a.a1.toInt ≤ o.maxCount →
        ∃ t, runCommand .signalSema a s = .next t ∧ Answered s.cfg.err.ok s t ∧ { t.sched with semaphores := s.sched.semaphores } = s.sched ∧
        ∀ u, t.sema? u = if u = a.a0 then some { o with count := o.count + a.a1.toInt } else s.sema? u) ∧
      (a.a1.toInt ≤ 0 → ∃ t, runCommand .pollSema a s = .next t ∧ Answered s.cfg.err.illegalCount s t ∧ t.sched = s.sched) ∧
      (0 < a.a1.toInt → o.count < a.a1.toInt → ∃ t, runCommand .pollSema a s = .next t ∧ Answered s.cfg.err.semaZero s t ∧ t.sched = s.sched) ∧
      (0 < a.a1.toInt → a.a1.toInt ≤ o.count →
        ∃ t, runCommand .pollSema a s = .next t ∧ Answered s.cfg.err.ok s t ∧ { t.sched with semaphores := s.sched.semaphores } = s.sched ∧
        ∀ u, t.sema? u = if u = a.a0 then some { o with count := o.count - a.a1.toInt } else s.sema? u) ∧
      ∀ c, s.currentThread? = some c → s.sched.nested = none → ∀ k cb, (k = .waitSema ∧ cb = false) ∨ (k = .waitSemaCB ∧ cb = true) →
        ((a.a1.toInt ≤ 0 ∨ o.maxCount < a.a1.toInt) → ∃ t, runCommand k a s = .next t ∧ Answered s.cfg.err.illegalCount s t ∧ t.sched = s.sched) ∧
        (0 < a.a1.toInt → a.a1.toInt ≤ o.maxCount →
          (∀ dl, TimeoutIs s a.a2 dl →
            (a.a1.toInt ≤ o.count → ∃ t, runCommand k a s = .next t ∧ Answered s.cfg.err.ok s t ∧ { t.sched with semaphores := s.sched.semaphores } = s.sched ∧
        ∀ u, t.sema? u = if u = a.a0 then some { o with count := o.count - a.a1.toInt } else s.sema? u) ∧
            (o.count < a.a1.toInt → ∃ t, runCommand k a s = .next t ∧ Blocked c (.sema a.a0 a.a1.toInt) dl cb s t)) ∧
          (a.a2 ≠ 0#32 → ¬ Accessible s a.a2 4 4 → ∃ t, runCommand k a s = .next t ∧ FatalOnly .dataAddress a.a2 s t))) ∧
    ∀ (o : EventFlag) (legal hit : Prop), s.eventFlag? a.a0 = some o →
      (legal ↔ a.a2 ∈ ([0x00#32, 0x01#32, 0x10#32, 0x11#32, 0x20#32, 0x21#32] : List Word)) →
      (hit ↔ if a.a2.getLsbD 0 then o.bits &&& a.a1 ≠ 0#32 else o.bits &&& a.a1 = a.a1) →
      ((∃ th m mode out, th ∈ s.sched.threads ∧ th.status = .waiting ∧ th.wait = .eventFlag a.a0 m mode out) →
        runCommand .deleteEventFlag a s = .refused .unmodelledKernelCase) ∧
      ((∀ th m mode out, th ∈ s.sched.threads → th.status = .waiting → th.wait ≠ .eventFlag a.a0 m mode out) →
        ∃ t, runCommand .deleteEventFlag a s = .next t ∧ Answered s.cfg.err.ok s t ∧ { t.sched with eventFlags := s.sched.eventFlags } = s.sched ∧
        ∀ u, t.eventFlag? u = if u = a.a0 then none else s.eventFlag? u) ∧
      (∃ t, runCommand .setEventFlag a s = .next t ∧ Answered s.cfg.err.ok s t ∧ { t.sched with eventFlags := s.sched.eventFlags } = s.sched ∧
        ∀ u, t.eventFlag? u = if u = a.a0 then some { o with bits := o.bits ||| a.a1 } else s.eventFlag? u) ∧
      (∃ t, runCommand .clearEventFlag a s = .next t ∧ Answered s.cfg.err.ok s t ∧ { t.sched with eventFlags := s.sched.eventFlags } = s.sched ∧
        ∀ u, t.eventFlag? u = if u = a.a0 then some { o with bits := o.bits &&& a.a1 } else s.eventFlag? u) ∧
      (¬ legal → ∃ t, runCommand .pollEventFlag a s = .next t ∧ Answered s.cfg.err.illegalMode s t ∧ t.sched = s.sched) ∧
      (legal → ¬ hit → ∃ t, runCommand .pollEventFlag a s = .next t ∧ Answered s.cfg.err.evfCond s t ∧ t.sched = s.sched) ∧
      (legal → hit →
        (a.a3 = 0#32 ∨ Accessible s a.a3 4 4 → ∃ t, runCommand .pollEventFlag a s = .next t ∧ Answered s.cfg.err.ok s { t with mem := s.mem } ∧
          t.mem = (if a.a3 = 0#32 then s.mem else (s.storeWord a.a3 o.bits).mem) ∧ { t.sched with eventFlags := s.sched.eventFlags } = s.sched ∧
        ∀ u, t.eventFlag? u = if u = a.a0 then some { o with
          bits := if a.a2.getLsbD 4 then 0#32 else if a.a2.getLsbD 5 then o.bits &&& ~~~a.a1 else o.bits } else s.eventFlag? u) ∧
        (a.a3 ≠ 0#32 → ¬ Accessible s a.a3 4 4 → ∃ t, runCommand .pollEventFlag a s = .next t ∧ FatalOnly .dataAddress a.a3 s t)) ∧
      ∀ c, s.currentThread? = some c → s.sched.nested = none → ∀ k cb, (k = .waitEventFlag ∧ cb = false) ∨ (k = .waitEventFlagCB ∧ cb = true) →
        (¬ legal → ∃ t, runCommand k a s = .next t ∧ Answered s.cfg.err.illegalMode s t ∧ t.sched = s.sched) ∧
        (legal →
          (∀ dl, TimeoutIs s a.a4 dl →
            (hit → a.a3 = 0#32 ∨ Accessible s a.a3 4 4 → ∃ t, runCommand k a s = .next t ∧ Answered s.cfg.err.ok s { t with mem := s.mem } ∧
          t.mem = (if a.a3 = 0#32 then s.mem else (s.storeWord a.a3 o.bits).mem) ∧ { t.sched with eventFlags := s.sched.eventFlags } = s.sched ∧
        ∀ u, t.eventFlag? u = if u = a.a0 then some { o with
          bits := if a.a2.getLsbD 4 then 0#32 else if a.a2.getLsbD 5 then o.bits &&& ~~~a.a1 else o.bits } else s.eventFlag? u) ∧
            (hit → a.a3 ≠ 0#32 → ¬ Accessible s a.a3 4 4 → ∃ t, runCommand k a s = .next t ∧ FatalOnly .dataAddress a.a3 s t) ∧
            (¬ hit → ∃ t, runCommand k a s = .next t ∧ Blocked c (.eventFlag a.a0 a.a1 a.a2 a.a3) dl cb s t)) ∧
          (a.a4 ≠ 0#32 → ¬ Accessible s a.a4 4 4 → ∃ t, runCommand k a s = .next t ∧ FatalOnly .dataAddress a.a4 s t))

/-- O60 (R654, R655, R656, R657, R658, R660, R661, R662, R663, R664, R665, R695). createThread adds a DORMANT record under a fresh UID
(R621), with its stack from STACK_ALLOC, which overlaps that of no thread in the table, a DORMANT or an empty one included (log entry
12), or answers an error; startThread seeds the context and makes the thread READY; deleteThread destroys a DORMANT thread and its
callbacks, and is refused while another waits for its end (also if it was started, log entry 45); wakeupThread counts a wakeup of a
thread that is not DORMANT. Outside a nested run with a current thread: sleepThread (with callbacks: R661) takes a wakeup and answers
OK, or blocks (R653); delayThread (with callbacks: R664) blocks until the cycles of its microseconds after its own step (log entry 39;
the floor also for 0, log entry 40); waitThreadEnd answers the exit status of a DORMANT thread or blocks with its timeout, the word
read at the call in both cases (log entry 19) and a bad address, a misaligned one too, failing with DATA_ADDRESS (log entry 18);
exitThread and exitDeleteThread make the caller DORMANT with its status and keep x[2]. Inside a nested run these are refused (whatever
the thread and its state, log entry 20). The records of waits are as log entry 31 says. -/
def Obligations.ThreadCommands : Prop :=
  ∀ (s : State) (a : CommandArgs), s.failure = none →
    (¬(0x08 ≤ a.a2.toNat ∧ a.a2.toNat ≤ 0x77) → ∃ t, runCommand .createThread a s = .next t ∧ Answered s.cfg.err.illegalPriority s t ∧ t.sched = s.sched) ∧
    (∀ n, 0x08 ≤ a.a2.toNat → a.a2.toNat ≤ 0x77 → n = (a.a3.toNat + 255) / 256 * 256 →
      (s.allocStack n = none → ∃ t, runCommand .createThread a s = .next t ∧ Answered s.cfg.err.noMemory s t ∧ t.sched = s.sched) ∧
      ∀ base, s.allocStack n = some base →
        (∃ w, w ∈ s.cfg.windows ∧ w.kind = .userRam ∧ w.base ≤ base.toNat ∧ base.toNat + n ≤ w.base + w.size) ∧
        (∀ th, th ∈ s.sched.threads →
          base.toNat + n ≤ th.stackBottom.toNat ∨ th.stackBottom.toNat + th.stackSize.toNat ≤ base.toNat) ∧
        (s.sched.uids.length < 2 ^ 31 - 1 → ∃ t u ctx, runCommand .createThread a s = .next t ∧ Answered u s t ∧ Issued u s t ∧
          { t.sched with threads := s.sched.threads, uids := s.sched.uids } = s.sched ∧
          t.sched.threads = s.sched.threads ++ [
          { uid := u, ctx := ctx, status := .dormant, priority := a.a2.toNat, wait := .none, deadline := none
            stackBottom := base, stackSize := BitVec.ofNat 32 n, entry := a.a1, deletePending := false, callbackPending := false
            wakeupCount := 0, gp := s.x 28#5, started := false, exitStatus := 0#32 }])) ∧
    (s.thread? a.a0 = none →
      ∃ t, runCommand .startThread a s = .next t ∧ Answered s.cfg.err.unknownUid s t ∧ t.sched = s.sched) ∧
    (∀ th, s.thread? a.a0 = some th →
      (th.status ≠ .dormant → ∃ t, runCommand .startThread a s = .next t ∧ Answered s.cfg.err.notDormant s t ∧ t.sched = s.sched) ∧
      (th.status = .dormant → th.started = true → runCommand .startThread a s = .refused .unmodelledKernelCase) ∧
      (th.status = .dormant → th.started = false → s.cfg.readyCapacity ≤ s.sched.readyQueue.length →
        runCommand .startThread a s = .refused .unmodelledKernelCase) ∧
      (th.status = .dormant → th.started = false → s.sched.readyQueue.length < s.cfg.readyCapacity →
        ∃ t ctx, runCommand .startThread a s = .next t ∧ Answered s.cfg.err.ok s t ∧ 
          t.thread? a.a0 = some { th with ctx := ctx, status := .ready, started := true } ∧
          (∀ v, v ≠ a.a0 → t.thread? v = s.thread? v) ∧ { t.sched with threads := s.sched.threads, readyQueue := s.sched.readyQueue } = s.sched ∧
          t.sched.readyQueue = insertReady s.priorityOf a.a0 th.priority s.sched.readyQueue ∧ ctx.pc = th.entry ∧
          ctx.gpr[0] = 0#32 ∧ ctx.gpr[4] = a.a1 ∧ ctx.gpr[5] = a.a2 ∧ ctx.gpr[28] = th.gp ∧
          ctx.gpr[29] = th.stackBottom + th.stackSize ∧ ctx.gpr[31] = s.cfg.threadExitAddr ∧ ctx.vfpuCtrl = resetVfpuCtrl ∧
          ctx.fcr31 = 0#32 ∧ ctx.fpcond = false ∧ ctx.llBit = false ∧
          (s.cfg.resetRegPolicy = .zero → ctx.hi = 0#32 ∧ ctx.lo = 0#32 ∧ (∀ r : FReg, ctx.fpr[r.toNat] = 0#32) ∧
            (∀ r : VReg, ctx.vpr[r.toNat] = 0#32) ∧
            ∀ r : GReg, r.toNat ∉ [4, 5, 28, 29, 31] → ctx.gpr[r.toNat] = 0#32))) ∧
    (s.sched.nested = none →
      (s.thread? a.a0 = none → ∃ t, runCommand .deleteThread a s = .next t ∧ Answered s.cfg.err.unknownUid s t ∧ t.sched = s.sched) ∧
      ∀ th, s.thread? a.a0 = some th →
        (th.status ≠ .dormant → ∃ t, runCommand .deleteThread a s = .next t ∧ Answered s.cfg.err.notDormant s t ∧ t.sched = s.sched) ∧
        (th.status = .dormant → (∃ w, w ∈ s.sched.threads ∧ w.status = .waiting ∧ w.wait = .threadEnd a.a0) →
          runCommand .deleteThread a s = .refused .unmodelledKernelCase) ∧
        (th.status = .dormant → (∀ w, w ∈ s.sched.threads → w.status = .waiting → w.wait ≠ .threadEnd a.a0) →
          ∃ t, runCommand .deleteThread a s = .next t ∧ Answered s.cfg.err.ok s t ∧ 
            (∀ v, t.thread? v = if v = a.a0 then none else s.thread? v) ∧
            t.sched.readyQueue = (s.sched.readyQueue.filter fun v => v ≠ a.a0) ∧
            t.sched.waitingList = (s.sched.waitingList.filter fun v => v ≠ a.a0) ∧
            t.sched.callbacks = (s.sched.callbacks.filter fun q => q.owner ≠ a.a0) ∧
            { t.sched with threads := s.sched.threads, readyQueue := s.sched.readyQueue, waitingList := s.sched.waitingList, callbacks := s.sched.callbacks } = s.sched)) ∧
    (a.a0 ≠ 0#32 → s.thread? a.a0 = none → ∃ t, runCommand .wakeupThread a s = .next t ∧ Answered s.cfg.err.unknownUid s t ∧ t.sched = s.sched) ∧
    (∀ th, (a.a0 ≠ 0#32 ∧ s.thread? a.a0 = some th) ∨ (a.a0 = 0#32 ∧ s.currentThread? = some th) →
      (th.status = .dormant → ∃ t, runCommand .wakeupThread a s = .next t ∧ Answered s.cfg.err.dormant s t ∧ t.sched = s.sched) ∧
      (th.status ≠ .dormant →
        ∃ t, runCommand .wakeupThread a s = .next t ∧ Answered s.cfg.err.ok s t ∧ OnlyThread th.uid { th with wakeupCount := th.wakeupCount + 1 } s t)) ∧
    (∀ c, s.currentThread? = some c → s.sched.nested = none →
      (∀ k cb, (k = .sleepThread ∧ cb = false) ∨ (k = .sleepThreadCB ∧ cb = true) →
        (0 < c.wakeupCount → ∃ t, runCommand k a s = .next t ∧ Answered s.cfg.err.ok s t ∧ OnlyThread c.uid { c with
          wakeupCount := c.wakeupCount - 1, callbackPending := c.callbackPending || cb } s t) ∧
        (c.wakeupCount = 0 → ∃ t, runCommand k a s = .next t ∧ Blocked c .sleep none cb s t)) ∧
      (∀ k cb, (k = .delayThread ∧ cb = false) ∨ (k = .delayThreadCB ∧ cb = true) → ∀ n, IsCycles s.cfg a.a0.toNat n →
        ∃ t, runCommand k a s = .next t ∧ Blocked c .delay (some (s.sched.now + s.cfg.cyclesPerInsn + n)) cb s t) ∧
      (a.a0 ≠ 0#32 → s.thread? a.a0 = none → ∃ t, runCommand .waitThreadEnd a s = .next t ∧ Answered s.cfg.err.unknownUid s t ∧ t.sched = s.sched) ∧
      (∀ th, (a.a0 ≠ 0#32 ∧ s.thread? a.a0 = some th) ∨ (a.a0 = 0#32 ∧ s.currentThread? = some th) →
        (∀ dl, TimeoutIs s a.a1 dl →
          (th.status = .dormant → ∃ t, runCommand .waitThreadEnd a s = .next t ∧ Answered th.exitStatus s t ∧ t.sched = s.sched) ∧
          (th.status ≠ .dormant → ∃ t, runCommand .waitThreadEnd a s = .next t ∧ Blocked c (.threadEnd th.uid) dl false s t)) ∧
        (a.a1 ≠ 0#32 → ¬ Accessible s a.a1 4 4 →
          ∃ t, runCommand .waitThreadEnd a s = .next t ∧ FatalOnly .dataAddress a.a1 s t)) ∧
      ∀ k del, (k = .exitThread ∧ del = false) ∨ (k = .exitDeleteThread ∧ del = true) →
        ∃ t, runCommand k a s = .next t ∧ CoreSame s t ∧ t.mem = s.mem ∧ OnlyThread c.uid { c with
          status := .dormant, exitStatus := a.a0, deletePending := c.deletePending || del } s t) ∧
    (s.sched.nested ≠ none → ∀ k, k ∈ ([.sleepThread, .sleepThreadCB, .delayThread, .delayThreadCB, .waitThreadEnd, .exitThread,
      .exitDeleteThread, .deleteThread, .waitSema, .waitSemaCB, .waitEventFlag, .waitEventFlagCB] : List Command) →
      runCommand k a s = .refused .unmodelledKernelCase)

end Slice0Statements
end

