-- ==== Sys2Proof/Laws/Encode.lean ====
section
/-! SUPPORT. Laws/Encode.lean: each field of a word laid out by a format of the encoder is the field that was put there. -/

namespace Sys2Proof

open Sys2Proof

@[simp] theorem fRs_encR (op : BitVec 6) (rs rt rd sa : BitVec 5) (funct : BitVec 6) :
    fRs (encR op rs rt rd sa funct) = rs := by
  unfold fRs encR
  apply BitVec.eq_of_getLsbD_eq
  intro i hi
  rw [BitVec.getLsbD_extractLsb']
  repeat rw [BitVec.getLsbD_append]
  interval_cases i <;> rfl

@[simp] theorem fRt_encR (op : BitVec 6) (rs rt rd sa : BitVec 5) (funct : BitVec 6) :
    fRt (encR op rs rt rd sa funct) = rt := by
  unfold fRt encR
  apply BitVec.eq_of_getLsbD_eq
  intro i hi
  rw [BitVec.getLsbD_extractLsb']
  repeat rw [BitVec.getLsbD_append]
  interval_cases i <;> rfl

@[simp] theorem fRd_encR (op : BitVec 6) (rs rt rd sa : BitVec 5) (funct : BitVec 6) :
    fRd (encR op rs rt rd sa funct) = rd := by
  unfold fRd encR
  apply BitVec.eq_of_getLsbD_eq
  intro i hi
  rw [BitVec.getLsbD_extractLsb']
  repeat rw [BitVec.getLsbD_append]
  interval_cases i <;> rfl

@[simp] theorem fSa_encR (op : BitVec 6) (rs rt rd sa : BitVec 5) (funct : BitVec 6) :
    fSa (encR op rs rt rd sa funct) = sa := by
  unfold fSa encR
  apply BitVec.eq_of_getLsbD_eq
  intro i hi
  rw [BitVec.getLsbD_extractLsb']
  repeat rw [BitVec.getLsbD_append]
  interval_cases i <;> rfl

@[simp] theorem fFunct_encR (op : BitVec 6) (rs rt rd sa : BitVec 5) (funct : BitVec 6) :
    fFunct (encR op rs rt rd sa funct) = funct := by
  unfold fFunct encR
  apply BitVec.eq_of_getLsbD_eq
  intro i hi
  rw [BitVec.getLsbD_extractLsb']
  repeat rw [BitVec.getLsbD_append]
  interval_cases i <;> rfl

@[simp] theorem fOp_encR (op : BitVec 6) (rs rt rd sa : BitVec 5) (funct : BitVec 6) :
    fOp (encR op rs rt rd sa funct) = op := by
  unfold fOp encR
  apply BitVec.eq_of_getLsbD_eq
  intro i hi
  rw [BitVec.getLsbD_extractLsb']
  repeat rw [BitVec.getLsbD_append]
  interval_cases i <;> rfl

@[simp] theorem fBit6_encR (op : BitVec 6) (rs rt rd sa : BitVec 5) (funct : BitVec 6) :
    fBit6 (encR op rs rt rd sa funct) = sa.extractLsb' 0 1 := by
  unfold fBit6 encR
  apply BitVec.eq_of_getLsbD_eq
  intro i hi
  rw [BitVec.getLsbD_extractLsb']
  repeat rw [BitVec.getLsbD_append]
  interval_cases i; simp

@[simp] theorem fBit21_encR (op : BitVec 6) (rs rt rd sa : BitVec 5) (funct : BitVec 6) :
    fBit21 (encR op rs rt rd sa funct) = rs.extractLsb' 0 1 := by
  unfold fBit21 encR
  apply BitVec.eq_of_getLsbD_eq
  intro i hi
  rw [BitVec.getLsbD_extractLsb']
  repeat rw [BitVec.getLsbD_append]
  interval_cases i; simp

@[simp] theorem fRs_encI (op : BitVec 6) (rs rt : BitVec 5) (imm : Half) :
    fRs (encI op rs rt imm) = rs := by
  unfold fRs encI
  apply BitVec.eq_of_getLsbD_eq
  intro i hi
  rw [BitVec.getLsbD_extractLsb']
  repeat rw [BitVec.getLsbD_append]
  interval_cases i <;> rfl

@[simp] theorem fRt_encI (op : BitVec 6) (rs rt : BitVec 5) (imm : Half) :
    fRt (encI op rs rt imm) = rt := by
  unfold fRt encI
  apply BitVec.eq_of_getLsbD_eq
  intro i hi
  rw [BitVec.getLsbD_extractLsb']
  repeat rw [BitVec.getLsbD_append]
  interval_cases i <;> rfl

@[simp] theorem fOp_encI (op : BitVec 6) (rs rt : BitVec 5) (imm : Half) :
    fOp (encI op rs rt imm) = op := by
  unfold fOp encI
  apply BitVec.eq_of_getLsbD_eq
  intro i hi
  rw [BitVec.getLsbD_extractLsb']
  repeat rw [BitVec.getLsbD_append]
  interval_cases i <;> rfl

@[simp] theorem fImm_encI (op : BitVec 6) (rs rt : BitVec 5) (imm : Half) :
    fImm (encI op rs rt imm) = imm := by
  unfold fImm encI
  apply BitVec.eq_of_getLsbD_eq
  intro i hi
  rw [BitVec.getLsbD_extractLsb']
  repeat rw [BitVec.getLsbD_append]
  interval_cases i <;> rfl

@[simp] theorem fBit21_encI (op : BitVec 6) (rs rt : BitVec 5) (imm : Half) :
    fBit21 (encI op rs rt imm) = rs.extractLsb' 0 1 := by
  unfold fBit21 encI
  apply BitVec.eq_of_getLsbD_eq
  intro i hi
  rw [BitVec.getLsbD_extractLsb']
  repeat rw [BitVec.getLsbD_append]
  interval_cases i; simp

@[simp] theorem fOp_encJ (op : BitVec 6) (target : BitVec 26) :
    fOp (encJ op target) = op := by
  unfold fOp encJ
  apply BitVec.eq_of_getLsbD_eq
  intro i hi
  rw [BitVec.getLsbD_extractLsb']
  repeat rw [BitVec.getLsbD_append]
  interval_cases i <;> rfl

@[simp] theorem fTarget_encJ (op : BitVec 6) (target : BitVec 26) :
    fTarget (encJ op target) = target := by
  unfold fTarget encJ
  apply BitVec.eq_of_getLsbD_eq
  intro i hi
  rw [BitVec.getLsbD_extractLsb']
  repeat rw [BitVec.getLsbD_append]
  interval_cases i <;> rfl

@[simp] theorem fFunct_encCode (op : BitVec 6) (code : BitVec 20) (funct : BitVec 6) :
    fFunct (encCode op code funct) = funct := by
  unfold fFunct encCode
  apply BitVec.eq_of_getLsbD_eq
  intro i hi
  rw [BitVec.getLsbD_extractLsb']
  repeat rw [BitVec.getLsbD_append]
  interval_cases i <;> rfl

@[simp] theorem fOp_encCode (op : BitVec 6) (code : BitVec 20) (funct : BitVec 6) :
    fOp (encCode op code funct) = op := by
  unfold fOp encCode
  apply BitVec.eq_of_getLsbD_eq
  intro i hi
  rw [BitVec.getLsbD_extractLsb']
  repeat rw [BitVec.getLsbD_append]
  interval_cases i <;> rfl

@[simp] theorem fCode_encCode (op : BitVec 6) (code : BitVec 20) (funct : BitVec 6) :
    fCode (encCode op code funct) = code := by
  unfold fCode encCode
  apply BitVec.eq_of_getLsbD_eq
  intro i hi
  rw [BitVec.getLsbD_extractLsb']
  repeat rw [BitVec.getLsbD_append]
  interval_cases i <;> rfl

@[simp] theorem fRs_encBranch (op : BitVec 6) (sub : BitVec 5) (cc : BitVec 3) (tf : BitVec 2) (imm : Half) :
    fRs (encBranch op sub cc tf imm) = sub := by
  unfold fRs encBranch
  apply BitVec.eq_of_getLsbD_eq
  intro i hi
  rw [BitVec.getLsbD_extractLsb']
  repeat rw [BitVec.getLsbD_append]
  interval_cases i <;> rfl

@[simp] theorem fOp_encBranch (op : BitVec 6) (sub : BitVec 5) (cc : BitVec 3) (tf : BitVec 2) (imm : Half) :
    fOp (encBranch op sub cc tf imm) = op := by
  unfold fOp encBranch
  apply BitVec.eq_of_getLsbD_eq
  intro i hi
  rw [BitVec.getLsbD_extractLsb']
  repeat rw [BitVec.getLsbD_append]
  interval_cases i <;> rfl

@[simp] theorem fImm_encBranch (op : BitVec 6) (sub : BitVec 5) (cc : BitVec 3) (tf : BitVec 2) (imm : Half) :
    fImm (encBranch op sub cc tf imm) = imm := by
  unfold fImm encBranch
  apply BitVec.eq_of_getLsbD_eq
  intro i hi
  rw [BitVec.getLsbD_extractLsb']
  repeat rw [BitVec.getLsbD_append]
  interval_cases i <;> rfl

@[simp] theorem fCc_encBranch (op : BitVec 6) (sub : BitVec 5) (cc : BitVec 3) (tf : BitVec 2) (imm : Half) :
    fCc (encBranch op sub cc tf imm) = cc := by
  unfold fCc encBranch
  apply BitVec.eq_of_getLsbD_eq
  intro i hi
  rw [BitVec.getLsbD_extractLsb']
  repeat rw [BitVec.getLsbD_append]
  interval_cases i <;> rfl

@[simp] theorem fTf_encBranch (op : BitVec 6) (sub : BitVec 5) (cc : BitVec 3) (tf : BitVec 2) (imm : Half) :
    fTf (encBranch op sub cc tf imm) = tf := by
  unfold fTf encBranch
  apply BitVec.eq_of_getLsbD_eq
  intro i hi
  rw [BitVec.getLsbD_extractLsb']
  repeat rw [BitVec.getLsbD_append]
  interval_cases i <;> rfl

@[simp] theorem fRs_encCop2 (op : BitVec 6) (sub rt : BitVec 5) (idx : BitVec 8) :
    fRs (encCop2 op sub rt idx) = sub := by
  unfold fRs encCop2
  apply BitVec.eq_of_getLsbD_eq
  intro i hi
  rw [BitVec.getLsbD_extractLsb']
  repeat rw [BitVec.getLsbD_append]
  interval_cases i <;> rfl

@[simp] theorem fRt_encCop2 (op : BitVec 6) (sub rt : BitVec 5) (idx : BitVec 8) :
    fRt (encCop2 op sub rt idx) = rt := by
  unfold fRt encCop2
  apply BitVec.eq_of_getLsbD_eq
  intro i hi
  rw [BitVec.getLsbD_extractLsb']
  repeat rw [BitVec.getLsbD_append]
  interval_cases i <;> rfl

@[simp] theorem fOp_encCop2 (op : BitVec 6) (sub rt : BitVec 5) (idx : BitVec 8) :
    fOp (encCop2 op sub rt idx) = op := by
  unfold fOp encCop2
  apply BitVec.eq_of_getLsbD_eq
  intro i hi
  rw [BitVec.getLsbD_extractLsb']
  repeat rw [BitVec.getLsbD_append]
  interval_cases i <;> rfl

@[simp] theorem fIdx_encCop2 (op : BitVec 6) (sub rt : BitVec 5) (idx : BitVec 8) :
    fIdx (encCop2 op sub rt idx) = idx := by
  unfold fIdx encCop2
  apply BitVec.eq_of_getLsbD_eq
  intro i hi
  rw [BitVec.getLsbD_extractLsb']
  repeat rw [BitVec.getLsbD_append]
  interval_cases i <;> rfl

@[simp] theorem fVd_encCop2 (op : BitVec 6) (sub rt : BitVec 5) (idx : BitVec 8) :
    fVd (encCop2 op sub rt idx) = idx.extractLsb' 0 7 := by
  unfold fVd encCop2
  apply BitVec.eq_of_getLsbD_eq
  intro i hi
  rw [BitVec.getLsbD_extractLsb']
  repeat rw [BitVec.getLsbD_append]
  interval_cases i <;> simp

@[simp] theorem fBit7_encCop2 (op : BitVec 6) (sub rt : BitVec 5) (idx : BitVec 8) :
    fBit7 (encCop2 op sub rt idx) = idx.extractLsb' 7 1 := by
  unfold fBit7 encCop2
  apply BitVec.eq_of_getLsbD_eq
  intro i hi
  rw [BitVec.getLsbD_extractLsb']
  repeat rw [BitVec.getLsbD_append]
  interval_cases i; simp

@[simp] theorem fOp_encV3 (op : BitVec 6) (sub : BitVec 3) (vt : VReg) (hi : BitVec 1) (vs : VReg) (lo : BitVec 1) (vd : VReg) :
    fOp (encV3 op sub vt hi vs lo vd) = op := by
  unfold fOp encV3
  apply BitVec.eq_of_getLsbD_eq
  intro i hi
  rw [BitVec.getLsbD_extractLsb']
  repeat rw [BitVec.getLsbD_append]
  interval_cases i <;> rfl

@[simp] theorem fVd_encV3 (op : BitVec 6) (sub : BitVec 3) (vt : VReg) (hi : BitVec 1) (vs : VReg) (lo : BitVec 1) (vd : VReg) :
    fVd (encV3 op sub vt hi vs lo vd) = vd := by
  unfold fVd encV3
  apply BitVec.eq_of_getLsbD_eq
  intro i hi
  rw [BitVec.getLsbD_extractLsb']
  repeat rw [BitVec.getLsbD_append]
  interval_cases i <;> rfl

@[simp] theorem fVs_encV3 (op : BitVec 6) (sub : BitVec 3) (vt : VReg) (hi : BitVec 1) (vs : VReg) (lo : BitVec 1) (vd : VReg) :
    fVs (encV3 op sub vt hi vs lo vd) = vs := by
  unfold fVs encV3
  apply BitVec.eq_of_getLsbD_eq
  intro i hi
  rw [BitVec.getLsbD_extractLsb']
  repeat rw [BitVec.getLsbD_append]
  interval_cases i <;> rfl

@[simp] theorem fVt_encV3 (op : BitVec 6) (sub : BitVec 3) (vt : VReg) (hi : BitVec 1) (vs : VReg) (lo : BitVec 1) (vd : VReg) :
    fVt (encV3 op sub vt hi vs lo vd) = vt := by
  unfold fVt encV3
  apply BitVec.eq_of_getLsbD_eq
  intro i hi
  rw [BitVec.getLsbD_extractLsb']
  repeat rw [BitVec.getLsbD_append]
  interval_cases i <;> rfl

@[simp] theorem fSub3_encV3 (op : BitVec 6) (sub : BitVec 3) (vt : VReg) (hi : BitVec 1) (vs : VReg) (lo : BitVec 1) (vd : VReg) :
    fSub3 (encV3 op sub vt hi vs lo vd) = sub := by
  unfold fSub3 encV3
  apply BitVec.eq_of_getLsbD_eq
  intro i hi
  rw [BitVec.getLsbD_extractLsb']
  repeat rw [BitVec.getLsbD_append]
  interval_cases i <;> rfl

@[simp] theorem fSub2_encV3 (op : BitVec 6) (sub : BitVec 3) (vt : VReg) (hi : BitVec 1) (vs : VReg) (lo : BitVec 1) (vd : VReg) :
    fSub2 (encV3 op sub vt hi vs lo vd) = sub.extractLsb' 1 2 := by
  unfold fSub2 encV3
  apply BitVec.eq_of_getLsbD_eq
  intro i hi
  rw [BitVec.getLsbD_extractLsb']
  repeat rw [BitVec.getLsbD_append]
  interval_cases i <;> simp

@[simp] theorem fCond_encV3 (op : BitVec 6) (sub : BitVec 3) (vt : VReg) (hi : BitVec 1) (vs : VReg) (lo : BitVec 1) (vd : VReg) :
    fCond (encV3 op sub vt hi vs lo vd) = vd.extractLsb' 0 4 := by
  unfold fCond encV3
  apply BitVec.eq_of_getLsbD_eq
  intro i hi
  rw [BitVec.getLsbD_extractLsb']
  repeat rw [BitVec.getLsbD_append]
  interval_cases i <;> simp

@[simp] theorem fBit7_encV3 (op : BitVec 6) (sub : BitVec 3) (vt : VReg) (hi : BitVec 1) (vs : VReg) (lo : BitVec 1) (vd : VReg) :
    fBit7 (encV3 op sub vt hi vs lo vd) = lo := by
  unfold fBit7 encV3
  apply BitVec.eq_of_getLsbD_eq
  intro i hi
  rw [BitVec.getLsbD_extractLsb']
  repeat rw [BitVec.getLsbD_append]
  interval_cases i; rfl

@[simp] theorem fBit15_encV3 (op : BitVec 6) (sub : BitVec 3) (vt : VReg) (hi : BitVec 1) (vs : VReg) (lo : BitVec 1) (vd : VReg) :
    fBit15 (encV3 op sub vt hi vs lo vd) = hi := by
  unfold fBit15 encV3
  apply BitVec.eq_of_getLsbD_eq
  intro i hi
  rw [BitVec.getLsbD_extractLsb']
  repeat rw [BitVec.getLsbD_append]
  interval_cases i; rfl

@[simp] theorem fMset_encV3 (op : BitVec 6) (sub : BitVec 3) (vt : VReg) (hi : BitVec 1) (vs : VReg) (lo : BitVec 1) (vd : VReg) :
    fMset (encV3 op sub vt hi vs lo vd) = vt.extractLsb' 5 2 := by
  unfold fMset encV3
  apply BitVec.eq_of_getLsbD_eq
  intro i hi
  rw [BitVec.getLsbD_extractLsb']
  repeat rw [BitVec.getLsbD_append]
  interval_cases i <;> simp

@[simp] theorem fMsel_encV3 (op : BitVec 6) (sub : BitVec 3) (vt : VReg) (hi : BitVec 1) (vs : VReg) (lo : BitVec 1) (vd : VReg) :
    fMsel (encV3 op sub vt hi vs lo vd) = vt.extractLsb' 0 4 := by
  unfold fMsel encV3
  apply BitVec.eq_of_getLsbD_eq
  intro i hi
  rw [BitVec.getLsbD_extractLsb']
  repeat rw [BitVec.getLsbD_append]
  interval_cases i <;> simp

@[simp] theorem fRs_encV4 (op : BitVec 6) (j code : BitVec 5) (hi : BitVec 1) (vs : VReg) (lo : BitVec 1) (vd : VReg) :
    fRs (encV4 op j code hi vs lo vd) = j := by
  unfold fRs encV4
  apply BitVec.eq_of_getLsbD_eq
  intro i hi
  rw [BitVec.getLsbD_extractLsb']
  repeat rw [BitVec.getLsbD_append]
  interval_cases i <;> rfl

@[simp] theorem fRt_encV4 (op : BitVec 6) (j code : BitVec 5) (hi : BitVec 1) (vs : VReg) (lo : BitVec 1) (vd : VReg) :
    fRt (encV4 op j code hi vs lo vd) = code := by
  unfold fRt encV4
  apply BitVec.eq_of_getLsbD_eq
  intro i hi
  rw [BitVec.getLsbD_extractLsb']
  repeat rw [BitVec.getLsbD_append]
  interval_cases i <;> rfl

@[simp] theorem fOp_encV4 (op : BitVec 6) (j code : BitVec 5) (hi : BitVec 1) (vs : VReg) (lo : BitVec 1) (vd : VReg) :
    fOp (encV4 op j code hi vs lo vd) = op := by
  unfold fOp encV4
  apply BitVec.eq_of_getLsbD_eq
  intro i hi
  rw [BitVec.getLsbD_extractLsb']
  repeat rw [BitVec.getLsbD_append]
  interval_cases i <;> rfl

@[simp] theorem fVd_encV4 (op : BitVec 6) (j code : BitVec 5) (hi : BitVec 1) (vs : VReg) (lo : BitVec 1) (vd : VReg) :
    fVd (encV4 op j code hi vs lo vd) = vd := by
  unfold fVd encV4
  apply BitVec.eq_of_getLsbD_eq
  intro i hi
  rw [BitVec.getLsbD_extractLsb']
  repeat rw [BitVec.getLsbD_append]
  interval_cases i <;> rfl

@[simp] theorem fVs_encV4 (op : BitVec 6) (j code : BitVec 5) (hi : BitVec 1) (vs : VReg) (lo : BitVec 1) (vd : VReg) :
    fVs (encV4 op j code hi vs lo vd) = vs := by
  unfold fVs encV4
  apply BitVec.eq_of_getLsbD_eq
  intro i hi
  rw [BitVec.getLsbD_extractLsb']
  repeat rw [BitVec.getLsbD_append]
  interval_cases i <;> rfl

@[simp] theorem fSub3_encV4 (op : BitVec 6) (j code : BitVec 5) (hi : BitVec 1) (vs : VReg) (lo : BitVec 1) (vd : VReg) :
    fSub3 (encV4 op j code hi vs lo vd) = j.extractLsb' 2 3 := by
  unfold fSub3 encV4
  apply BitVec.eq_of_getLsbD_eq
  intro i hi
  rw [BitVec.getLsbD_extractLsb']
  repeat rw [BitVec.getLsbD_append]
  interval_cases i <;> simp

@[simp] theorem fSub2_encV4 (op : BitVec 6) (j code : BitVec 5) (hi : BitVec 1) (vs : VReg) (lo : BitVec 1) (vd : VReg) :
    fSub2 (encV4 op j code hi vs lo vd) = j.extractLsb' 3 2 := by
  unfold fSub2 encV4
  apply BitVec.eq_of_getLsbD_eq
  intro i hi
  rw [BitVec.getLsbD_extractLsb']
  repeat rw [BitVec.getLsbD_append]
  interval_cases i <;> simp

@[simp] theorem fImm3_encV4 (op : BitVec 6) (j code : BitVec 5) (hi : BitVec 1) (vs : VReg) (lo : BitVec 1) (vd : VReg) :
    fImm3 (encV4 op j code hi vs lo vd) = code.extractLsb' 0 3 := by
  unfold fImm3 encV4
  apply BitVec.eq_of_getLsbD_eq
  intro i hi
  rw [BitVec.getLsbD_extractLsb']
  repeat rw [BitVec.getLsbD_append]
  interval_cases i <;> simp

@[simp] theorem fBit7_encV4 (op : BitVec 6) (j code : BitVec 5) (hi : BitVec 1) (vs : VReg) (lo : BitVec 1) (vd : VReg) :
    fBit7 (encV4 op j code hi vs lo vd) = lo := by
  unfold fBit7 encV4
  apply BitVec.eq_of_getLsbD_eq
  intro i hi
  rw [BitVec.getLsbD_extractLsb']
  repeat rw [BitVec.getLsbD_append]
  interval_cases i; rfl

@[simp] theorem fBit15_encV4 (op : BitVec 6) (j code : BitVec 5) (hi : BitVec 1) (vs : VReg) (lo : BitVec 1) (vd : VReg) :
    fBit15 (encV4 op j code hi vs lo vd) = hi := by
  unfold fBit15 encV4
  apply BitVec.eq_of_getLsbD_eq
  intro i hi
  rw [BitVec.getLsbD_extractLsb']
  repeat rw [BitVec.getLsbD_append]
  interval_cases i; rfl

@[simp] theorem fBit19_encV4 (op : BitVec 6) (j code : BitVec 5) (hi : BitVec 1) (vs : VReg) (lo : BitVec 1) (vd : VReg) :
    fBit19 (encV4 op j code hi vs lo vd) = code.extractLsb' 3 1 := by
  unfold fBit19 encV4
  apply BitVec.eq_of_getLsbD_eq
  intro i hi
  rw [BitVec.getLsbD_extractLsb']
  repeat rw [BitVec.getLsbD_append]
  interval_cases i; simp

@[simp] theorem fMset_encV4 (op : BitVec 6) (j code : BitVec 5) (hi : BitVec 1) (vs : VReg) (lo : BitVec 1) (vd : VReg) :
    fMset (encV4 op j code hi vs lo vd) = j.extractLsb' 0 2 := by
  unfold fMset encV4
  apply BitVec.eq_of_getLsbD_eq
  intro i hi
  rw [BitVec.getLsbD_extractLsb']
  repeat rw [BitVec.getLsbD_append]
  interval_cases i <;> simp

@[simp] theorem fMsel_encV4 (op : BitVec 6) (j code : BitVec 5) (hi : BitVec 1) (vs : VReg) (lo : BitVec 1) (vd : VReg) :
    fMsel (encV4 op j code hi vs lo vd) = code.extractLsb' 0 4 := by
  unfold fMsel encV4
  apply BitVec.eq_of_getLsbD_eq
  intro i hi
  rw [BitVec.getLsbD_extractLsb']
  repeat rw [BitVec.getLsbD_append]
  interval_cases i <;> simp

@[simp] theorem fRs_encCmov (op : BitVec 6) (j : BitVec 5) (tf : BitVec 1) (imm3 : BitVec 3) (hi : BitVec 1) (vs : VReg) (lo : BitVec 1) (vd : VReg) :
    fRs (encCmov op j tf imm3 hi vs lo vd) = j := by
  unfold fRs encCmov
  apply BitVec.eq_of_getLsbD_eq
  intro i hi
  rw [BitVec.getLsbD_extractLsb']
  repeat rw [BitVec.getLsbD_append]
  interval_cases i <;> rfl

@[simp] theorem fOp_encCmov (op : BitVec 6) (j : BitVec 5) (tf : BitVec 1) (imm3 : BitVec 3) (hi : BitVec 1) (vs : VReg) (lo : BitVec 1) (vd : VReg) :
    fOp (encCmov op j tf imm3 hi vs lo vd) = op := by
  unfold fOp encCmov
  apply BitVec.eq_of_getLsbD_eq
  intro i hi
  rw [BitVec.getLsbD_extractLsb']
  repeat rw [BitVec.getLsbD_append]
  interval_cases i <;> rfl

@[simp] theorem fVd_encCmov (op : BitVec 6) (j : BitVec 5) (tf : BitVec 1) (imm3 : BitVec 3) (hi : BitVec 1) (vs : VReg) (lo : BitVec 1) (vd : VReg) :
    fVd (encCmov op j tf imm3 hi vs lo vd) = vd := by
  unfold fVd encCmov
  apply BitVec.eq_of_getLsbD_eq
  intro i hi
  rw [BitVec.getLsbD_extractLsb']
  repeat rw [BitVec.getLsbD_append]
  interval_cases i <;> rfl

@[simp] theorem fVs_encCmov (op : BitVec 6) (j : BitVec 5) (tf : BitVec 1) (imm3 : BitVec 3) (hi : BitVec 1) (vs : VReg) (lo : BitVec 1) (vd : VReg) :
    fVs (encCmov op j tf imm3 hi vs lo vd) = vs := by
  unfold fVs encCmov
  apply BitVec.eq_of_getLsbD_eq
  intro i hi
  rw [BitVec.getLsbD_extractLsb']
  repeat rw [BitVec.getLsbD_append]
  interval_cases i <;> rfl

@[simp] theorem fSub3_encCmov (op : BitVec 6) (j : BitVec 5) (tf : BitVec 1) (imm3 : BitVec 3) (hi : BitVec 1) (vs : VReg) (lo : BitVec 1) (vd : VReg) :
    fSub3 (encCmov op j tf imm3 hi vs lo vd) = j.extractLsb' 2 3 := by
  unfold fSub3 encCmov
  apply BitVec.eq_of_getLsbD_eq
  intro i hi
  rw [BitVec.getLsbD_extractLsb']
  repeat rw [BitVec.getLsbD_append]
  interval_cases i <;> simp

@[simp] theorem fSub2_encCmov (op : BitVec 6) (j : BitVec 5) (tf : BitVec 1) (imm3 : BitVec 3) (hi : BitVec 1) (vs : VReg) (lo : BitVec 1) (vd : VReg) :
    fSub2 (encCmov op j tf imm3 hi vs lo vd) = j.extractLsb' 3 2 := by
  unfold fSub2 encCmov
  apply BitVec.eq_of_getLsbD_eq
  intro i hi
  rw [BitVec.getLsbD_extractLsb']
  repeat rw [BitVec.getLsbD_append]
  interval_cases i <;> simp

@[simp] theorem fImm3_encCmov (op : BitVec 6) (j : BitVec 5) (tf : BitVec 1) (imm3 : BitVec 3) (hi : BitVec 1) (vs : VReg) (lo : BitVec 1) (vd : VReg) :
    fImm3 (encCmov op j tf imm3 hi vs lo vd) = imm3 := by
  unfold fImm3 encCmov
  apply BitVec.eq_of_getLsbD_eq
  intro i hi
  rw [BitVec.getLsbD_extractLsb']
  repeat rw [BitVec.getLsbD_append]
  interval_cases i <;> rfl

@[simp] theorem fBit7_encCmov (op : BitVec 6) (j : BitVec 5) (tf : BitVec 1) (imm3 : BitVec 3) (hi : BitVec 1) (vs : VReg) (lo : BitVec 1) (vd : VReg) :
    fBit7 (encCmov op j tf imm3 hi vs lo vd) = lo := by
  unfold fBit7 encCmov
  apply BitVec.eq_of_getLsbD_eq
  intro i hi
  rw [BitVec.getLsbD_extractLsb']
  repeat rw [BitVec.getLsbD_append]
  interval_cases i; rfl

@[simp] theorem fBit15_encCmov (op : BitVec 6) (j : BitVec 5) (tf : BitVec 1) (imm3 : BitVec 3) (hi : BitVec 1) (vs : VReg) (lo : BitVec 1) (vd : VReg) :
    fBit15 (encCmov op j tf imm3 hi vs lo vd) = hi := by
  unfold fBit15 encCmov
  apply BitVec.eq_of_getLsbD_eq
  intro i hi
  rw [BitVec.getLsbD_extractLsb']
  repeat rw [BitVec.getLsbD_append]
  interval_cases i; rfl

@[simp] theorem fBit19_encCmov (op : BitVec 6) (j : BitVec 5) (tf : BitVec 1) (imm3 : BitVec 3) (hi : BitVec 1) (vs : VReg) (lo : BitVec 1) (vd : VReg) :
    fBit19 (encCmov op j tf imm3 hi vs lo vd) = tf := by
  unfold fBit19 encCmov
  apply BitVec.eq_of_getLsbD_eq
  intro i hi
  rw [BitVec.getLsbD_extractLsb']
  repeat rw [BitVec.getLsbD_append]
  interval_cases i; rfl

@[simp] theorem fOp_encWbn (op : BitVec 6) (sub : BitVec 2) (imm8 : BitVec 8) (hi : BitVec 1) (vs : VReg) (lo : BitVec 1) (vd : VReg) :
    fOp (encWbn op sub imm8 hi vs lo vd) = op := by
  unfold fOp encWbn
  apply BitVec.eq_of_getLsbD_eq
  intro i hi
  rw [BitVec.getLsbD_extractLsb']
  repeat rw [BitVec.getLsbD_append]
  interval_cases i <;> rfl

@[simp] theorem fVd_encWbn (op : BitVec 6) (sub : BitVec 2) (imm8 : BitVec 8) (hi : BitVec 1) (vs : VReg) (lo : BitVec 1) (vd : VReg) :
    fVd (encWbn op sub imm8 hi vs lo vd) = vd := by
  unfold fVd encWbn
  apply BitVec.eq_of_getLsbD_eq
  intro i hi
  rw [BitVec.getLsbD_extractLsb']
  repeat rw [BitVec.getLsbD_append]
  interval_cases i <;> rfl

@[simp] theorem fVs_encWbn (op : BitVec 6) (sub : BitVec 2) (imm8 : BitVec 8) (hi : BitVec 1) (vs : VReg) (lo : BitVec 1) (vd : VReg) :
    fVs (encWbn op sub imm8 hi vs lo vd) = vs := by
  unfold fVs encWbn
  apply BitVec.eq_of_getLsbD_eq
  intro i hi
  rw [BitVec.getLsbD_extractLsb']
  repeat rw [BitVec.getLsbD_append]
  interval_cases i <;> rfl

@[simp] theorem fSub2_encWbn (op : BitVec 6) (sub : BitVec 2) (imm8 : BitVec 8) (hi : BitVec 1) (vs : VReg) (lo : BitVec 1) (vd : VReg) :
    fSub2 (encWbn op sub imm8 hi vs lo vd) = sub := by
  unfold fSub2 encWbn
  apply BitVec.eq_of_getLsbD_eq
  intro i hi
  rw [BitVec.getLsbD_extractLsb']
  repeat rw [BitVec.getLsbD_append]
  interval_cases i <;> rfl

@[simp] theorem fImm8_encWbn (op : BitVec 6) (sub : BitVec 2) (imm8 : BitVec 8) (hi : BitVec 1) (vs : VReg) (lo : BitVec 1) (vd : VReg) :
    fImm8 (encWbn op sub imm8 hi vs lo vd) = imm8 := by
  unfold fImm8 encWbn
  apply BitVec.eq_of_getLsbD_eq
  intro i hi
  rw [BitVec.getLsbD_extractLsb']
  repeat rw [BitVec.getLsbD_append]
  interval_cases i <;> rfl

@[simp] theorem fBit7_encWbn (op : BitVec 6) (sub : BitVec 2) (imm8 : BitVec 8) (hi : BitVec 1) (vs : VReg) (lo : BitVec 1) (vd : VReg) :
    fBit7 (encWbn op sub imm8 hi vs lo vd) = lo := by
  unfold fBit7 encWbn
  apply BitVec.eq_of_getLsbD_eq
  intro i hi
  rw [BitVec.getLsbD_extractLsb']
  repeat rw [BitVec.getLsbD_append]
  interval_cases i; rfl

@[simp] theorem fBit15_encWbn (op : BitVec 6) (sub : BitVec 2) (imm8 : BitVec 8) (hi : BitVec 1) (vs : VReg) (lo : BitVec 1) (vd : VReg) :
    fBit15 (encWbn op sub imm8 hi vs lo vd) = hi := by
  unfold fBit15 encWbn
  apply BitVec.eq_of_getLsbD_eq
  intro i hi
  rw [BitVec.getLsbD_extractLsb']
  repeat rw [BitVec.getLsbD_append]
  interval_cases i; rfl

@[simp] theorem fOp_encPfx (op : BitVec 6) (sub : BitVec 2) (data : BitVec 20) :
    fOp (encPfx op sub data) = op := by
  unfold fOp encPfx
  apply BitVec.eq_of_getLsbD_eq
  intro i hi
  rw [BitVec.getLsbD_extractLsb']
  repeat rw [BitVec.getLsbD_append]
  interval_cases i <;> rfl

@[simp] theorem fSub2_encPfx (op : BitVec 6) (sub : BitVec 2) (data : BitVec 20) :
    fSub2 (encPfx op sub data) = sub := by
  unfold fSub2 encPfx
  apply BitVec.eq_of_getLsbD_eq
  intro i hi
  rw [BitVec.getLsbD_extractLsb']
  repeat rw [BitVec.getLsbD_append]
  interval_cases i <;> rfl

@[simp] theorem fData20_encPfx (op : BitVec 6) (sub : BitVec 2) (data : BitVec 20) :
    fData20 (encPfx op sub data) = data := by
  unfold fData20 encPfx
  apply BitVec.eq_of_getLsbD_eq
  intro i hi
  rw [BitVec.getLsbD_extractLsb']
  repeat rw [BitVec.getLsbD_append]
  interval_cases i <;> rfl

@[simp] theorem fData12_encPfx (op : BitVec 6) (sub : BitVec 2) (data : BitVec 20) :
    fData12 (encPfx op sub data) = data.extractLsb' 0 12 := by
  unfold fData12 encPfx
  apply BitVec.eq_of_getLsbD_eq
  intro i hi
  rw [BitVec.getLsbD_extractLsb']
  repeat rw [BitVec.getLsbD_append]
  interval_cases i <;> simp

@[simp] theorem fOp_encVim (op : BitVec 6) (sub : BitVec 3) (vt : VReg) (imm16 : Half) :
    fOp (encVim op sub vt imm16) = op := by
  unfold fOp encVim
  apply BitVec.eq_of_getLsbD_eq
  intro i hi
  rw [BitVec.getLsbD_extractLsb']
  repeat rw [BitVec.getLsbD_append]
  interval_cases i <;> rfl

@[simp] theorem fImm_encVim (op : BitVec 6) (sub : BitVec 3) (vt : VReg) (imm16 : Half) :
    fImm (encVim op sub vt imm16) = imm16 := by
  unfold fImm encVim
  apply BitVec.eq_of_getLsbD_eq
  intro i hi
  rw [BitVec.getLsbD_extractLsb']
  repeat rw [BitVec.getLsbD_append]
  interval_cases i <;> rfl

@[simp] theorem fVt_encVim (op : BitVec 6) (sub : BitVec 3) (vt : VReg) (imm16 : Half) :
    fVt (encVim op sub vt imm16) = vt := by
  unfold fVt encVim
  apply BitVec.eq_of_getLsbD_eq
  intro i hi
  rw [BitVec.getLsbD_extractLsb']
  repeat rw [BitVec.getLsbD_append]
  interval_cases i <;> rfl

@[simp] theorem fSub3_encVim (op : BitVec 6) (sub : BitVec 3) (vt : VReg) (imm16 : Half) :
    fSub3 (encVim op sub vt imm16) = sub := by
  unfold fSub3 encVim
  apply BitVec.eq_of_getLsbD_eq
  intro i hi
  rw [BitVec.getLsbD_extractLsb']
  repeat rw [BitVec.getLsbD_append]
  interval_cases i <;> rfl

@[simp] theorem fSub2_encVim (op : BitVec 6) (sub : BitVec 3) (vt : VReg) (imm16 : Half) :
    fSub2 (encVim op sub vt imm16) = sub.extractLsb' 1 2 := by
  unfold fSub2 encVim
  apply BitVec.eq_of_getLsbD_eq
  intro i hi
  rw [BitVec.getLsbD_extractLsb']
  repeat rw [BitVec.getLsbD_append]
  interval_cases i <;> simp

@[simp] theorem fRs_encVMem (op : BitVec 6) (rs vt5 : BitVec 5) (off : BitVec 14) (low : BitVec 2) :
    fRs (encVMem op rs vt5 off low) = rs := by
  unfold fRs encVMem
  apply BitVec.eq_of_getLsbD_eq
  intro i hi
  rw [BitVec.getLsbD_extractLsb']
  repeat rw [BitVec.getLsbD_append]
  interval_cases i <;> rfl

@[simp] theorem fRt_encVMem (op : BitVec 6) (rs vt5 : BitVec 5) (off : BitVec 14) (low : BitVec 2) :
    fRt (encVMem op rs vt5 off low) = vt5 := by
  unfold fRt encVMem
  apply BitVec.eq_of_getLsbD_eq
  intro i hi
  rw [BitVec.getLsbD_extractLsb']
  repeat rw [BitVec.getLsbD_append]
  interval_cases i <;> rfl

@[simp] theorem fOp_encVMem (op : BitVec 6) (rs vt5 : BitVec 5) (off : BitVec 14) (low : BitVec 2) :
    fOp (encVMem op rs vt5 off low) = op := by
  unfold fOp encVMem
  apply BitVec.eq_of_getLsbD_eq
  intro i hi
  rw [BitVec.getLsbD_extractLsb']
  repeat rw [BitVec.getLsbD_append]
  interval_cases i <;> rfl

@[simp] theorem fOff_encVMem (op : BitVec 6) (rs vt5 : BitVec 5) (off : BitVec 14) (low : BitVec 2) :
    fOff (encVMem op rs vt5 off low) = off := by
  unfold fOff encVMem
  apply BitVec.eq_of_getLsbD_eq
  intro i hi
  rw [BitVec.getLsbD_extractLsb']
  repeat rw [BitVec.getLsbD_append]
  interval_cases i <;> rfl

@[simp] theorem fVthi2_encVMem (op : BitVec 6) (rs vt5 : BitVec 5) (off : BitVec 14) (low : BitVec 2) :
    fVthi2 (encVMem op rs vt5 off low) = low := by
  unfold fVthi2 encVMem
  apply BitVec.eq_of_getLsbD_eq
  intro i hi
  rw [BitVec.getLsbD_extractLsb']
  repeat rw [BitVec.getLsbD_append]
  interval_cases i <;> rfl

@[simp] theorem fVthi1_encVMem (op : BitVec 6) (rs vt5 : BitVec 5) (off : BitVec 14) (low : BitVec 2) :
    fVthi1 (encVMem op rs vt5 off low) = low.extractLsb' 0 1 := by
  unfold fVthi1 encVMem
  apply BitVec.eq_of_getLsbD_eq
  intro i hi
  rw [BitVec.getLsbD_extractLsb']
  repeat rw [BitVec.getLsbD_append]
  interval_cases i; simp

@[simp] theorem fBit1_encVMem (op : BitVec 6) (rs vt5 : BitVec 5) (off : BitVec 14) (low : BitVec 2) :
    fBit1 (encVMem op rs vt5 off low) = low.extractLsb' 1 1 := by
  unfold fBit1 encVMem
  apply BitVec.eq_of_getLsbD_eq
  intro i hi
  rw [BitVec.getLsbD_extractLsb']
  repeat rw [BitVec.getLsbD_append]
  interval_cases i; simp

/-- The size that a word's two size bits give (30_encoding.md R124). -/
@[simp] theorem Size.ofBits_hi_lo (sz : Size) : Size.ofBits sz.hi sz.lo = sz := by cases sz <;> rfl

end Sys2Proof
end

