-- ==== Sys2Proof/Laws/State.lean ====
section
/-! SUPPORT. Laws/State.lean: one lemma per field per update of the state, and what each write of a register makes the same register read
as. Every later proof rewrites with these and unfolds no record update. -/

namespace Sys2Proof.Machine

open Sys2Proof

/-! ### A register after a write of its own file -/

/-- Register 0 reads 0 (10_state.md R32). -/
@[simp] theorem State.x_zero (s : State) : s.x 0#5 = 0#32 := by simp [State.x]

/-- Any register after a write of `x[i]`: a write of register 0 is discarded. -/
theorem State.setX_x (s : State) (i : GReg) (v : Word) (r : GReg) :
    (s.setX i v).x r = if r = i ∧ i ≠ 0#5 then v else s.x r := by
  unfold State.setX State.x
  by_cases hi : i = 0#5
  · simp [hi]
  · by_cases hr : r = 0#5
    · subst hr
      simp [hi, Ne.symm hi]
    · by_cases h : r = i
      · subst h
        simp [hr]
      · have h' : i.toNat ≠ r.toNat := fun e => h (BitVec.eq_of_toNat_eq e.symm)
        simp [hi, hr, h, Vector.getElem_set_ne _ _ h']

/-- The written register. -/
@[simp] theorem State.setX_x_self (s : State) (i : GReg) (v : Word) : (s.setX i v).x i = if i = 0#5 then 0#32 else v := by
  rw [State.setX_x]
  by_cases h : i = 0#5 <;> simp [h]

/-- Every other register. -/
theorem State.setX_x_of_ne (s : State) {i r : GReg} (v : Word) (h : r ≠ i) : (s.setX i v).x r = s.x r := by
  simp [State.setX_x, h]

/-- A COP1 register after a write. -/
theorem State.setF_f (s : State) (i : FReg) (v : Word) (r : FReg) : (s.setF i v).f r = if r = i then v else s.f r := by
  unfold State.setF State.f
  by_cases h : r = i
  · subst h
    simp
  · have h' : i.toNat ≠ r.toNat := fun e => h (BitVec.eq_of_toNat_eq e.symm)
    simp [h, Vector.getElem_set_ne _ _ h']

/-- A VFPU slot after a write. -/
theorem State.setVr_vr (s : State) (i : VReg) (v : Word) (k : VReg) : (s.setVr i v).vr k = if k = i then v else s.vr k := by
  unfold State.setVr State.vr
  by_cases h : k = i
  · subst h
    simp
  · have h' : i.toNat ≠ k.toNat := fun e => h (BitVec.eq_of_toNat_eq e.symm)
    simp [h, Vector.getElem_set_ne _ _ h']

/-- A VFPU control register after a write. -/
theorem State.setVc_vc (s : State) (i : CReg) (v : Word) (k : CReg) : (s.setVc i v).vc k = if k = i then v else s.vc k := by
  unfold State.setVc State.vc
  by_cases h : k = i
  · subst h
    simp
  · have h' : i.val ≠ k.val := fun e => h (Fin.ext e.symm)
    simp [h, Vector.getElem_set_ne _ _ h']

/-! ### `setX` -/

@[simp] theorem State.setX_f (s : State) (i : GReg) (v : Word) (r : FReg) : (s.setX i v).f r = s.f r := by unfold State.setX; split <;> rfl
@[simp] theorem State.setX_vr (s : State) (i : GReg) (v : Word) (k : VReg) : (s.setX i v).vr k = s.vr k := by unfold State.setX; split <;> rfl
@[simp] theorem State.setX_vc (s : State) (i : GReg) (v : Word) (k : CReg) : (s.setX i v).vc k = s.vc k := by unfold State.setX; split <;> rfl
@[simp] theorem State.setX_hi (s : State) (i : GReg) (v : Word) : (s.setX i v).cpu.hi = s.cpu.hi := by unfold State.setX; split <;> rfl
@[simp] theorem State.setX_lo (s : State) (i : GReg) (v : Word) : (s.setX i v).cpu.lo = s.cpu.lo := by unfold State.setX; split <;> rfl
@[simp] theorem State.setX_pc (s : State) (i : GReg) (v : Word) : (s.setX i v).cpu.pc = s.cpu.pc := by unfold State.setX; split <;> rfl
@[simp] theorem State.setX_fcr31 (s : State) (i : GReg) (v : Word) : (s.setX i v).cpu.fcr31 = s.cpu.fcr31 := by unfold State.setX; split <;> rfl
@[simp] theorem State.setX_fpcond (s : State) (i : GReg) (v : Word) : (s.setX i v).cpu.fpcond = s.cpu.fpcond := by unfold State.setX; split <;> rfl
@[simp] theorem State.setX_llBit (s : State) (i : GReg) (v : Word) : (s.setX i v).cpu.llBit = s.cpu.llBit := by unfold State.setX; split <;> rfl
@[simp] theorem State.setX_branchPC (s : State) (i : GReg) (v : Word) : (s.setX i v).cpu.branchPC = s.cpu.branchPC := by unfold State.setX; split <;> rfl
@[simp] theorem State.setX_requiredBranching (s : State) (i : GReg) (v : Word) : (s.setX i v).cpu.requiredBranching = s.cpu.requiredBranching := by unfold State.setX; split <;> rfl
@[simp] theorem State.setX_requiredJumping (s : State) (i : GReg) (v : Word) : (s.setX i v).cpu.requiredJumping = s.cpu.requiredJumping := by unfold State.setX; split <;> rfl
@[simp] theorem State.setX_mem (s : State) (i : GReg) (v : Word) : (s.setX i v).mem = s.mem := by unfold State.setX; split <;> rfl
@[simp] theorem State.setX_failure (s : State) (i : GReg) (v : Word) : (s.setX i v).failure = s.failure := by unfold State.setX; split <;> rfl
@[simp] theorem State.setX_refused (s : State) (i : GReg) (v : Word) : (s.setX i v).refused = s.refused := by unfold State.setX; split <;> rfl
@[simp] theorem State.setX_sched (s : State) (i : GReg) (v : Word) : (s.setX i v).sched = s.sched := by unfold State.setX; split <;> rfl
@[simp] theorem State.setX_cfg (s : State) (i : GReg) (v : Word) : (s.setX i v).cfg = s.cfg := by unfold State.setX; split <;> rfl
@[simp] theorem State.setX_ir (s : State) (i : GReg) (v : Word) : (s.setX i v).ir = s.ir := by unfold State.setX; split <;> rfl
@[simp] theorem State.setX_drawCount (s : State) (i : GReg) (v : Word) : (s.setX i v).drawCount = s.drawCount := by unfold State.setX; split <;> rfl

/-! ### `setF` -/

@[simp] theorem State.setF_x (s : State) (i : FReg) (v : Word) (r : GReg) : (s.setF i v).x r = s.x r := rfl
@[simp] theorem State.setF_vr (s : State) (i : FReg) (v : Word) (k : VReg) : (s.setF i v).vr k = s.vr k := rfl
@[simp] theorem State.setF_vc (s : State) (i : FReg) (v : Word) (k : CReg) : (s.setF i v).vc k = s.vc k := rfl
@[simp] theorem State.setF_hi (s : State) (i : FReg) (v : Word) : (s.setF i v).cpu.hi = s.cpu.hi := rfl
@[simp] theorem State.setF_lo (s : State) (i : FReg) (v : Word) : (s.setF i v).cpu.lo = s.cpu.lo := rfl
@[simp] theorem State.setF_pc (s : State) (i : FReg) (v : Word) : (s.setF i v).cpu.pc = s.cpu.pc := rfl
@[simp] theorem State.setF_fcr31 (s : State) (i : FReg) (v : Word) : (s.setF i v).cpu.fcr31 = s.cpu.fcr31 := rfl
@[simp] theorem State.setF_fpcond (s : State) (i : FReg) (v : Word) : (s.setF i v).cpu.fpcond = s.cpu.fpcond := rfl
@[simp] theorem State.setF_llBit (s : State) (i : FReg) (v : Word) : (s.setF i v).cpu.llBit = s.cpu.llBit := rfl
@[simp] theorem State.setF_branchPC (s : State) (i : FReg) (v : Word) : (s.setF i v).cpu.branchPC = s.cpu.branchPC := rfl
@[simp] theorem State.setF_requiredBranching (s : State) (i : FReg) (v : Word) : (s.setF i v).cpu.requiredBranching = s.cpu.requiredBranching := rfl
@[simp] theorem State.setF_requiredJumping (s : State) (i : FReg) (v : Word) : (s.setF i v).cpu.requiredJumping = s.cpu.requiredJumping := rfl
@[simp] theorem State.setF_mem (s : State) (i : FReg) (v : Word) : (s.setF i v).mem = s.mem := rfl
@[simp] theorem State.setF_failure (s : State) (i : FReg) (v : Word) : (s.setF i v).failure = s.failure := rfl
@[simp] theorem State.setF_refused (s : State) (i : FReg) (v : Word) : (s.setF i v).refused = s.refused := rfl
@[simp] theorem State.setF_sched (s : State) (i : FReg) (v : Word) : (s.setF i v).sched = s.sched := rfl
@[simp] theorem State.setF_cfg (s : State) (i : FReg) (v : Word) : (s.setF i v).cfg = s.cfg := rfl
@[simp] theorem State.setF_ir (s : State) (i : FReg) (v : Word) : (s.setF i v).ir = s.ir := rfl
@[simp] theorem State.setF_drawCount (s : State) (i : FReg) (v : Word) : (s.setF i v).drawCount = s.drawCount := rfl

/-! ### `setVr` -/

@[simp] theorem State.setVr_x (s : State) (i : VReg) (v : Word) (r : GReg) : (s.setVr i v).x r = s.x r := rfl
@[simp] theorem State.setVr_f (s : State) (i : VReg) (v : Word) (r : FReg) : (s.setVr i v).f r = s.f r := rfl
@[simp] theorem State.setVr_vc (s : State) (i : VReg) (v : Word) (k : CReg) : (s.setVr i v).vc k = s.vc k := rfl
@[simp] theorem State.setVr_hi (s : State) (i : VReg) (v : Word) : (s.setVr i v).cpu.hi = s.cpu.hi := rfl
@[simp] theorem State.setVr_lo (s : State) (i : VReg) (v : Word) : (s.setVr i v).cpu.lo = s.cpu.lo := rfl
@[simp] theorem State.setVr_pc (s : State) (i : VReg) (v : Word) : (s.setVr i v).cpu.pc = s.cpu.pc := rfl
@[simp] theorem State.setVr_fcr31 (s : State) (i : VReg) (v : Word) : (s.setVr i v).cpu.fcr31 = s.cpu.fcr31 := rfl
@[simp] theorem State.setVr_fpcond (s : State) (i : VReg) (v : Word) : (s.setVr i v).cpu.fpcond = s.cpu.fpcond := rfl
@[simp] theorem State.setVr_llBit (s : State) (i : VReg) (v : Word) : (s.setVr i v).cpu.llBit = s.cpu.llBit := rfl
@[simp] theorem State.setVr_branchPC (s : State) (i : VReg) (v : Word) : (s.setVr i v).cpu.branchPC = s.cpu.branchPC := rfl
@[simp] theorem State.setVr_requiredBranching (s : State) (i : VReg) (v : Word) : (s.setVr i v).cpu.requiredBranching = s.cpu.requiredBranching := rfl
@[simp] theorem State.setVr_requiredJumping (s : State) (i : VReg) (v : Word) : (s.setVr i v).cpu.requiredJumping = s.cpu.requiredJumping := rfl
@[simp] theorem State.setVr_mem (s : State) (i : VReg) (v : Word) : (s.setVr i v).mem = s.mem := rfl
@[simp] theorem State.setVr_failure (s : State) (i : VReg) (v : Word) : (s.setVr i v).failure = s.failure := rfl
@[simp] theorem State.setVr_refused (s : State) (i : VReg) (v : Word) : (s.setVr i v).refused = s.refused := rfl
@[simp] theorem State.setVr_sched (s : State) (i : VReg) (v : Word) : (s.setVr i v).sched = s.sched := rfl
@[simp] theorem State.setVr_cfg (s : State) (i : VReg) (v : Word) : (s.setVr i v).cfg = s.cfg := rfl
@[simp] theorem State.setVr_ir (s : State) (i : VReg) (v : Word) : (s.setVr i v).ir = s.ir := rfl
@[simp] theorem State.setVr_drawCount (s : State) (i : VReg) (v : Word) : (s.setVr i v).drawCount = s.drawCount := rfl

/-! ### `setVc` -/

@[simp] theorem State.setVc_x (s : State) (i : CReg) (v : Word) (r : GReg) : (s.setVc i v).x r = s.x r := rfl
@[simp] theorem State.setVc_f (s : State) (i : CReg) (v : Word) (r : FReg) : (s.setVc i v).f r = s.f r := rfl
@[simp] theorem State.setVc_vr (s : State) (i : CReg) (v : Word) (k : VReg) : (s.setVc i v).vr k = s.vr k := rfl
@[simp] theorem State.setVc_hi (s : State) (i : CReg) (v : Word) : (s.setVc i v).cpu.hi = s.cpu.hi := rfl
@[simp] theorem State.setVc_lo (s : State) (i : CReg) (v : Word) : (s.setVc i v).cpu.lo = s.cpu.lo := rfl
@[simp] theorem State.setVc_pc (s : State) (i : CReg) (v : Word) : (s.setVc i v).cpu.pc = s.cpu.pc := rfl
@[simp] theorem State.setVc_fcr31 (s : State) (i : CReg) (v : Word) : (s.setVc i v).cpu.fcr31 = s.cpu.fcr31 := rfl
@[simp] theorem State.setVc_fpcond (s : State) (i : CReg) (v : Word) : (s.setVc i v).cpu.fpcond = s.cpu.fpcond := rfl
@[simp] theorem State.setVc_llBit (s : State) (i : CReg) (v : Word) : (s.setVc i v).cpu.llBit = s.cpu.llBit := rfl
@[simp] theorem State.setVc_branchPC (s : State) (i : CReg) (v : Word) : (s.setVc i v).cpu.branchPC = s.cpu.branchPC := rfl
@[simp] theorem State.setVc_requiredBranching (s : State) (i : CReg) (v : Word) : (s.setVc i v).cpu.requiredBranching = s.cpu.requiredBranching := rfl
@[simp] theorem State.setVc_requiredJumping (s : State) (i : CReg) (v : Word) : (s.setVc i v).cpu.requiredJumping = s.cpu.requiredJumping := rfl
@[simp] theorem State.setVc_mem (s : State) (i : CReg) (v : Word) : (s.setVc i v).mem = s.mem := rfl
@[simp] theorem State.setVc_failure (s : State) (i : CReg) (v : Word) : (s.setVc i v).failure = s.failure := rfl
@[simp] theorem State.setVc_refused (s : State) (i : CReg) (v : Word) : (s.setVc i v).refused = s.refused := rfl
@[simp] theorem State.setVc_sched (s : State) (i : CReg) (v : Word) : (s.setVc i v).sched = s.sched := rfl
@[simp] theorem State.setVc_cfg (s : State) (i : CReg) (v : Word) : (s.setVc i v).cfg = s.cfg := rfl
@[simp] theorem State.setVc_ir (s : State) (i : CReg) (v : Word) : (s.setVc i v).ir = s.ir := rfl
@[simp] theorem State.setVc_drawCount (s : State) (i : CReg) (v : Word) : (s.setVc i v).drawCount = s.drawCount := rfl

/-! ### `setHi` -/

@[simp] theorem State.setHi_x (s : State) (v : Word) (r : GReg) : (s.setHi v).x r = s.x r := rfl
@[simp] theorem State.setHi_f (s : State) (v : Word) (r : FReg) : (s.setHi v).f r = s.f r := rfl
@[simp] theorem State.setHi_vr (s : State) (v : Word) (k : VReg) : (s.setHi v).vr k = s.vr k := rfl
@[simp] theorem State.setHi_vc (s : State) (v : Word) (k : CReg) : (s.setHi v).vc k = s.vc k := rfl
@[simp] theorem State.setHi_hi (s : State) (v : Word) : (s.setHi v).cpu.hi = v := rfl
@[simp] theorem State.setHi_lo (s : State) (v : Word) : (s.setHi v).cpu.lo = s.cpu.lo := rfl
@[simp] theorem State.setHi_pc (s : State) (v : Word) : (s.setHi v).cpu.pc = s.cpu.pc := rfl
@[simp] theorem State.setHi_fcr31 (s : State) (v : Word) : (s.setHi v).cpu.fcr31 = s.cpu.fcr31 := rfl
@[simp] theorem State.setHi_fpcond (s : State) (v : Word) : (s.setHi v).cpu.fpcond = s.cpu.fpcond := rfl
@[simp] theorem State.setHi_llBit (s : State) (v : Word) : (s.setHi v).cpu.llBit = s.cpu.llBit := rfl
@[simp] theorem State.setHi_branchPC (s : State) (v : Word) : (s.setHi v).cpu.branchPC = s.cpu.branchPC := rfl
@[simp] theorem State.setHi_requiredBranching (s : State) (v : Word) : (s.setHi v).cpu.requiredBranching = s.cpu.requiredBranching := rfl
@[simp] theorem State.setHi_requiredJumping (s : State) (v : Word) : (s.setHi v).cpu.requiredJumping = s.cpu.requiredJumping := rfl
@[simp] theorem State.setHi_mem (s : State) (v : Word) : (s.setHi v).mem = s.mem := rfl
@[simp] theorem State.setHi_failure (s : State) (v : Word) : (s.setHi v).failure = s.failure := rfl
@[simp] theorem State.setHi_refused (s : State) (v : Word) : (s.setHi v).refused = s.refused := rfl
@[simp] theorem State.setHi_sched (s : State) (v : Word) : (s.setHi v).sched = s.sched := rfl
@[simp] theorem State.setHi_cfg (s : State) (v : Word) : (s.setHi v).cfg = s.cfg := rfl
@[simp] theorem State.setHi_ir (s : State) (v : Word) : (s.setHi v).ir = s.ir := rfl
@[simp] theorem State.setHi_drawCount (s : State) (v : Word) : (s.setHi v).drawCount = s.drawCount := rfl

/-! ### `setLo` -/

@[simp] theorem State.setLo_x (s : State) (v : Word) (r : GReg) : (s.setLo v).x r = s.x r := rfl
@[simp] theorem State.setLo_f (s : State) (v : Word) (r : FReg) : (s.setLo v).f r = s.f r := rfl
@[simp] theorem State.setLo_vr (s : State) (v : Word) (k : VReg) : (s.setLo v).vr k = s.vr k := rfl
@[simp] theorem State.setLo_vc (s : State) (v : Word) (k : CReg) : (s.setLo v).vc k = s.vc k := rfl
@[simp] theorem State.setLo_hi (s : State) (v : Word) : (s.setLo v).cpu.hi = s.cpu.hi := rfl
@[simp] theorem State.setLo_lo (s : State) (v : Word) : (s.setLo v).cpu.lo = v := rfl
@[simp] theorem State.setLo_pc (s : State) (v : Word) : (s.setLo v).cpu.pc = s.cpu.pc := rfl
@[simp] theorem State.setLo_fcr31 (s : State) (v : Word) : (s.setLo v).cpu.fcr31 = s.cpu.fcr31 := rfl
@[simp] theorem State.setLo_fpcond (s : State) (v : Word) : (s.setLo v).cpu.fpcond = s.cpu.fpcond := rfl
@[simp] theorem State.setLo_llBit (s : State) (v : Word) : (s.setLo v).cpu.llBit = s.cpu.llBit := rfl
@[simp] theorem State.setLo_branchPC (s : State) (v : Word) : (s.setLo v).cpu.branchPC = s.cpu.branchPC := rfl
@[simp] theorem State.setLo_requiredBranching (s : State) (v : Word) : (s.setLo v).cpu.requiredBranching = s.cpu.requiredBranching := rfl
@[simp] theorem State.setLo_requiredJumping (s : State) (v : Word) : (s.setLo v).cpu.requiredJumping = s.cpu.requiredJumping := rfl
@[simp] theorem State.setLo_mem (s : State) (v : Word) : (s.setLo v).mem = s.mem := rfl
@[simp] theorem State.setLo_failure (s : State) (v : Word) : (s.setLo v).failure = s.failure := rfl
@[simp] theorem State.setLo_refused (s : State) (v : Word) : (s.setLo v).refused = s.refused := rfl
@[simp] theorem State.setLo_sched (s : State) (v : Word) : (s.setLo v).sched = s.sched := rfl
@[simp] theorem State.setLo_cfg (s : State) (v : Word) : (s.setLo v).cfg = s.cfg := rfl
@[simp] theorem State.setLo_ir (s : State) (v : Word) : (s.setLo v).ir = s.ir := rfl
@[simp] theorem State.setLo_drawCount (s : State) (v : Word) : (s.setLo v).drawCount = s.drawCount := rfl

/-! ### `setPc` -/

@[simp] theorem State.setPc_x (s : State) (v : Word) (r : GReg) : (s.setPc v).x r = s.x r := rfl
@[simp] theorem State.setPc_f (s : State) (v : Word) (r : FReg) : (s.setPc v).f r = s.f r := rfl
@[simp] theorem State.setPc_vr (s : State) (v : Word) (k : VReg) : (s.setPc v).vr k = s.vr k := rfl
@[simp] theorem State.setPc_vc (s : State) (v : Word) (k : CReg) : (s.setPc v).vc k = s.vc k := rfl
@[simp] theorem State.setPc_hi (s : State) (v : Word) : (s.setPc v).cpu.hi = s.cpu.hi := rfl
@[simp] theorem State.setPc_lo (s : State) (v : Word) : (s.setPc v).cpu.lo = s.cpu.lo := rfl
@[simp] theorem State.setPc_pc (s : State) (v : Word) : (s.setPc v).cpu.pc = v := rfl
@[simp] theorem State.setPc_fcr31 (s : State) (v : Word) : (s.setPc v).cpu.fcr31 = s.cpu.fcr31 := rfl
@[simp] theorem State.setPc_fpcond (s : State) (v : Word) : (s.setPc v).cpu.fpcond = s.cpu.fpcond := rfl
@[simp] theorem State.setPc_llBit (s : State) (v : Word) : (s.setPc v).cpu.llBit = s.cpu.llBit := rfl
@[simp] theorem State.setPc_branchPC (s : State) (v : Word) : (s.setPc v).cpu.branchPC = s.cpu.branchPC := rfl
@[simp] theorem State.setPc_requiredBranching (s : State) (v : Word) : (s.setPc v).cpu.requiredBranching = s.cpu.requiredBranching := rfl
@[simp] theorem State.setPc_requiredJumping (s : State) (v : Word) : (s.setPc v).cpu.requiredJumping = s.cpu.requiredJumping := rfl
@[simp] theorem State.setPc_mem (s : State) (v : Word) : (s.setPc v).mem = s.mem := rfl
@[simp] theorem State.setPc_failure (s : State) (v : Word) : (s.setPc v).failure = s.failure := rfl
@[simp] theorem State.setPc_refused (s : State) (v : Word) : (s.setPc v).refused = s.refused := rfl
@[simp] theorem State.setPc_sched (s : State) (v : Word) : (s.setPc v).sched = s.sched := rfl
@[simp] theorem State.setPc_cfg (s : State) (v : Word) : (s.setPc v).cfg = s.cfg := rfl
@[simp] theorem State.setPc_ir (s : State) (v : Word) : (s.setPc v).ir = s.ir := rfl
@[simp] theorem State.setPc_drawCount (s : State) (v : Word) : (s.setPc v).drawCount = s.drawCount := rfl

/-! ### `setFcr31` -/

@[simp] theorem State.setFcr31_x (s : State) (v : Word) (r : GReg) : (s.setFcr31 v).x r = s.x r := rfl
@[simp] theorem State.setFcr31_f (s : State) (v : Word) (r : FReg) : (s.setFcr31 v).f r = s.f r := rfl
@[simp] theorem State.setFcr31_vr (s : State) (v : Word) (k : VReg) : (s.setFcr31 v).vr k = s.vr k := rfl
@[simp] theorem State.setFcr31_vc (s : State) (v : Word) (k : CReg) : (s.setFcr31 v).vc k = s.vc k := rfl
@[simp] theorem State.setFcr31_hi (s : State) (v : Word) : (s.setFcr31 v).cpu.hi = s.cpu.hi := rfl
@[simp] theorem State.setFcr31_lo (s : State) (v : Word) : (s.setFcr31 v).cpu.lo = s.cpu.lo := rfl
@[simp] theorem State.setFcr31_pc (s : State) (v : Word) : (s.setFcr31 v).cpu.pc = s.cpu.pc := rfl
@[simp] theorem State.setFcr31_fcr31 (s : State) (v : Word) : (s.setFcr31 v).cpu.fcr31 = v := rfl
@[simp] theorem State.setFcr31_fpcond (s : State) (v : Word) : (s.setFcr31 v).cpu.fpcond = s.cpu.fpcond := rfl
@[simp] theorem State.setFcr31_llBit (s : State) (v : Word) : (s.setFcr31 v).cpu.llBit = s.cpu.llBit := rfl
@[simp] theorem State.setFcr31_branchPC (s : State) (v : Word) : (s.setFcr31 v).cpu.branchPC = s.cpu.branchPC := rfl
@[simp] theorem State.setFcr31_requiredBranching (s : State) (v : Word) : (s.setFcr31 v).cpu.requiredBranching = s.cpu.requiredBranching := rfl
@[simp] theorem State.setFcr31_requiredJumping (s : State) (v : Word) : (s.setFcr31 v).cpu.requiredJumping = s.cpu.requiredJumping := rfl
@[simp] theorem State.setFcr31_mem (s : State) (v : Word) : (s.setFcr31 v).mem = s.mem := rfl
@[simp] theorem State.setFcr31_failure (s : State) (v : Word) : (s.setFcr31 v).failure = s.failure := rfl
@[simp] theorem State.setFcr31_refused (s : State) (v : Word) : (s.setFcr31 v).refused = s.refused := rfl
@[simp] theorem State.setFcr31_sched (s : State) (v : Word) : (s.setFcr31 v).sched = s.sched := rfl
@[simp] theorem State.setFcr31_cfg (s : State) (v : Word) : (s.setFcr31 v).cfg = s.cfg := rfl
@[simp] theorem State.setFcr31_ir (s : State) (v : Word) : (s.setFcr31 v).ir = s.ir := rfl
@[simp] theorem State.setFcr31_drawCount (s : State) (v : Word) : (s.setFcr31 v).drawCount = s.drawCount := rfl

/-! ### `setFpcond` -/

@[simp] theorem State.setFpcond_x (s : State) (b : Bool) (r : GReg) : (s.setFpcond b).x r = s.x r := rfl
@[simp] theorem State.setFpcond_f (s : State) (b : Bool) (r : FReg) : (s.setFpcond b).f r = s.f r := rfl
@[simp] theorem State.setFpcond_vr (s : State) (b : Bool) (k : VReg) : (s.setFpcond b).vr k = s.vr k := rfl
@[simp] theorem State.setFpcond_vc (s : State) (b : Bool) (k : CReg) : (s.setFpcond b).vc k = s.vc k := rfl
@[simp] theorem State.setFpcond_hi (s : State) (b : Bool) : (s.setFpcond b).cpu.hi = s.cpu.hi := rfl
@[simp] theorem State.setFpcond_lo (s : State) (b : Bool) : (s.setFpcond b).cpu.lo = s.cpu.lo := rfl
@[simp] theorem State.setFpcond_pc (s : State) (b : Bool) : (s.setFpcond b).cpu.pc = s.cpu.pc := rfl
@[simp] theorem State.setFpcond_fcr31 (s : State) (b : Bool) : (s.setFpcond b).cpu.fcr31 = s.cpu.fcr31 := rfl
@[simp] theorem State.setFpcond_fpcond (s : State) (b : Bool) : (s.setFpcond b).cpu.fpcond = b := rfl
@[simp] theorem State.setFpcond_llBit (s : State) (b : Bool) : (s.setFpcond b).cpu.llBit = s.cpu.llBit := rfl
@[simp] theorem State.setFpcond_branchPC (s : State) (b : Bool) : (s.setFpcond b).cpu.branchPC = s.cpu.branchPC := rfl
@[simp] theorem State.setFpcond_requiredBranching (s : State) (b : Bool) : (s.setFpcond b).cpu.requiredBranching = s.cpu.requiredBranching := rfl
@[simp] theorem State.setFpcond_requiredJumping (s : State) (b : Bool) : (s.setFpcond b).cpu.requiredJumping = s.cpu.requiredJumping := rfl
@[simp] theorem State.setFpcond_mem (s : State) (b : Bool) : (s.setFpcond b).mem = s.mem := rfl
@[simp] theorem State.setFpcond_failure (s : State) (b : Bool) : (s.setFpcond b).failure = s.failure := rfl
@[simp] theorem State.setFpcond_refused (s : State) (b : Bool) : (s.setFpcond b).refused = s.refused := rfl
@[simp] theorem State.setFpcond_sched (s : State) (b : Bool) : (s.setFpcond b).sched = s.sched := rfl
@[simp] theorem State.setFpcond_cfg (s : State) (b : Bool) : (s.setFpcond b).cfg = s.cfg := rfl
@[simp] theorem State.setFpcond_ir (s : State) (b : Bool) : (s.setFpcond b).ir = s.ir := rfl
@[simp] theorem State.setFpcond_drawCount (s : State) (b : Bool) : (s.setFpcond b).drawCount = s.drawCount := rfl

/-! ### `setLlBit` -/

@[simp] theorem State.setLlBit_x (s : State) (b : Bool) (r : GReg) : (s.setLlBit b).x r = s.x r := rfl
@[simp] theorem State.setLlBit_f (s : State) (b : Bool) (r : FReg) : (s.setLlBit b).f r = s.f r := rfl
@[simp] theorem State.setLlBit_vr (s : State) (b : Bool) (k : VReg) : (s.setLlBit b).vr k = s.vr k := rfl
@[simp] theorem State.setLlBit_vc (s : State) (b : Bool) (k : CReg) : (s.setLlBit b).vc k = s.vc k := rfl
@[simp] theorem State.setLlBit_hi (s : State) (b : Bool) : (s.setLlBit b).cpu.hi = s.cpu.hi := rfl
@[simp] theorem State.setLlBit_lo (s : State) (b : Bool) : (s.setLlBit b).cpu.lo = s.cpu.lo := rfl
@[simp] theorem State.setLlBit_pc (s : State) (b : Bool) : (s.setLlBit b).cpu.pc = s.cpu.pc := rfl
@[simp] theorem State.setLlBit_fcr31 (s : State) (b : Bool) : (s.setLlBit b).cpu.fcr31 = s.cpu.fcr31 := rfl
@[simp] theorem State.setLlBit_fpcond (s : State) (b : Bool) : (s.setLlBit b).cpu.fpcond = s.cpu.fpcond := rfl
@[simp] theorem State.setLlBit_llBit (s : State) (b : Bool) : (s.setLlBit b).cpu.llBit = b := rfl
@[simp] theorem State.setLlBit_branchPC (s : State) (b : Bool) : (s.setLlBit b).cpu.branchPC = s.cpu.branchPC := rfl
@[simp] theorem State.setLlBit_requiredBranching (s : State) (b : Bool) : (s.setLlBit b).cpu.requiredBranching = s.cpu.requiredBranching := rfl
@[simp] theorem State.setLlBit_requiredJumping (s : State) (b : Bool) : (s.setLlBit b).cpu.requiredJumping = s.cpu.requiredJumping := rfl
@[simp] theorem State.setLlBit_mem (s : State) (b : Bool) : (s.setLlBit b).mem = s.mem := rfl
@[simp] theorem State.setLlBit_failure (s : State) (b : Bool) : (s.setLlBit b).failure = s.failure := rfl
@[simp] theorem State.setLlBit_refused (s : State) (b : Bool) : (s.setLlBit b).refused = s.refused := rfl
@[simp] theorem State.setLlBit_sched (s : State) (b : Bool) : (s.setLlBit b).sched = s.sched := rfl
@[simp] theorem State.setLlBit_cfg (s : State) (b : Bool) : (s.setLlBit b).cfg = s.cfg := rfl
@[simp] theorem State.setLlBit_ir (s : State) (b : Bool) : (s.setLlBit b).ir = s.ir := rfl
@[simp] theorem State.setLlBit_drawCount (s : State) (b : Bool) : (s.setLlBit b).drawCount = s.drawCount := rfl

/-! ### `latchBranch` -/

@[simp] theorem State.latchBranch_x (s : State) (v : Word) (r : GReg) : (s.latchBranch v).x r = s.x r := rfl
@[simp] theorem State.latchBranch_f (s : State) (v : Word) (r : FReg) : (s.latchBranch v).f r = s.f r := rfl
@[simp] theorem State.latchBranch_vr (s : State) (v : Word) (k : VReg) : (s.latchBranch v).vr k = s.vr k := rfl
@[simp] theorem State.latchBranch_vc (s : State) (v : Word) (k : CReg) : (s.latchBranch v).vc k = s.vc k := rfl
@[simp] theorem State.latchBranch_hi (s : State) (v : Word) : (s.latchBranch v).cpu.hi = s.cpu.hi := rfl
@[simp] theorem State.latchBranch_lo (s : State) (v : Word) : (s.latchBranch v).cpu.lo = s.cpu.lo := rfl
@[simp] theorem State.latchBranch_pc (s : State) (v : Word) : (s.latchBranch v).cpu.pc = s.cpu.pc + 4#32 := rfl
@[simp] theorem State.latchBranch_fcr31 (s : State) (v : Word) : (s.latchBranch v).cpu.fcr31 = s.cpu.fcr31 := rfl
@[simp] theorem State.latchBranch_fpcond (s : State) (v : Word) : (s.latchBranch v).cpu.fpcond = s.cpu.fpcond := rfl
@[simp] theorem State.latchBranch_llBit (s : State) (v : Word) : (s.latchBranch v).cpu.llBit = s.cpu.llBit := rfl
@[simp] theorem State.latchBranch_branchPC (s : State) (v : Word) : (s.latchBranch v).cpu.branchPC = v := rfl
@[simp] theorem State.latchBranch_requiredBranching (s : State) (v : Word) : (s.latchBranch v).cpu.requiredBranching = true := rfl
@[simp] theorem State.latchBranch_requiredJumping (s : State) (v : Word) : (s.latchBranch v).cpu.requiredJumping = s.cpu.requiredJumping := rfl
@[simp] theorem State.latchBranch_mem (s : State) (v : Word) : (s.latchBranch v).mem = s.mem := rfl
@[simp] theorem State.latchBranch_failure (s : State) (v : Word) : (s.latchBranch v).failure = s.failure := rfl
@[simp] theorem State.latchBranch_refused (s : State) (v : Word) : (s.latchBranch v).refused = s.refused := rfl
@[simp] theorem State.latchBranch_sched (s : State) (v : Word) : (s.latchBranch v).sched = s.sched := rfl
@[simp] theorem State.latchBranch_cfg (s : State) (v : Word) : (s.latchBranch v).cfg = s.cfg := rfl
@[simp] theorem State.latchBranch_ir (s : State) (v : Word) : (s.latchBranch v).ir = s.ir := rfl
@[simp] theorem State.latchBranch_drawCount (s : State) (v : Word) : (s.latchBranch v).drawCount = s.drawCount := rfl

/-! ### `latchJump` -/

@[simp] theorem State.latchJump_x (s : State) (v : Word) (r : GReg) : (s.latchJump v).x r = s.x r := rfl
@[simp] theorem State.latchJump_f (s : State) (v : Word) (r : FReg) : (s.latchJump v).f r = s.f r := rfl
@[simp] theorem State.latchJump_vr (s : State) (v : Word) (k : VReg) : (s.latchJump v).vr k = s.vr k := rfl
@[simp] theorem State.latchJump_vc (s : State) (v : Word) (k : CReg) : (s.latchJump v).vc k = s.vc k := rfl
@[simp] theorem State.latchJump_hi (s : State) (v : Word) : (s.latchJump v).cpu.hi = s.cpu.hi := rfl
@[simp] theorem State.latchJump_lo (s : State) (v : Word) : (s.latchJump v).cpu.lo = s.cpu.lo := rfl
@[simp] theorem State.latchJump_pc (s : State) (v : Word) : (s.latchJump v).cpu.pc = s.cpu.pc + 4#32 := rfl
@[simp] theorem State.latchJump_fcr31 (s : State) (v : Word) : (s.latchJump v).cpu.fcr31 = s.cpu.fcr31 := rfl
@[simp] theorem State.latchJump_fpcond (s : State) (v : Word) : (s.latchJump v).cpu.fpcond = s.cpu.fpcond := rfl
@[simp] theorem State.latchJump_llBit (s : State) (v : Word) : (s.latchJump v).cpu.llBit = s.cpu.llBit := rfl
@[simp] theorem State.latchJump_branchPC (s : State) (v : Word) : (s.latchJump v).cpu.branchPC = v := rfl
@[simp] theorem State.latchJump_requiredBranching (s : State) (v : Word) : (s.latchJump v).cpu.requiredBranching = s.cpu.requiredBranching := rfl
@[simp] theorem State.latchJump_requiredJumping (s : State) (v : Word) : (s.latchJump v).cpu.requiredJumping = true := rfl
@[simp] theorem State.latchJump_mem (s : State) (v : Word) : (s.latchJump v).mem = s.mem := rfl
@[simp] theorem State.latchJump_failure (s : State) (v : Word) : (s.latchJump v).failure = s.failure := rfl
@[simp] theorem State.latchJump_refused (s : State) (v : Word) : (s.latchJump v).refused = s.refused := rfl
@[simp] theorem State.latchJump_sched (s : State) (v : Word) : (s.latchJump v).sched = s.sched := rfl
@[simp] theorem State.latchJump_cfg (s : State) (v : Word) : (s.latchJump v).cfg = s.cfg := rfl
@[simp] theorem State.latchJump_ir (s : State) (v : Word) : (s.latchJump v).ir = s.ir := rfl
@[simp] theorem State.latchJump_drawCount (s : State) (v : Word) : (s.latchJump v).drawCount = s.drawCount := rfl

/-! ### `resolveSlot` -/

@[simp] theorem State.resolveSlot_x (s : State) (v : Word) (r : GReg) : (s.resolveSlot v).x r = s.x r := rfl
@[simp] theorem State.resolveSlot_f (s : State) (v : Word) (r : FReg) : (s.resolveSlot v).f r = s.f r := rfl
@[simp] theorem State.resolveSlot_vr (s : State) (v : Word) (k : VReg) : (s.resolveSlot v).vr k = s.vr k := rfl
@[simp] theorem State.resolveSlot_vc (s : State) (v : Word) (k : CReg) : (s.resolveSlot v).vc k = s.vc k := rfl
@[simp] theorem State.resolveSlot_hi (s : State) (v : Word) : (s.resolveSlot v).cpu.hi = s.cpu.hi := rfl
@[simp] theorem State.resolveSlot_lo (s : State) (v : Word) : (s.resolveSlot v).cpu.lo = s.cpu.lo := rfl
@[simp] theorem State.resolveSlot_pc (s : State) (v : Word) : (s.resolveSlot v).cpu.pc = v := rfl
@[simp] theorem State.resolveSlot_fcr31 (s : State) (v : Word) : (s.resolveSlot v).cpu.fcr31 = s.cpu.fcr31 := rfl
@[simp] theorem State.resolveSlot_fpcond (s : State) (v : Word) : (s.resolveSlot v).cpu.fpcond = s.cpu.fpcond := rfl
@[simp] theorem State.resolveSlot_llBit (s : State) (v : Word) : (s.resolveSlot v).cpu.llBit = s.cpu.llBit := rfl
@[simp] theorem State.resolveSlot_branchPC (s : State) (v : Word) : (s.resolveSlot v).cpu.branchPC = s.cpu.branchPC := rfl
@[simp] theorem State.resolveSlot_requiredBranching (s : State) (v : Word) : (s.resolveSlot v).cpu.requiredBranching = false := rfl
@[simp] theorem State.resolveSlot_requiredJumping (s : State) (v : Word) : (s.resolveSlot v).cpu.requiredJumping = false := rfl
@[simp] theorem State.resolveSlot_mem (s : State) (v : Word) : (s.resolveSlot v).mem = s.mem := rfl
@[simp] theorem State.resolveSlot_failure (s : State) (v : Word) : (s.resolveSlot v).failure = s.failure := rfl
@[simp] theorem State.resolveSlot_refused (s : State) (v : Word) : (s.resolveSlot v).refused = s.refused := rfl
@[simp] theorem State.resolveSlot_sched (s : State) (v : Word) : (s.resolveSlot v).sched = s.sched := rfl
@[simp] theorem State.resolveSlot_cfg (s : State) (v : Word) : (s.resolveSlot v).cfg = s.cfg := rfl
@[simp] theorem State.resolveSlot_ir (s : State) (v : Word) : (s.resolveSlot v).ir = s.ir := rfl
@[simp] theorem State.resolveSlot_drawCount (s : State) (v : Word) : (s.resolveSlot v).drawCount = s.drawCount := rfl

/-! ### `takeDraws` -/

@[simp] theorem State.takeDraws_x (s : State) (n : Nat) (r : GReg) : (s.takeDraws n).x r = s.x r := rfl
@[simp] theorem State.takeDraws_f (s : State) (n : Nat) (r : FReg) : (s.takeDraws n).f r = s.f r := rfl
@[simp] theorem State.takeDraws_vr (s : State) (n : Nat) (k : VReg) : (s.takeDraws n).vr k = s.vr k := rfl
@[simp] theorem State.takeDraws_vc (s : State) (n : Nat) (k : CReg) : (s.takeDraws n).vc k = s.vc k := rfl
@[simp] theorem State.takeDraws_hi (s : State) (n : Nat) : (s.takeDraws n).cpu.hi = s.cpu.hi := rfl
@[simp] theorem State.takeDraws_lo (s : State) (n : Nat) : (s.takeDraws n).cpu.lo = s.cpu.lo := rfl
@[simp] theorem State.takeDraws_pc (s : State) (n : Nat) : (s.takeDraws n).cpu.pc = s.cpu.pc := rfl
@[simp] theorem State.takeDraws_fcr31 (s : State) (n : Nat) : (s.takeDraws n).cpu.fcr31 = s.cpu.fcr31 := rfl
@[simp] theorem State.takeDraws_fpcond (s : State) (n : Nat) : (s.takeDraws n).cpu.fpcond = s.cpu.fpcond := rfl
@[simp] theorem State.takeDraws_llBit (s : State) (n : Nat) : (s.takeDraws n).cpu.llBit = s.cpu.llBit := rfl
@[simp] theorem State.takeDraws_branchPC (s : State) (n : Nat) : (s.takeDraws n).cpu.branchPC = s.cpu.branchPC := rfl
@[simp] theorem State.takeDraws_requiredBranching (s : State) (n : Nat) : (s.takeDraws n).cpu.requiredBranching = s.cpu.requiredBranching := rfl
@[simp] theorem State.takeDraws_requiredJumping (s : State) (n : Nat) : (s.takeDraws n).cpu.requiredJumping = s.cpu.requiredJumping := rfl
@[simp] theorem State.takeDraws_mem (s : State) (n : Nat) : (s.takeDraws n).mem = s.mem := rfl
@[simp] theorem State.takeDraws_failure (s : State) (n : Nat) : (s.takeDraws n).failure = s.failure := rfl
@[simp] theorem State.takeDraws_refused (s : State) (n : Nat) : (s.takeDraws n).refused = s.refused := rfl
@[simp] theorem State.takeDraws_sched (s : State) (n : Nat) : (s.takeDraws n).sched = s.sched := rfl
@[simp] theorem State.takeDraws_cfg (s : State) (n : Nat) : (s.takeDraws n).cfg = s.cfg := rfl
@[simp] theorem State.takeDraws_ir (s : State) (n : Nat) : (s.takeDraws n).ir = s.ir := rfl
@[simp] theorem State.takeDraws_drawCount (s : State) (n : Nat) : (s.takeDraws n).drawCount = s.drawCount + n := rfl

/-! ### `storeByte` -/

@[simp] theorem State.storeByte_cpu (s : State) (a : Word) (b : Byte) : (s.storeByte a b).cpu = s.cpu := by unfold State.storeByte; split <;> rfl
@[simp] theorem State.storeByte_x (s : State) (a : Word) (b : Byte) (r : GReg) : (s.storeByte a b).x r = s.x r := by unfold State.storeByte; split <;> rfl
@[simp] theorem State.storeByte_f (s : State) (a : Word) (b : Byte) (r : FReg) : (s.storeByte a b).f r = s.f r := by unfold State.storeByte; split <;> rfl
@[simp] theorem State.storeByte_vr (s : State) (a : Word) (b : Byte) (k : VReg) : (s.storeByte a b).vr k = s.vr k := by unfold State.storeByte; split <;> rfl
@[simp] theorem State.storeByte_vc (s : State) (a : Word) (b : Byte) (k : CReg) : (s.storeByte a b).vc k = s.vc k := by unfold State.storeByte; split <;> rfl
@[simp] theorem State.storeByte_hi (s : State) (a : Word) (b : Byte) : (s.storeByte a b).cpu.hi = s.cpu.hi := by unfold State.storeByte; split <;> rfl
@[simp] theorem State.storeByte_lo (s : State) (a : Word) (b : Byte) : (s.storeByte a b).cpu.lo = s.cpu.lo := by unfold State.storeByte; split <;> rfl
@[simp] theorem State.storeByte_pc (s : State) (a : Word) (b : Byte) : (s.storeByte a b).cpu.pc = s.cpu.pc := by unfold State.storeByte; split <;> rfl
@[simp] theorem State.storeByte_fcr31 (s : State) (a : Word) (b : Byte) : (s.storeByte a b).cpu.fcr31 = s.cpu.fcr31 := by unfold State.storeByte; split <;> rfl
@[simp] theorem State.storeByte_fpcond (s : State) (a : Word) (b : Byte) : (s.storeByte a b).cpu.fpcond = s.cpu.fpcond := by unfold State.storeByte; split <;> rfl
@[simp] theorem State.storeByte_llBit (s : State) (a : Word) (b : Byte) : (s.storeByte a b).cpu.llBit = s.cpu.llBit := by unfold State.storeByte; split <;> rfl
@[simp] theorem State.storeByte_branchPC (s : State) (a : Word) (b : Byte) : (s.storeByte a b).cpu.branchPC = s.cpu.branchPC := by unfold State.storeByte; split <;> rfl
@[simp] theorem State.storeByte_requiredBranching (s : State) (a : Word) (b : Byte) : (s.storeByte a b).cpu.requiredBranching = s.cpu.requiredBranching := by unfold State.storeByte; split <;> rfl
@[simp] theorem State.storeByte_requiredJumping (s : State) (a : Word) (b : Byte) : (s.storeByte a b).cpu.requiredJumping = s.cpu.requiredJumping := by unfold State.storeByte; split <;> rfl
@[simp] theorem State.storeByte_failure (s : State) (a : Word) (b : Byte) : (s.storeByte a b).failure = s.failure := by unfold State.storeByte; split <;> rfl
@[simp] theorem State.storeByte_refused (s : State) (a : Word) (b : Byte) : (s.storeByte a b).refused = s.refused := by unfold State.storeByte; split <;> rfl
@[simp] theorem State.storeByte_sched (s : State) (a : Word) (b : Byte) : (s.storeByte a b).sched = s.sched := by unfold State.storeByte; split <;> rfl
@[simp] theorem State.storeByte_cfg (s : State) (a : Word) (b : Byte) : (s.storeByte a b).cfg = s.cfg := by unfold State.storeByte; split <;> rfl
@[simp] theorem State.storeByte_ir (s : State) (a : Word) (b : Byte) : (s.storeByte a b).ir = s.ir := by unfold State.storeByte; split <;> rfl
@[simp] theorem State.storeByte_drawCount (s : State) (a : Word) (b : Byte) : (s.storeByte a b).drawCount = s.drawCount := by unfold State.storeByte; split <;> rfl

/-! ### `storeHalf` -/

@[simp] theorem State.storeHalf_x (s : State) (a : Word) (h : Half) (r : GReg) : (s.storeHalf a h).x r = s.x r := by simp [State.storeHalf]
@[simp] theorem State.storeHalf_f (s : State) (a : Word) (h : Half) (r : FReg) : (s.storeHalf a h).f r = s.f r := by simp [State.storeHalf]
@[simp] theorem State.storeHalf_vr (s : State) (a : Word) (h : Half) (k : VReg) : (s.storeHalf a h).vr k = s.vr k := by simp [State.storeHalf]
@[simp] theorem State.storeHalf_vc (s : State) (a : Word) (h : Half) (k : CReg) : (s.storeHalf a h).vc k = s.vc k := by simp [State.storeHalf]
@[simp] theorem State.storeHalf_hi (s : State) (a : Word) (h : Half) : (s.storeHalf a h).cpu.hi = s.cpu.hi := by simp [State.storeHalf]
@[simp] theorem State.storeHalf_lo (s : State) (a : Word) (h : Half) : (s.storeHalf a h).cpu.lo = s.cpu.lo := by simp [State.storeHalf]
@[simp] theorem State.storeHalf_pc (s : State) (a : Word) (h : Half) : (s.storeHalf a h).cpu.pc = s.cpu.pc := by simp [State.storeHalf]
@[simp] theorem State.storeHalf_fcr31 (s : State) (a : Word) (h : Half) : (s.storeHalf a h).cpu.fcr31 = s.cpu.fcr31 := by simp [State.storeHalf]
@[simp] theorem State.storeHalf_fpcond (s : State) (a : Word) (h : Half) : (s.storeHalf a h).cpu.fpcond = s.cpu.fpcond := by simp [State.storeHalf]
@[simp] theorem State.storeHalf_llBit (s : State) (a : Word) (h : Half) : (s.storeHalf a h).cpu.llBit = s.cpu.llBit := by simp [State.storeHalf]
@[simp] theorem State.storeHalf_branchPC (s : State) (a : Word) (h : Half) : (s.storeHalf a h).cpu.branchPC = s.cpu.branchPC := by simp [State.storeHalf]
@[simp] theorem State.storeHalf_requiredBranching (s : State) (a : Word) (h : Half) : (s.storeHalf a h).cpu.requiredBranching = s.cpu.requiredBranching := by simp [State.storeHalf]
@[simp] theorem State.storeHalf_requiredJumping (s : State) (a : Word) (h : Half) : (s.storeHalf a h).cpu.requiredJumping = s.cpu.requiredJumping := by simp [State.storeHalf]
@[simp] theorem State.storeHalf_failure (s : State) (a : Word) (h : Half) : (s.storeHalf a h).failure = s.failure := by simp [State.storeHalf]
@[simp] theorem State.storeHalf_refused (s : State) (a : Word) (h : Half) : (s.storeHalf a h).refused = s.refused := by simp [State.storeHalf]
@[simp] theorem State.storeHalf_sched (s : State) (a : Word) (h : Half) : (s.storeHalf a h).sched = s.sched := by simp [State.storeHalf]
@[simp] theorem State.storeHalf_cfg (s : State) (a : Word) (h : Half) : (s.storeHalf a h).cfg = s.cfg := by simp [State.storeHalf]
@[simp] theorem State.storeHalf_ir (s : State) (a : Word) (h : Half) : (s.storeHalf a h).ir = s.ir := by simp [State.storeHalf]
@[simp] theorem State.storeHalf_drawCount (s : State) (a : Word) (h : Half) : (s.storeHalf a h).drawCount = s.drawCount := by simp [State.storeHalf]

/-! ### `storeWord` -/

@[simp] theorem State.storeWord_x (s : State) (a : Word) (w : Word) (r : GReg) : (s.storeWord a w).x r = s.x r := by simp [State.storeWord]
@[simp] theorem State.storeWord_f (s : State) (a : Word) (w : Word) (r : FReg) : (s.storeWord a w).f r = s.f r := by simp [State.storeWord]
@[simp] theorem State.storeWord_vr (s : State) (a : Word) (w : Word) (k : VReg) : (s.storeWord a w).vr k = s.vr k := by simp [State.storeWord]
@[simp] theorem State.storeWord_vc (s : State) (a : Word) (w : Word) (k : CReg) : (s.storeWord a w).vc k = s.vc k := by simp [State.storeWord]
@[simp] theorem State.storeWord_hi (s : State) (a : Word) (w : Word) : (s.storeWord a w).cpu.hi = s.cpu.hi := by simp [State.storeWord]
@[simp] theorem State.storeWord_lo (s : State) (a : Word) (w : Word) : (s.storeWord a w).cpu.lo = s.cpu.lo := by simp [State.storeWord]
@[simp] theorem State.storeWord_pc (s : State) (a : Word) (w : Word) : (s.storeWord a w).cpu.pc = s.cpu.pc := by simp [State.storeWord]
@[simp] theorem State.storeWord_fcr31 (s : State) (a : Word) (w : Word) : (s.storeWord a w).cpu.fcr31 = s.cpu.fcr31 := by simp [State.storeWord]
@[simp] theorem State.storeWord_fpcond (s : State) (a : Word) (w : Word) : (s.storeWord a w).cpu.fpcond = s.cpu.fpcond := by simp [State.storeWord]
@[simp] theorem State.storeWord_llBit (s : State) (a : Word) (w : Word) : (s.storeWord a w).cpu.llBit = s.cpu.llBit := by simp [State.storeWord]
@[simp] theorem State.storeWord_branchPC (s : State) (a : Word) (w : Word) : (s.storeWord a w).cpu.branchPC = s.cpu.branchPC := by simp [State.storeWord]
@[simp] theorem State.storeWord_requiredBranching (s : State) (a : Word) (w : Word) : (s.storeWord a w).cpu.requiredBranching = s.cpu.requiredBranching := by simp [State.storeWord]
@[simp] theorem State.storeWord_requiredJumping (s : State) (a : Word) (w : Word) : (s.storeWord a w).cpu.requiredJumping = s.cpu.requiredJumping := by simp [State.storeWord]
@[simp] theorem State.storeWord_cpu (s : State) (a : Word) (w : Word) : (s.storeWord a w).cpu = s.cpu := by simp [State.storeWord]
@[simp] theorem State.storeWord_failure (s : State) (a : Word) (w : Word) : (s.storeWord a w).failure = s.failure := by simp [State.storeWord]
@[simp] theorem State.storeWord_refused (s : State) (a : Word) (w : Word) : (s.storeWord a w).refused = s.refused := by simp [State.storeWord]
@[simp] theorem State.storeWord_sched (s : State) (a : Word) (w : Word) : (s.storeWord a w).sched = s.sched := by simp [State.storeWord]
@[simp] theorem State.storeWord_cfg (s : State) (a : Word) (w : Word) : (s.storeWord a w).cfg = s.cfg := by simp [State.storeWord]
@[simp] theorem State.storeWord_ir (s : State) (a : Word) (w : Word) : (s.storeWord a w).ir = s.ir := by simp [State.storeWord]
@[simp] theorem State.storeWord_drawCount (s : State) (a : Word) (w : Word) : (s.storeWord a w).drawCount = s.drawCount := by simp [State.storeWord]

/-! ### `writeLane` -/

@[simp] theorem State.writeLane_x (s : State) (i : VReg) (n : Nat) (v : Word) (r : GReg) : (s.writeLane i n v).x r = s.x r := by unfold State.writeLane; split <;> rfl
@[simp] theorem State.writeLane_f (s : State) (i : VReg) (n : Nat) (v : Word) (r : FReg) : (s.writeLane i n v).f r = s.f r := by unfold State.writeLane; split <;> rfl
@[simp] theorem State.writeLane_vc (s : State) (i : VReg) (n : Nat) (v : Word) (k : CReg) : (s.writeLane i n v).vc k = s.vc k := by unfold State.writeLane; split <;> rfl
@[simp] theorem State.writeLane_hi (s : State) (i : VReg) (n : Nat) (v : Word) : (s.writeLane i n v).cpu.hi = s.cpu.hi := by unfold State.writeLane; split <;> rfl
@[simp] theorem State.writeLane_lo (s : State) (i : VReg) (n : Nat) (v : Word) : (s.writeLane i n v).cpu.lo = s.cpu.lo := by unfold State.writeLane; split <;> rfl
@[simp] theorem State.writeLane_pc (s : State) (i : VReg) (n : Nat) (v : Word) : (s.writeLane i n v).cpu.pc = s.cpu.pc := by unfold State.writeLane; split <;> rfl
@[simp] theorem State.writeLane_fcr31 (s : State) (i : VReg) (n : Nat) (v : Word) : (s.writeLane i n v).cpu.fcr31 = s.cpu.fcr31 := by unfold State.writeLane; split <;> rfl
@[simp] theorem State.writeLane_fpcond (s : State) (i : VReg) (n : Nat) (v : Word) : (s.writeLane i n v).cpu.fpcond = s.cpu.fpcond := by unfold State.writeLane; split <;> rfl
@[simp] theorem State.writeLane_llBit (s : State) (i : VReg) (n : Nat) (v : Word) : (s.writeLane i n v).cpu.llBit = s.cpu.llBit := by unfold State.writeLane; split <;> rfl
@[simp] theorem State.writeLane_branchPC (s : State) (i : VReg) (n : Nat) (v : Word) : (s.writeLane i n v).cpu.branchPC = s.cpu.branchPC := by unfold State.writeLane; split <;> rfl
@[simp] theorem State.writeLane_requiredBranching (s : State) (i : VReg) (n : Nat) (v : Word) : (s.writeLane i n v).cpu.requiredBranching = s.cpu.requiredBranching := by unfold State.writeLane; split <;> rfl
@[simp] theorem State.writeLane_requiredJumping (s : State) (i : VReg) (n : Nat) (v : Word) : (s.writeLane i n v).cpu.requiredJumping = s.cpu.requiredJumping := by unfold State.writeLane; split <;> rfl
@[simp] theorem State.writeLane_mem (s : State) (i : VReg) (n : Nat) (v : Word) : (s.writeLane i n v).mem = s.mem := by unfold State.writeLane; split <;> rfl
@[simp] theorem State.writeLane_failure (s : State) (i : VReg) (n : Nat) (v : Word) : (s.writeLane i n v).failure = s.failure := by unfold State.writeLane; split <;> rfl
@[simp] theorem State.writeLane_refused (s : State) (i : VReg) (n : Nat) (v : Word) : (s.writeLane i n v).refused = s.refused := by unfold State.writeLane; split <;> rfl
@[simp] theorem State.writeLane_sched (s : State) (i : VReg) (n : Nat) (v : Word) : (s.writeLane i n v).sched = s.sched := by unfold State.writeLane; split <;> rfl
@[simp] theorem State.writeLane_cfg (s : State) (i : VReg) (n : Nat) (v : Word) : (s.writeLane i n v).cfg = s.cfg := by unfold State.writeLane; split <;> rfl
@[simp] theorem State.writeLane_ir (s : State) (i : VReg) (n : Nat) (v : Word) : (s.writeLane i n v).ir = s.ir := by unfold State.writeLane; split <;> rfl
@[simp] theorem State.writeLane_drawCount (s : State) (i : VReg) (n : Nat) (v : Word) : (s.writeLane i n v).drawCount = s.drawCount := by unfold State.writeLane; split <;> rfl

/-! ### `eat` -/

@[simp] theorem State.eat_x (s : State) (r : GReg) : (s.eat).x r = s.x r := rfl
@[simp] theorem State.eat_f (s : State) (r : FReg) : (s.eat).f r = s.f r := rfl
@[simp] theorem State.eat_vr (s : State) (k : VReg) : (s.eat).vr k = s.vr k := rfl
@[simp] theorem State.eat_hi (s : State) : (s.eat).cpu.hi = s.cpu.hi := rfl
@[simp] theorem State.eat_lo (s : State) : (s.eat).cpu.lo = s.cpu.lo := rfl
@[simp] theorem State.eat_pc (s : State) : (s.eat).cpu.pc = s.cpu.pc := rfl
@[simp] theorem State.eat_fcr31 (s : State) : (s.eat).cpu.fcr31 = s.cpu.fcr31 := rfl
@[simp] theorem State.eat_fpcond (s : State) : (s.eat).cpu.fpcond = s.cpu.fpcond := rfl
@[simp] theorem State.eat_llBit (s : State) : (s.eat).cpu.llBit = s.cpu.llBit := rfl
@[simp] theorem State.eat_branchPC (s : State) : (s.eat).cpu.branchPC = s.cpu.branchPC := rfl
@[simp] theorem State.eat_requiredBranching (s : State) : (s.eat).cpu.requiredBranching = s.cpu.requiredBranching := rfl
@[simp] theorem State.eat_requiredJumping (s : State) : (s.eat).cpu.requiredJumping = s.cpu.requiredJumping := rfl
@[simp] theorem State.eat_mem (s : State) : (s.eat).mem = s.mem := rfl
@[simp] theorem State.eat_failure (s : State) : (s.eat).failure = s.failure := rfl
@[simp] theorem State.eat_refused (s : State) : (s.eat).refused = s.refused := rfl
@[simp] theorem State.eat_sched (s : State) : (s.eat).sched = s.sched := rfl
@[simp] theorem State.eat_cfg (s : State) : (s.eat).cfg = s.cfg := rfl
@[simp] theorem State.eat_ir (s : State) : (s.eat).ir = s.ir := rfl
@[simp] theorem State.eat_drawCount (s : State) : (s.eat).drawCount = s.drawCount := rfl

end Sys2Proof.Machine
end

