-- ==== Sys2Proof/Laws/Memory.lean ====
section
/-! SUPPORT. Laws/Memory.lean: the laws of the byte memory (20_memory.md): a read after a write, the canonical form, and the same for
the guest's byte, halfword and word accesses. -/

namespace Sys2Proof.Machine

open Sys2Proof

/-! ### The list of cells -/

/-- In a canonical list, an address below every listed one is not listed. -/
theorem Memory.readByte_of_all_lt (m : Memory) (a : Nat) (h : ∀ c ∈ m, a < c.1) : m.readByte a = 0#8 := by
  induction m with
  | nil => rfl
  | cons c rest ih =>
    have hc : c.1 ≠ a := Nat.ne_of_gt (h c (by simp))
    have hr : ∀ d ∈ rest, a < d.1 := fun d hd => h d (by simp [hd])
    simp [Memory.readByte, hc, ih hr]

/-- What the canonical form says of a list with a first cell. -/
theorem Memory.wf_cons (c : Host.Cell) (rest : Memory) :
    Memory.wf (c :: rest) = true ↔ c.2 ≠ 0#8 ∧ (∀ d ∈ rest, c.1 < d.1) ∧ Memory.wf rest = true := by
  obtain ⟨k, b⟩ := c
  simp [Memory.wf, and_assoc]

/-- Every cell after a write is the written one or an old one. -/
theorem Memory.mem_writeByte (m : Memory) (a : Nat) (v : Byte) (c : Host.Cell) (h : c ∈ m.writeByte a v) : c.1 = a ∨ c ∈ m := by
  induction m with
  | nil =>
    by_cases hv : v = 0#8
    · simp [Memory.writeByte, hv] at h
    · simp only [Memory.writeByte, hv, if_false, List.mem_singleton] at h
      simp [h]
  | cons d rest ih =>
    obtain ⟨k, b⟩ := d
    unfold Memory.writeByte at h
    split at h
    · split at h
      · exact .inr h
      · rcases List.mem_cons.1 h with rfl | h'
        · exact .inl rfl
        · exact .inr h'
    · split at h
      · split at h
        · exact .inr (List.mem_cons_of_mem _ h)
        · rcases List.mem_cons.1 h with rfl | h'
          · exact .inl rfl
          · exact .inr (List.mem_cons_of_mem _ h')
      · rcases List.mem_cons.1 h with rfl | h'
        · exact .inr (by simp)
        · rcases ih h' with e | e
          · exact .inl e
          · exact .inr (List.mem_cons_of_mem _ e)

/-- A write keeps the canonical form. -/
theorem Memory.wf_writeByte (m : Memory) (a : Nat) (v : Byte) (h : m.wf = true) : (m.writeByte a v).wf = true := by
  induction m with
  | nil => by_cases hv : v = 0#8 <;> simp [Memory.writeByte, Memory.wf, hv]
  | cons c rest ih =>
    obtain ⟨k, b⟩ := c
    obtain ⟨hb, hlt, hrest⟩ := (Memory.wf_cons (k, b) rest).1 h
    unfold Memory.writeByte
    split
    · rename_i hak
      split
      · exact h
      · rename_i hv
        refine (Memory.wf_cons _ _).2 ⟨hv, ?_, h⟩
        intro d hd
        rcases List.mem_cons.1 hd with rfl | hd'
        · exact hak
        · exact Nat.lt_trans hak (hlt d hd')
    · split
      · rename_i hak
        subst hak
        split
        · exact hrest
        · rename_i hv
          exact (Memory.wf_cons _ _).2 ⟨hv, hlt, hrest⟩
      · rename_i h1 h2
        refine (Memory.wf_cons _ _).2 ⟨hb, ?_, ih hrest⟩
        intro d hd
        rcases Memory.mem_writeByte rest a v d hd with e | e
        · simp only [e]
          omega
        · exact hlt d e

/-- A read after a write: the written byte at its address, the old byte everywhere else. -/
theorem Memory.readByte_writeByte (m : Memory) (a : Nat) (v : Byte) (b : Nat) (h : m.wf = true) :
    (m.writeByte a v).readByte b = if b = a then v else m.readByte b := by
  induction m with
  | nil =>
    by_cases hv : v = 0#8
    · simp [Memory.writeByte, Memory.readByte, hv]
    · by_cases hb : b = a
      · simp [Memory.writeByte, Memory.readByte, hv, hb]
      · simp [Memory.writeByte, Memory.readByte, hv, hb, Ne.symm hb]
  | cons c rest ih =>
    obtain ⟨k, w⟩ := c
    obtain ⟨hw, hlt, hrest⟩ := (Memory.wf_cons (k, w) rest).1 h
    unfold Memory.writeByte
    split
    · rename_i hak
      have hall : ∀ d ∈ ((k, w) :: rest : Memory), a < d.1 := by
        intro d hd
        rcases List.mem_cons.1 hd with rfl | hd'
        · exact hak
        · exact Nat.lt_trans hak (hlt d hd')
      split
      · rename_i hv
        by_cases hb : b = a
        · subst hb
          simp [Memory.readByte_of_all_lt _ _ hall, hv]
        · simp [hb]
      · by_cases hb : b = a
        · simp [Memory.readByte, hb]
        · simp [Memory.readByte, hb, Ne.symm hb]
    · split
      · rename_i hak
        subst hak
        split
        · rename_i hv
          by_cases hb : b = a
          · subst hb
            simp [Memory.readByte_of_all_lt rest _ hlt, hv]
          · simp [Memory.readByte, hb, Ne.symm hb]
        · by_cases hb : b = a
          · simp [Memory.readByte, hb]
          · simp [Memory.readByte, hb, Ne.symm hb]
      · rename_i h1 h2
        by_cases hkb : k = b
        · subst hkb
          have : ¬ k = a := fun e => h2 e.symm
          simp [Memory.readByte, this]
        · simp [Memory.readByte, hkb, ih hrest]

/-! ### Keys -/

/-- The address of a key is the address itself, or the address less the mirror offset (20_memory.md R82). -/
theorem byteKey_cases {p : Params} {a : Word} {k : Nat} (h : byteKey p a = some k) :
    k = a.toNat ∨ k + Config.uncachedMirror = a.toNat := by
  unfold byteKey resolve at h
  split at h
  · simp at h
    exact .inl h.symm
  · split at h
    · split at h
      · simp at h
        right
        omega
      · simp at h
    · simp at h

/-- A key lies in a window (20_memory.md R81). -/
theorem byteKey_in_window {p : Params} {a : Word} {k : Nat} (h : byteKey p a = some k) :
    (p.windows.any fun w => windowContains w k) = true := by
  unfold byteKey resolve at h
  split at h
  · rename_i w hw
    simp at h
    subst h
    have := List.find?_some hw
    have hm := List.mem_of_find?_eq_some hw
    exact List.any_eq_true.2 ⟨w, hm, this⟩
  · split at h
    · split at h
      · rename_i w hw
        simp at h
        subst h
        have := List.find?_some hw
        have hm := List.mem_of_find?_eq_some hw
        exact List.any_eq_true.2 ⟨w, hm, this⟩
      · simp at h
    · simp at h

/-- The bytes of one word have different keys: offsets below 4 do not reach a mirror. -/
theorem byteKey_ne {p : Params} {a : Word} {i j : Nat} {k l : Nat} (hij : i ≠ j) (hi : i < 16) (hj : j < 16)
    (h1 : byteKey p (a + BitVec.ofNat 32 i) = some k) (h2 : byteKey p (a + BitVec.ofNat 32 j) = some l) : k ≠ l := by
  intro e
  subst e
  have c1 := byteKey_cases h1
  have c2 := byteKey_cases h2
  simp only [BitVec.toNat_add, BitVec.toNat_ofNat, Config.uncachedMirror] at c1 c2
  have ha := a.isLt
  omega

/-- Which bytes a successful check of an access names. -/
theorem byteKey_of_accessFault {p : Params} {a : Word} {n align j : Nat} (h : accessFault p a n align = none) (hj : j < n) :
    ∃ k, byteKey p (a + BitVec.ofNat 32 j) = some k := by
  unfold accessFault at h
  split at h
  · simp at h
  · split at h
    · rename_i hb
      unfold bytesResolve at hb
      split at hb
      · simp at hb
      · rename_i w k hw
        have hj' := List.all_eq_true.1 hb j (List.mem_range.2 hj)
        have hr : (resolve p (a + BitVec.ofNat 32 j)).map (·.1) = some w := of_decide_eq_true hj'
        cases hq : resolve p (a + BitVec.ofNat 32 j) with
        | none => simp [hq] at hr
        | some q => exact ⟨q.2, by simp [byteKey, hq]⟩
    · simp at h

/-! ### The guest's accesses -/

/-- The byte at an address depends on memory and the parameters alone. -/
theorem State.loadByte_congr {s t : State} (hm : t.mem = s.mem) (hc : t.cfg = s.cfg) (a : Word) : t.loadByte a = s.loadByte a := by
  simp [State.loadByte, hm, hc]

/-- Every byte reads as before where memory is the same. -/
theorem MemSame.of_eq {s t : State} (hm : t.mem = s.mem) (hc : t.cfg = s.cfg) : MemSame s t := fun a => State.loadByte_congr hm hc a

/-- A byte after a store of a byte: both aliases of an address change together (20_memory.md R82). -/
theorem State.storeByte_loadByte (s : State) (a b : Word) (v : Byte) (h : s.mem.wf = true) :
    (s.storeByte a v).loadByte b =
      if byteKey s.cfg b = byteKey s.cfg a ∧ (byteKey s.cfg a).isSome then v else s.loadByte b := by
  unfold State.storeByte State.loadByte
  cases ha : byteKey s.cfg a with
  | none => simp
  | some k =>
    cases hb : byteKey s.cfg b with
    | none => simp
    | some l => simp [Memory.readByte_writeByte _ _ _ _ h]

/-- A store of a byte keeps the canonical form. -/
theorem State.storeByte_wf (s : State) (a : Word) (v : Byte) (h : s.mem.wf = true) : (s.storeByte a v).mem.wf = true := by
  unfold State.storeByte
  split
  · exact Memory.wf_writeByte _ _ _ h
  · exact h

/-- A store of a byte keeps memory canonical and inside the windows. -/
theorem State.storeByte_memWf (s : State) (a : Word) (v : Byte) (h : s.memWf = true) : (s.storeByte a v).memWf = true := by
  unfold State.memWf at *
  rw [Bool.and_eq_true] at *
  refine ⟨State.storeByte_wf s a v h.1, ?_⟩
  rw [State.storeByte_cfg]
  refine List.all_eq_true.2 fun c hc => ?_
  unfold State.storeByte at hc
  split at hc
  · rename_i k hk
    rcases Memory.mem_writeByte _ _ _ _ hc with e | e
    · rw [e]
      exact byteKey_in_window hk
    · exact List.all_eq_true.1 h.2 c e
  · exact List.all_eq_true.1 h.2 c hc

/-! ### Halfwords and words -/

/-- What a byte reads as after a store of a halfword: the byte it names of the stored ones, the last one counting, else the old byte. -/
theorem State.storeHalf_loadByte (s : State) (a b : Word) (v : Half) (h : s.mem.wf = true) :
    (s.storeHalf a v).loadByte b =
      if byteKey s.cfg b = byteKey s.cfg (a + 1#32) ∧ (byteKey s.cfg (a + 1#32)).isSome then v.extractLsb' 8 8
      else if byteKey s.cfg b = byteKey s.cfg a ∧ (byteKey s.cfg a).isSome then v.extractLsb' 0 8
      else s.loadByte b := by
  unfold State.storeHalf
  rw [State.storeByte_loadByte _ _ _ _ (State.storeByte_wf _ _ _ h), State.storeByte_loadByte _ _ _ _ h]
  simp only [State.storeByte_cfg]

/-- The same for a word. -/
theorem State.storeWord_loadByte (s : State) (a b : Word) (v : Word) (h : s.mem.wf = true) :
    (s.storeWord a v).loadByte b =
      if byteKey s.cfg b = byteKey s.cfg (a + 3#32) ∧ (byteKey s.cfg (a + 3#32)).isSome then v.extractLsb' 24 8
      else if byteKey s.cfg b = byteKey s.cfg (a + 2#32) ∧ (byteKey s.cfg (a + 2#32)).isSome then v.extractLsb' 16 8
      else if byteKey s.cfg b = byteKey s.cfg (a + 1#32) ∧ (byteKey s.cfg (a + 1#32)).isSome then v.extractLsb' 8 8
      else if byteKey s.cfg b = byteKey s.cfg a ∧ (byteKey s.cfg a).isSome then v.extractLsb' 0 8
      else s.loadByte b := by
  unfold State.storeWord
  have h1 := State.storeByte_wf s a (v.extractLsb' 0 8) h
  have h2 := State.storeByte_wf _ (a + 1#32) (v.extractLsb' 8 8) h1
  have h3 := State.storeByte_wf _ (a + 2#32) (v.extractLsb' 16 8) h2
  rw [State.storeByte_loadByte _ _ _ _ h3, State.storeByte_loadByte _ _ _ _ h2, State.storeByte_loadByte _ _ _ _ h1,
    State.storeByte_loadByte _ _ _ _ h]
  simp only [State.storeByte_cfg]

/-- A store of a halfword keeps the canonical form. -/
theorem State.storeHalf_wf (s : State) (a : Word) (v : Half) (h : s.mem.wf = true) : (s.storeHalf a v).mem.wf = true :=
  State.storeByte_wf _ _ _ (State.storeByte_wf _ _ _ h)

/-- A store of a word keeps the canonical form. -/
theorem State.storeWord_wf (s : State) (a : Word) (v : Word) (h : s.mem.wf = true) : (s.storeWord a v).mem.wf = true :=
  State.storeByte_wf _ _ _ (State.storeByte_wf _ _ _ (State.storeByte_wf _ _ _ (State.storeByte_wf _ _ _ h)))

/-- A store of a halfword keeps memory canonical and inside the windows. -/
theorem State.storeHalf_memWf (s : State) (a : Word) (v : Half) (h : s.memWf = true) : (s.storeHalf a v).memWf = true :=
  State.storeByte_memWf _ _ _ (State.storeByte_memWf _ _ _ h)

/-- A store of a word keeps memory canonical and inside the windows. -/
theorem State.storeWord_memWf (s : State) (a : Word) (v : Word) (h : s.memWf = true) : (s.storeWord a v).memWf = true :=
  State.storeByte_memWf _ _ _ (State.storeByte_memWf _ _ _ (State.storeByte_memWf _ _ _ (State.storeByte_memWf _ _ _ h)))

/-- The keys of the bytes of one accessible word are there and differ. -/
theorem byteKey_offsets {p : Params} {a : Word} {n al : Nat} (h : accessFault p a n al = none) (hn : n ≤ 16) {i j : Nat} (hi : i < n)
    (hj : j < n) : byteKey p (a + BitVec.ofNat 32 i) = byteKey p (a + BitVec.ofNat 32 j) ↔ i = j := by
  constructor
  · intro e
    obtain ⟨k, hk⟩ := byteKey_of_accessFault h hi
    obtain ⟨l, hl⟩ := byteKey_of_accessFault h hj
    by_contra hne
    exact byteKey_ne hne (by omega) (by omega) hk hl (by rw [hk, hl] at e; exact Option.some.inj e)
  · rintro rfl
    rfl

/-- Byte `j` of a stored word (20_memory.md R91). -/
theorem State.storeWord_loadByte_self (s : State) (a : Word) (v : Word) (h : s.mem.wf = true) (hacc : Accessible s a 4 4) (j : Nat)
    (hj : j < 4) : (s.storeWord a v).loadByte (a + BitVec.ofNat 32 j) = v.extractLsb' (8 * j) 8 := by
  rw [State.storeWord_loadByte s a _ v h]
  have e0 : a = a + BitVec.ofNat 32 0 := by simp
  have key := fun i hi => byteKey_offsets hacc (by omega) (i := j) (j := i) hj hi
  have some' := fun i (hi : i < 4) => byteKey_of_accessFault hacc hi
  have k0 := key 0 (by omega)
  have k1 := key 1 (by omega)
  have k2 := key 2 (by omega)
  have k3 := key 3 (by omega)
  obtain ⟨w0, s0⟩ := some' 0 (by omega)
  obtain ⟨w1, s1⟩ := some' 1 (by omega)
  obtain ⟨w2, s2⟩ := some' 2 (by omega)
  obtain ⟨w3, s3⟩ := some' 3 (by omega)
  rw [← e0] at k0 s0
  replace s0 := congrArg Option.isSome s0
  replace s1 := congrArg Option.isSome s1
  replace s2 := congrArg Option.isSome s2
  replace s3 := congrArg Option.isSome s3
  simp only [Option.isSome_some] at s0 s1 s2 s3
  simp only [k0, k1, k2, k3, s0, s1, s2, s3, and_true]
  interval_cases j <;> simp

/-- Byte `j` of a stored halfword. -/
theorem State.storeHalf_loadByte_self (s : State) (a : Word) (v : Half) (h : s.mem.wf = true) (hacc : Accessible s a 2 2) (j : Nat)
    (hj : j < 2) : (s.storeHalf a v).loadByte (a + BitVec.ofNat 32 j) = v.extractLsb' (8 * j) 8 := by
  rw [State.storeHalf_loadByte s a _ v h]
  have e0 : a = a + BitVec.ofNat 32 0 := by simp
  have key := fun i hi => byteKey_offsets hacc (by omega) (i := j) (j := i) hj hi
  have k0 := key 0 (by omega)
  have k1 := key 1 (by omega)
  obtain ⟨w0, s0⟩ := byteKey_of_accessFault hacc (j := 0) (by omega)
  obtain ⟨w1, s1⟩ := byteKey_of_accessFault hacc (j := 1) (by omega)
  rw [← e0] at k0 s0
  replace s0 := congrArg Option.isSome s0
  replace s1 := congrArg Option.isSome s1
  simp only [Option.isSome_some] at s0 s1
  simp only [k0, k1, s0, s1, and_true]
  interval_cases j <;> simp

/-- A byte outside the stored ones reads as before. -/
theorem State.storeWord_loadByte_of_outside (s : State) (a b : Word) (v : Word) (h : s.mem.wf = true) (ho : OutsideBytes s.cfg a 4 b) :
    (s.storeWord a v).loadByte b = s.loadByte b := by
  have e0 : a = a + BitVec.ofNat 32 0 := by simp
  have h0 := ho 0 (by omega)
  rw [← e0] at h0
  rw [State.storeWord_loadByte s a b v h]
  simp only [ho 3 (by omega), ho 2 (by omega), ho 1 (by omega), h0, false_and, if_false]

theorem State.storeHalf_loadByte_of_outside (s : State) (a b : Word) (v : Half) (h : s.mem.wf = true) (ho : OutsideBytes s.cfg a 2 b) :
    (s.storeHalf a v).loadByte b = s.loadByte b := by
  have e0 : a = a + BitVec.ofNat 32 0 := by simp
  have h0 := ho 0 (by omega)
  rw [← e0] at h0
  rw [State.storeHalf_loadByte s a b v h]
  simp only [ho 1 (by omega), h0, false_and, if_false]

theorem State.storeByte_loadByte_of_outside (s : State) (a b : Word) (v : Byte) (h : s.mem.wf = true) (ho : OutsideBytes s.cfg a 1 b) :
    (s.storeByte a v).loadByte b = s.loadByte b := by
  have e0 : a = a + BitVec.ofNat 32 0 := by simp
  have h0 := ho 0 (by omega)
  rw [← e0] at h0
  rw [State.storeByte_loadByte s a b v h]
  simp only [h0, false_and, if_false]

/-- The stored byte. -/
theorem State.storeByte_loadByte_self (s : State) (a : Word) (v : Byte) (h : s.mem.wf = true) (hacc : Accessible s a 1 1) :
    (s.storeByte a v).loadByte a = v := by
  obtain ⟨w0, s0⟩ := byteKey_of_accessFault hacc (j := 0) (by omega)
  rw [State.storeByte_loadByte s a a v h]
  simp only [BitVec.add_zero] at s0
  simp [s0]

/-- A word is the four bytes it is made of. -/
theorem wordOfBytes_eq (v : Word) :
    wordOfBytes (v.extractLsb' 0 8) (v.extractLsb' 8 8) (v.extractLsb' 16 8) (v.extractLsb' 24 8) = v := by
  unfold wordOfBytes
  apply BitVec.eq_of_getLsbD_eq
  intro i hi
  repeat rw [BitVec.getLsbD_append]
  interval_cases i <;> simp

/-- A stored word reads back (20_memory.md R90, R91). -/
theorem State.storeWord_loadWord (s : State) (a : Word) (v : Word) (h : s.mem.wf = true) (hacc : Accessible s a 4 4) :
    (s.storeWord a v).loadWord a = v := by
  have k := State.storeWord_loadByte_self s a v h hacc
  have k0 := k 0 (by omega)
  have k1 := k 1 (by omega)
  have k2 := k 2 (by omega)
  have k3 := k 3 (by omega)
  simp only [BitVec.add_zero] at k0 k1 k2 k3
  rw [State.loadWord, k0, k1, k2, k3]
  exact wordOfBytes_eq v

/-- A stored halfword reads back. -/
theorem State.storeHalf_loadHalf (s : State) (a : Word) (v : Half) (h : s.mem.wf = true) (hacc : Accessible s a 2 2) :
    (s.storeHalf a v).loadHalf a = v := by
  have k := State.storeHalf_loadByte_self s a v h hacc
  have k0 := k 0 (by omega)
  have k1 := k 1 (by omega)
  simp only [BitVec.add_zero] at k0 k1
  rw [State.loadHalf, k0, k1]
  apply BitVec.eq_of_getLsbD_eq
  intro i hi
  rw [BitVec.getLsbD_append]
  interval_cases i <;> simp

/-- Stores change memory alone. -/
theorem State.storeByte_rest (s : State) (a : Word) (v : Byte) : (s.storeByte a v).cpu = s.cpu ∧ RestSame s (s.storeByte a v) := by
  refine ⟨?_, by constructor <;> simp⟩
  unfold State.storeByte
  split <;> rfl

theorem State.storeHalf_rest (s : State) (a : Word) (v : Half) : (s.storeHalf a v).cpu = s.cpu ∧ RestSame s (s.storeHalf a v) := by
  refine ⟨?_, by constructor <;> simp⟩
  simp only [State.storeHalf, State.storeByte_rest]

theorem State.storeWord_rest (s : State) (a : Word) (v : Word) : (s.storeWord a v).cpu = s.cpu ∧ RestSame s (s.storeWord a v) := by
  refine ⟨?_, by constructor <;> simp⟩
  simp only [State.storeWord, State.storeByte_rest]

end Sys2Proof.Machine
end

