-- ==== Sys2Proof/Laws/Frames.lean ====
section
/-! SUPPORT. Laws/Frames.lean: one lemma per shared ending of a meaning: everything it changes, and that it changes nothing else. The
statements about instructions cite these and unfold no frame. -/

namespace Sys2Proof.Machine

open Sys2Proof

/-- What an instruction answers that completes. -/
theorem done_eq (s : State) : done s = .next s.advance := rfl

@[simp] theorem RestSame.refl (s : State) : RestSame s s := ⟨rfl, rfl, rfl, rfl, rfl, rfl⟩

@[simp] theorem MemSame.refl (s : State) : MemSame s s := fun _ => rfl

@[simp] theorem TransferSame.refl (s : State) : TransferSame s s := ⟨rfl, rfl, rfl⟩

/-! ### Reading after `advance` -/

@[simp] theorem State.advance_x (s : State) (r : GReg) : s.advance.x r = s.x r := by simp [State.advance]
@[simp] theorem State.advance_f (s : State) (r : FReg) : s.advance.f r = s.f r := by simp [State.advance]
@[simp] theorem State.advance_vr (s : State) (r : VReg) : s.advance.vr r = s.vr r := by simp [State.advance]
@[simp] theorem State.advance_vc (s : State) (r : CReg) : s.advance.vc r = s.vc r := by simp [State.advance]
@[simp] theorem State.advance_hi (s : State) : s.advance.cpu.hi = s.cpu.hi := rfl
@[simp] theorem State.advance_lo (s : State) : s.advance.cpu.lo = s.cpu.lo := rfl
@[simp] theorem State.advance_pc (s : State) : s.advance.cpu.pc = s.cpu.pc + 4#32 := rfl
@[simp] theorem State.advance_fcr31 (s : State) : s.advance.cpu.fcr31 = s.cpu.fcr31 := rfl
@[simp] theorem State.advance_fpcond (s : State) : s.advance.cpu.fpcond = s.cpu.fpcond := rfl
@[simp] theorem State.advance_llBit (s : State) : s.advance.cpu.llBit = s.cpu.llBit := rfl
@[simp] theorem State.advance_branchPC (s : State) : s.advance.cpu.branchPC = s.cpu.branchPC := rfl
@[simp] theorem State.advance_requiredBranching (s : State) : s.advance.cpu.requiredBranching = s.cpu.requiredBranching := rfl
@[simp] theorem State.advance_requiredJumping (s : State) : s.advance.cpu.requiredJumping = s.cpu.requiredJumping := rfl
@[simp] theorem State.advance_mem (s : State) : s.advance.mem = s.mem := rfl
@[simp] theorem State.advance_failure (s : State) : s.advance.failure = s.failure := rfl
@[simp] theorem State.advance_refused (s : State) : s.advance.refused = s.refused := rfl
@[simp] theorem State.advance_sched (s : State) : s.advance.sched = s.sched := rfl
@[simp] theorem State.advance_cfg (s : State) : s.advance.cfg = s.cfg := rfl
@[simp] theorem State.advance_ir (s : State) : s.advance.ir = s.ir := rfl
@[simp] theorem State.advance_drawCount (s : State) : s.advance.drawCount = s.drawCount := rfl
@[simp] theorem State.advance_loadByte (s : State) (a : Word) : s.advance.loadByte a = s.loadByte a := rfl
@[simp] theorem State.advance_loadHalf (s : State) (a : Word) : s.advance.loadHalf a = s.loadHalf a := rfl
@[simp] theorem State.advance_loadWord (s : State) (a : Word) : s.advance.loadWord a = s.loadWord a := rfl

/-! ### The endings -/

/-- A no-operation. -/
theorem onlyPc_done (s : State) : OnlyPc s s.advance := by
  constructor <;> first | exact fun _ => by simp | (constructor <;> simp)

/-- Writing `x[rd]`. -/
theorem onlyX_done (rd : GReg) (v : Word) (s : State) : OnlyX rd s (s.setX rd v).advance := by
  constructor
  · simp [Advanced]
  · exact fun r h => by simp [State.setX_x_of_ne s v h]
  · exact fun _ => by simp
  · exact fun _ => by simp
  · exact fun _ => by simp
  · constructor <;> simp
  · constructor <;> simp
  · constructor <;> simp
  · exact MemSame.of_eq (by simp) (by simp)
  · constructor <;> simp

/-- Writing `x[rd]`, of which register 0 takes nothing. -/
theorem writesX_done (rd : GReg) (v : Word) (s : State) : WritesX rd v s (s.setX rd v).advance :=
  ⟨by simp, onlyX_done rd v s⟩

/-- Writing `f[fd]`. -/
theorem writesF_done (fd : FReg) (v : Word) (s : State) : WritesF fd v s (s.setF fd v).advance := by
  refine ⟨by simp [State.setF_f], ?_⟩
  constructor
  · simp [Advanced]
  · exact fun _ => by simp
  · exact fun r h => by simp [State.setF_f, h]
  · exact fun _ => by simp
  · exact fun _ => by simp
  · constructor <;> simp
  · constructor <;> simp
  · constructor <;> simp
  · exact MemSame.of_eq (by simp) (by simp)
  · constructor <;> simp

/-- Writing the `HL` pair. -/
theorem onlyHiLo_done_setHl (v : DWord) (s : State) : (s.setHl v).advance.hl = v ∧ OnlyHiLo s (s.setHl v).advance := by
  unfold State.setHl
  constructor
  · simp only [State.hl, State.advance_hi, State.advance_lo, State.setHi, State.setLo]
    apply BitVec.eq_of_getLsbD_eq
    intro i hi
    rw [BitVec.getLsbD_append]
    by_cases h : i < 32
    · simp [h]
    · simp only [h, if_false, BitVec.getLsbD_extractLsb']
      rw [show 32 + (i - 32) = i by omega]
      simp
      omega
  · constructor
    · simp [Advanced]
    · exact fun _ => by simp
    · exact fun _ => by simp
    · exact fun _ => by simp
    · exact fun _ => by simp
    · constructor <;> simp
    · constructor <;> simp
    · exact MemSame.of_eq (by simp) (by simp)
    · constructor <;> simp

/-- Writing `lo` and `hi`. -/
theorem onlyHiLo_done (l h : Word) (s : State) : OnlyHiLo s ((s.setLo l).setHi h).advance := by
  constructor
  · simp [Advanced]
  · exact fun _ => by simp
  · exact fun _ => by simp
  · exact fun _ => by simp
  · exact fun _ => by simp
  · constructor <;> simp
  · constructor <;> simp
  · exact MemSame.of_eq (by simp) (by simp)
  · constructor <;> simp

/-- Writing `hi` alone. -/
theorem onlyHiLo_done_setHi (v : Word) (s : State) : OnlyHiLo s (s.setHi v).advance := onlyHiLo_done s.cpu.lo v s

/-- Writing `lo` alone. -/
theorem onlyHiLo_done_setLo (v : Word) (s : State) : OnlyHiLo s (s.setLo v).advance := onlyHiLo_done v s.cpu.hi s

/-- Writing a VFPU control register. -/
theorem onlyVc_done (k : CReg) (v : Word) (s : State) : OnlyVc s (s.setVc k v).advance := by
  constructor
  · simp [Advanced]
  · exact fun _ => by simp
  · exact fun _ => by simp
  · exact fun _ => by simp
  · constructor <;> simp
  · constructor <;> simp
  · constructor <;> simp
  · exact MemSame.of_eq (by simp) (by simp)
  · constructor <;> simp

/-- Writing a VFPU slot. -/
theorem onlyVpr_done (k : VReg) (v : Word) (s : State) : OnlyVpr s (s.setVr k v).advance := by
  constructor
  · simp [Advanced]
  · exact fun _ => by simp
  · exact fun _ => by simp
  · exact fun _ => by simp
  · constructor <;> simp
  · constructor <;> simp
  · constructor <;> simp
  · exact MemSame.of_eq (by simp) (by simp)
  · constructor <;> simp

/-- Writing the COP1 condition. -/
theorem onlyCop1Control_done (b : Bool) (s : State) : OnlyCop1Control s (s.setFpcond b).advance := by
  constructor
  · simp [Advanced]
  · exact fun _ => by simp
  · exact fun _ => by simp
  · exact fun _ => by simp
  · exact fun _ => by simp
  · constructor <;> simp
  · simp
  · constructor <;> simp
  · exact MemSame.of_eq (by simp) (by simp)
  · constructor <;> simp

/-- A state that differs in memory alone, advanced. -/
theorem onlyMem_done {s t : State} (hc : t.cpu = s.cpu) (hr : RestSame s t) : OnlyMem s t.advance := by
  constructor
  · simp [Advanced, hc]
  · exact fun r => by rw [State.advance_x]; simp only [State.x, hc]
  · exact fun r => by rw [State.advance_f]; simp only [State.f, hc]
  · exact fun r => by rw [State.advance_vr]; simp only [State.vr, hc]
  · exact fun r => by rw [State.advance_vc]; simp only [State.vc, hc]
  · constructor <;> simp [hc]
  · constructor <;> simp [hc]
  · constructor <;> simp [hc]
  · exact ⟨by simp [hr.failure], by simp [hr.refused], by simp [hr.sched], by simp [hr.cfg], by simp [hr.ir], by simp [hr.drawCount]⟩

/-! ### Branches and jumps -/

/-- A conditional branch outside a delay slot ends as 41_branch.md R282 to R285 say, and changes nothing else. -/
theorem relBranch_spec (likely taken : Bool) (imm : Half) (s : State) (h : s.pending = false) :
    ∃ t, relBranch likely taken imm s = .next t ∧ BranchEnds likely taken imm s t ∧ OnlyTransfer (fun _ => False) s t := by
  refine ⟨_, by simp only [relBranch, outsideSlot, h]; rfl, ?_, ?_⟩
  · cases taken <;> cases likely <;>
      simp only [BranchEnds, branch, branchTarget, sext16, if_true, if_false, Bool.false_eq_true, Skipped] <;>
      exact ⟨by simp, by simp, by simp, by simp⟩
  · cases taken <;> cases likely <;> simp only [branch, if_true, if_false, Bool.false_eq_true] <;>
      exact ⟨fun _ _ => by simp, fun _ => by simp, fun _ => by simp, fun _ => by simp, ⟨by simp, by simp⟩, ⟨by simp, by simp, by simp⟩,
        MemSame.of_eq (by simp) (by simp), ⟨by simp, by simp, by simp, by simp, by simp, by simp⟩⟩

/-- In a delay slot it is refused (41_branch.md R287). -/
theorem relBranch_pending (likely taken : Bool) (imm : Half) (s : State) (h : s.pending = true) :
    relBranch likely taken imm s = .refused .ctiInDelaySlot := by
  simp [relBranch, outsideSlot, h, refuse]

/-! ### Failing and refused steps -/

/-- `raise` sets the latch alone (60_exceptions.md R701). -/
theorem raise_spec (c : FatalCause) (addr : Word) (s : State) (h : s.failure = none) :
    raise c addr s = .next { s with failure := some ⟨c, s.cpu.pc, s.ir, addr⟩ } := by
  simp [raise, State.latchFailure, h]

/-- The same, in the words of the statements. -/
theorem raise_fatalOnly (c : FatalCause) (addr : Word) (s : State) (h : s.failure = none) :
    ∃ t, raise c addr s = .next t ∧ FatalOnly c addr s t := ⟨_, raise_spec c addr s h, rfl⟩

/-- A checked access goes on where it is accessible. -/
theorem checked_ok {a : Word} {n al : Nat} {s : State} (r : Result) (h : Accessible s a n al) : checked a n al s r = r := by
  unfold Accessible at h
  simp [checked, h]

/-- Else it raises its fault. -/
theorem checked_fault {a : Word} {n al : Nat} {s : State} (r : Result) {c : FatalCause} (h : accessFault s.cfg a n al = some c) :
    checked a n al s r = raise c a s := by simp [checked, h]

/-- Which fault that is (20_memory.md R93, R94). -/
theorem accessFault_misaligned (p : Params) (a : Word) (n al : Nat) (h : a.toNat % al ≠ 0) :
    accessFault p a n al = some .misalignedData := by simp [accessFault, h]

theorem accessFault_unresolved (p : Params) (a : Word) (n al : Nat) (h : a.toNat % al = 0) (hr : bytesResolve p a n = false) :
    accessFault p a n al = some .dataAddress := by simp [accessFault, h, hr]

theorem accessFault_none (p : Params) (a : Word) (n al : Nat) (h : a.toNat % al = 0) (hr : bytesResolve p a n = true) :
    accessFault p a n al = none := by simp [accessFault, h, hr]

end Sys2Proof.Machine
end

