-- ==== Sys2Proof/Laws/Kernel.lean ====
section
/-! SUPPORT. Laws/Kernel.lean: the scheduler's objects after each change of one, the commands' shared steps and endings, the release of a
waiting thread, the poison, the entry of a handler, and what the end of an instruction changes. -/

namespace Sys2Proof.Machine

open Sys2Proof

/-! ### Looking a record up -/

/-- The record that a UID names has that UID. -/
theorem State.thread?_uid {s : State} {u : Word} {th : PSPThread} (h : s.thread? u = some th) : th.uid = u := by
  simpa using List.find?_some h

/-- The current thread is a thread of the table. -/
theorem State.currentThread?_thread? {s : State} {c : PSPThread} (h : s.currentThread? = some c) :
    s.sched.current = some c.uid ∧ s.thread? c.uid = some c := by
  unfold State.currentThread? at h
  split at h
  · rename_i u hu
    rw [State.thread?_uid h]
    exact ⟨hu, h⟩
  · exact absurd h (by simp)

theorem State.sema?_uid {s : State} {u : Word} {o : Semaphore} (h : s.sema? u = some o) : o.uid = u := by
  simpa using List.find?_some h

theorem State.eventFlag?_uid {s : State} {u : Word} {o : EventFlag} (h : s.eventFlag? u = some o) : o.uid = u := by
  simpa using List.find?_some h

theorem State.callback?_uid {s : State} {u : Word} {o : Callback} (h : s.callback? u = some o) : o.uid = u := by
  simpa using List.find?_some h

/-- Finding in a list of records after a change of the record with one key. -/
theorem find?_map_key {α : Type} (key : α → Word) (u v : Word) (f : α → α) (hf : ∀ a, key (f a) = key a) (l : List α) :
    (l.map fun a => if key a = u then f a else a).find? (fun a => key a == v) =
      if v = u then (l.find? fun a => key a == u).map f else l.find? fun a => key a == v := by
  induction l with
  | nil => by_cases h : v = u <;> simp [h]
  | cons a l ih =>
    by_cases ha : key a = u
    · by_cases hv : v = u
      · subst hv; simp [ha, hf]
      · have : key (f a) ≠ v := by rw [hf, ha]; exact fun e => hv e.symm
        have hav : key a ≠ v := by rw [ha]; exact fun e => hv e.symm
        simp only [List.map_cons, ha, if_true, hv, if_false] at ih ⊢
        simp [this, hav, ih]
    · by_cases hv : v = u
      · subst hv
        simp only [List.map_cons, ha, if_true, if_false] at ih ⊢
        simp [ha, ih]
      · simp only [List.map_cons, ha, hv, if_false] at ih ⊢
        simp [List.find?_cons, ih]

/-- The threads after the change of one of them. -/
theorem State.updateThread_thread? (s : State) (u v : Word) (f : PSPThread → PSPThread) (hf : ∀ t, (f t).uid = t.uid) :
    (s.updateThread u f).thread? v = if v = u then (s.thread? u).map f else s.thread? v :=
  find?_map_key PSPThread.uid u v f hf s.sched.threads

/-- The semaphores after the change of one of them. -/
theorem State.setSemaCount_sema? (s : State) (u v : Word) (n : Int) :
    (s.setSemaCount u n).sema? v = if v = u then (s.sema? u).map fun o => { o with count := n } else s.sema? v :=
  find?_map_key Semaphore.uid u v (fun o => { o with count := n }) (fun _ => rfl) s.sched.semaphores

/-- The event flags after the change of one of them. -/
theorem State.setEventBits_eventFlag? (s : State) (u v b : Word) :
    (s.setEventBits u b).eventFlag? v = if v = u then (s.eventFlag? u).map fun o => { o with bits := b } else s.eventFlag? v :=
  find?_map_key EventFlag.uid u v (fun o => { o with bits := b }) (fun _ => rfl) s.sched.eventFlags

/-- The callbacks after the change of one of them. -/
theorem State.updateCallback_callback? (s : State) (u v : Word) (f : Callback → Callback) (hf : ∀ q, (f q).uid = q.uid) :
    (s.updateCallback u f).callback? v = if v = u then (s.callback? u).map f else s.callback? v :=
  find?_map_key Callback.uid u v f hf s.sched.callbacks

/-- Finding in a list of records after the record with one key is removed. -/
theorem find?_filter_key {α β : Type} [BEq β] [LawfulBEq β] [DecidableEq β] (key : α → β) (u v : β) (l : List α) :
    (l.filter fun a => key a != u).find? (fun a => key a == v) = if v = u then none else l.find? fun a => key a == v := by
  induction l with
  | nil => simp
  | cons a l ih =>
    by_cases ha : key a = u
    · by_cases hv : v = u
      · subst hv; simp_all
      · have : key a ≠ v := fun e => hv (e.symm.trans ha)
        simp_all
    · by_cases hv : v = u
      · subst hv; simp_all
      · simp_all [List.find?_cons]

/-- The interrupt records after the removal of the one with a key. -/
theorem find?_otherIntrHandlers (num sub n m : Word) (l : List IntrHandler) :
    (otherIntrHandlers num sub l).find? (fun o => o.number == n && o.sub == m) =
      if n = num ∧ m = sub then none else l.find? fun o => o.number == n && o.sub == m := by
  have e := find?_filter_key (fun o : IntrHandler => (o.number, o.sub)) (num, sub) (n, m) l
  simp only [Prod.mk.injEq] at e
  exact e

/-! ### What a change of a thread keeps -/

@[simp] theorem State.updateThread_cpu (s : State) (u : Word) (f : PSPThread → PSPThread) : (s.updateThread u f).cpu = s.cpu := rfl
@[simp] theorem State.updateThread_mem (s : State) (u : Word) (f : PSPThread → PSPThread) : (s.updateThread u f).mem = s.mem := rfl
@[simp] theorem State.updateThread_cfg (s : State) (u : Word) (f : PSPThread → PSPThread) : (s.updateThread u f).cfg = s.cfg := rfl
@[simp] theorem State.updateThread_failure (s : State) (u : Word) (f : PSPThread → PSPThread) :
    (s.updateThread u f).failure = s.failure := rfl
@[simp] theorem State.updateThread_refused (s : State) (u : Word) (f : PSPThread → PSPThread) :
    (s.updateThread u f).refused = s.refused := rfl
@[simp] theorem State.updateThread_readyQueue (s : State) (u : Word) (f : PSPThread → PSPThread) :
    (s.updateThread u f).sched.readyQueue = s.sched.readyQueue := rfl
@[simp] theorem State.updateThread_waitingList (s : State) (u : Word) (f : PSPThread → PSPThread) :
    (s.updateThread u f).sched.waitingList = s.sched.waitingList := rfl
@[simp] theorem State.updateThread_current (s : State) (u : Word) (f : PSPThread → PSPThread) :
    (s.updateThread u f).sched.current = s.sched.current := rfl
@[simp] theorem State.updateThread_now (s : State) (u : Word) (f : PSPThread → PSPThread) :
    (s.updateThread u f).sched.now = s.sched.now := rfl

/-- The priorities after a change of a thread that keeps its priority. -/
theorem State.updateThread_priorityOf (s : State) (u v : Word) (f : PSPThread → PSPThread) (hu : ∀ t, (f t).uid = t.uid)
    (hp : ∀ t, (f t).priority = t.priority) : (s.updateThread u f).priorityOf v = s.priorityOf v := by
  unfold State.priorityOf
  rw [State.updateThread_thread? s u v f hu]
  by_cases h : v = u
  · subst h
    cases hv : s.thread? v <;> simp [hp]
  · simp [h]

/-! ### The commands' endings -/

/-- A command's result is in `x[2]`, and nothing else has changed (48_scheduler.md R651). -/
theorem answer_spec (v : Word) (s : State) : ∃ t, answer v s = .next t ∧ t.x 2#5 = v ∧ GprSameBut 2#5 s t ∧ t.mem = s.mem ∧
    t.sched = s.sched ∧ t.cpu.pc = s.cpu.pc :=
  ⟨_, rfl, State.setX_x_self s 2#5 v, fun r h => State.setX_x_of_ne s v h, by simp, by simp, by simp⟩

/-- A command's answer (48_scheduler.md R651) from a state that the command has changed in its scheduler only. -/
theorem answer_answered (v : Word) {s u : State} (hc : CoreSame s u) (hm : u.mem = s.mem) :
    ∃ t, answer v u = .next t ∧ Answered v s t ∧ t.sched = u.sched := by
  obtain ⟨hcpu, hf, hr, hcfg, hir⟩ := hc
  have hx : ∀ r, u.x r = s.x r := fun r => by simp [State.x, hcpu]
  refine ⟨_, rfl, ⟨State.setX_x_self u 2#5 v, fun r h => (State.setX_x_of_ne u v h).trans (hx r), ?_, ?_, ?_, ?_, ?_, ?_, ?_, ?_, ?_, ?_, ?_, ?_⟩, by simp⟩
  all_goals first
    | (intro r; simp [State.f, State.vr, State.vc, State.setX, hcpu])
    | (constructor <;> simp [State.setX, hcpu])
    | simp [State.setX, *]

/-- A command's answer, with what its caller says of the scheduler it leaves. -/
theorem answer_answered_and (v : Word) {s u : State} (hc : CoreSame s u) (hm : u.mem = s.mem) {P : State → Prop}
    (hP : ∀ t, t.sched = u.sched → P t) : ∃ t, answer v u = .next t ∧ Answered v s t ∧ P t := by
  obtain ⟨t, h, ha, hs⟩ := answer_answered v hc hm
  exact ⟨t, h, ha, hP t hs⟩

/-- `block` (48_scheduler.md R653): the caller waits, last on the waiting list; nothing else changes. -/
theorem block_blocked {s : State} {c : PSPThread} (h : s.thread? c.uid = some c) (w : Wait) (d : Option Nat) (cb : Bool) :
    ∃ t, block c w d cb s = .next t ∧ Blocked c w d cb s t := by
  have look := fun v => State.updateThread_thread? s c.uid v
    (fun th => { th with status := .waiting, wait := w, deadline := d, callbackPending := cb }) (fun _ => rfl)
  refine ⟨_, rfl, ⟨rfl, rfl, rfl, rfl, rfl⟩, rfl, ?_, fun v hv => ?_, rfl, rfl⟩
  · have e := look c.uid
    rw [if_pos rfl, h] at e
    exact e
  · have e := look v
    rw [if_neg hv] at e
    exact e

/-! ### UIDs and the ready queue -/

/-- The candidates of one draw are distinct. -/
theorem uidCandidate_inj {start i j : Nat} (hi : i < 2 ^ 31 - 1) (hj : j < 2 ^ 31 - 1) (h : uidCandidate start i = uidCandidate start j) : i = j := by
  have h' := congrArg BitVec.toNat h
  simp only [uidCandidate, BitVec.toNat_ofNat] at h'
  omega

/-- A UID can be issued while fewer than all have been (48_scheduler.md R621): it is positive and new. -/
theorem State.freshUid_spec {s : State} (h : s.sched.uids.length < 2 ^ 31 - 1) :
    ∃ u, s.freshUid = some u ∧ u ∉ s.sched.uids ∧ 0 < u.toInt := by
  have hfind : s.freshUid.isSome := by
    by_contra hn
    simp only [State.freshUid, List.find?_isSome, List.mem_map, List.mem_range] at hn
    push Not at hn
    have hsub : (Finset.range (s.sched.uids.length + 1)).image (uidCandidate (s.free 0).toNat) ⊆ s.sched.uids.toFinset := by
      intro w hw
      obtain ⟨k, hk, rfl⟩ := Finset.mem_image.mp hw
      have := hn _ ⟨k, Finset.mem_range.mp hk, rfl⟩
      simpa using this
    have hcard := Finset.card_le_card hsub
    rw [Finset.card_image_of_injOn, Finset.card_range] at hcard
    · have := s.sched.uids.toFinset_card_le
      omega
    · intro i hi j hj e
      simp only [Finset.coe_range, Set.mem_Iio] at hi hj
      exact uidCandidate_inj (by omega) (by omega) e
  obtain ⟨u, hu⟩ := Option.isSome_iff_exists.mp hfind
  refine ⟨u, hu, by simpa using List.find?_some hu, ?_⟩
  have hm := List.mem_of_find?_eq_some hu
  simp only [List.mem_map, List.mem_range] at hm
  obtain ⟨k, -, rfl⟩ := hm
  have : (uidCandidate (s.free 0).toNat k).toNat = 1 + ((s.free 0).toNat + k) % (2 ^ 31 - 1) := by
    simp only [uidCandidate, BitVec.toNat_ofNat]; omega
  rw [BitVec.toInt_eq_toNat_of_lt (by omega)]
  omega

/-- Where `enqueueReady` places a thread in an ordered queue (48_scheduler.md R624). -/
theorem insertReady_split (prio : Word → Nat) (u : Word) (p : Nat) (q : List Word) (h : q.Pairwise fun v w => prio v ≤ prio w) :
    ∃ q₁ q₂, q = q₁ ++ q₂ ∧ insertReady prio u p q = q₁ ++ u :: q₂ ∧ (∀ v, v ∈ q₁ → prio v ≤ p) ∧ ∀ v, v ∈ q₂ → p < prio v := by
  induction q with
  | nil => exact ⟨[], [], by simp [insertReady]⟩
  | cons w q ih =>
    obtain ⟨hw, hq⟩ := List.pairwise_cons.mp h
    unfold insertReady
    by_cases hp : p < prio w
    · refine ⟨[], w :: q, by simp, by simp [hp], by simp, fun v hv => ?_⟩
      rcases List.mem_cons.mp hv with rfl | hv
      · exact hp
      · exact lt_of_lt_of_le hp (hw v hv)
    · obtain ⟨q₁, q₂, rfl, e, h₁, h₂⟩ := ih hq
      refine ⟨w :: q₁, q₂, rfl, by simp [hp, e], fun v hv => ?_, h₂⟩
      rcases List.mem_cons.mp hv with rfl | hv
      · omega
      · exact h₁ v hv

/-- What `enqueueReady` does where there is room (48_scheduler.md R624). -/
theorem enqueueReady_spec {s : State} {u : Word} {th : PSPThread} (h : s.thread? u = some th)
    (room : s.sched.readyQueue.length < s.cfg.readyCapacity) : ∃ t, enqueueReady u s = .next t ∧ CoreSame s t ∧ t.mem = s.mem ∧
      t.thread? u = some { th with status := .ready } ∧ (∀ v, v ≠ u → t.thread? v = s.thread? v) ∧
      t.sched.readyQueue = insertReady s.priorityOf u th.priority s.sched.readyQueue ∧
      { t.sched with threads := s.sched.threads, readyQueue := s.sched.readyQueue } = s.sched := by
  let f : PSPThread → PSPThread := fun r => { r with status := .ready }
  have look := fun v => State.updateThread_thread? s u v f (fun _ => rfl)
  have prio : (s.updateThread u f).priorityOf = s.priorityOf :=
    funext fun v => State.updateThread_priorityOf s u v f (fun _ => rfl) (fun _ => rfl)
  have hu : s.priorityOf u = th.priority := by simp [State.priorityOf, h]
  refine ⟨_, if_neg (by omega), ⟨rfl, rfl, rfl, rfl, rfl⟩, rfl, ?_, fun v hv => ?_, ?_, rfl⟩
  · have e := look u
    rw [if_pos rfl, h] at e
    exact e
  · have e := look v
    rw [if_neg hv] at e
    exact e
  · change insertReady (s.updateThread u f).priorityOf u ((s.updateThread u f).priorityOf u) s.sched.readyQueue = _
    rw [prio, hu]

/-- Without room `enqueueReady` is refused (48_scheduler.md R624). -/
theorem enqueueReady_full {s : State} (u : Word) (full : s.cfg.readyCapacity ≤ s.sched.readyQueue.length) :
    enqueueReady u s = .refused .unmodelledKernelCase := if_pos (by omega)

/-! ### The release of a waiting thread (48_scheduler.md R642) -/

/-- What `release` does after the result is set, where there is room: from a state `s` that differs from `s₀` in memory, in the semaphores and
event flags, and in the record of the thread, which is not current. -/
theorem setResult_release_spec {s₀ s : State} {u : Word} {th₀ th : PSPThread} (core : CoreSame s₀ s) (notCurrent : s₀.sched.current ≠ some u)
    (h₀ : s₀.thread? u = some th₀) (h : s.thread? u = some th) (priority : th.priority = th₀.priority)
    (others : ∀ w, w ≠ u → s.thread? w = s₀.thread? w)
    (rest : { s.sched with
      threads := s₀.sched.threads, semaphores := s₀.sched.semaphores, eventFlags := s₀.sched.eventFlags } = s₀.sched)
    (room : s₀.sched.readyQueue.length < s₀.cfg.readyCapacity) (v : Word) :
    ∃ t, release u (s.setResult u v) = .next t ∧ Released u th v s₀ t ∧ t.mem = s.mem ∧
      t.sched.semaphores = s.sched.semaphores ∧ t.sched.eventFlags = s.sched.eventFlags := by
  let f : PSPThread → PSPThread := fun r => { r with ctx := { r.ctx with gpr := r.ctx.gpr.set 2 v } }
  let g : PSPThread → PSPThread := fun r => { r with callbackPending := false, wait := .none, deadline := none }
  let t₁ := s.updateThread u f
  let t₂ := t₁.updateThread u g
  let t₃ : State := { t₂ with sched := { t₂.sched with waitingList := t₂.sched.waitingList.filter fun w => w != u } }
  have queue : s.sched.readyQueue = s₀.sched.readyQueue := by have e := congrArg (fun x : Scheduler => x.readyQueue) rest; exact e
  have list : s.sched.waitingList = s₀.sched.waitingList := by have e := congrArg (fun x : Scheduler => x.waitingList) rest; exact e
  have current : s.sched.current = s₀.sched.current := by have e := congrArg (fun x : Scheduler => x.current) rest; exact e
  have set : s.setResult u v = t₁ := if_neg (by rw [current]; exact notCurrent)
  have look₁ := fun w => State.updateThread_thread? s u w f (fun _ => rfl)
  have look₂ := fun w => State.updateThread_thread? t₁ u w g (fun _ => rfl)
  have lookU : t₃.thread? u = some (g (f th)) := by
    have e₂ := look₂ u
    have e₁ := look₁ u
    rw [if_pos rfl, h] at e₁
    rw [if_pos rfl, e₁] at e₂
    exact e₂
  have lookW : ∀ w, w ≠ u → t₃.thread? w = s₀.thread? w := fun w hw => by
    have e₂ := look₂ w
    have e₁ := look₁ w
    rw [if_neg hw] at e₁ e₂
    exact e₂.trans (e₁.trans (others w hw))
  have prio : t₃.priorityOf = s₀.priorityOf := funext fun w => by
    unfold State.priorityOf
    by_cases hw : w = u
    · subst hw; rw [lookU, h₀]; exact priority
    · rw [lookW w hw]
  obtain ⟨t, e, hcore, hmem, hth, hot, hq, hr⟩ := enqueueReady_spec lookU (show s.sched.readyQueue.length < s.cfg.readyCapacity by
    rw [queue, core.cfg]; exact room)
  have field {α : Type} (p : Scheduler → α) := congrArg p hr
  refine ⟨t, by rw [set]; exact e, ⟨⟨hcore.cpu.trans core.cpu, hcore.failure.trans core.failure, hcore.refused.trans core.refused,
    hcore.cfg.trans core.cfg, hcore.ir.trans core.ir⟩, hth, fun w hw => (hot w hw).trans (lookW w hw), ?_, ?_, ?_⟩, hmem,
    field fun x => x.semaphores, field fun x => x.eventFlags⟩
  · rw [hq, prio, show t₃.sched.readyQueue = s₀.sched.readyQueue from queue]
  · rw [show t.sched.waitingList = t₃.sched.waitingList from field fun x => x.waitingList]
    change (s.sched.waitingList.filter fun w => w != u) = _
    rw [list]
    exact congrArg (fun p => s₀.sched.waitingList.filter p) (funext fun w => by by_cases hw : w = u <;> simp [hw])
  · have a := field fun x : Scheduler => { x with
      threads := s₀.sched.threads, readyQueue := s₀.sched.readyQueue, waitingList := s₀.sched.waitingList
      semaphores := s₀.sched.semaphores, eventFlags := s₀.sched.eventFlags }
    have b := congrArg (fun x : Scheduler => { x with readyQueue := s₀.sched.readyQueue, waitingList := s₀.sched.waitingList }) rest
    exact a.trans b

/-! ### The arrivals of a quantum (92_eei_decisions.md D96) -/

theorem sourceBefore_iff {p q : Word × Word} : sourceBefore p q = true ↔ p.1 < q.1 ∨ p.1 = q.1 ∧ p.2 < q.2 := by simp [sourceBefore]

theorem mem_insertSource {p q : Word × Word} {l : List (Word × Word)} : q ∈ insertSource p l ↔ q = p ∨ q ∈ l := by
  induction l with
  | nil => simp [insertSource]
  | cons r rest ih =>
    simp only [insertSource]
    split
    · simp
    · split
      · rename_i h; subst h; simp
      · simp [ih, or_left_comm]

/-- Of two sources one is before the other, or they are one. -/
theorem sourceBefore_total {p q : Word × Word} (h : sourceBefore p q = false) (hn : p ≠ q) : sourceBefore q p = true := by
  obtain ⟨a, b⟩ := p
  obtain ⟨c, d⟩ := q
  rw [← Bool.not_eq_true, sourceBefore_iff] at h
  rw [sourceBefore_iff]
  have e : ¬ (a = c ∧ b = d) := fun k => hn (by rw [k.1, k.2])
  simp only [BitVec.lt_def, ← BitVec.toNat_inj] at *
  omega

theorem sourceBefore_trans {p q r : Word × Word} (h : sourceBefore p q = true) (k : sourceBefore q r = true) : sourceBefore p r = true := by
  rw [sourceBefore_iff] at *
  simp only [BitVec.lt_def, ← BitVec.toNat_inj] at *
  omega

theorem insertSource_sorted {p : Word × Word} {l : List (Word × Word)} (h : l.Pairwise fun a b => sourceBefore a b = true) :
    (insertSource p l).Pairwise fun a b => sourceBefore a b = true := by
  induction l with
  | nil => simp [insertSource]
  | cons q rest ih =>
    obtain ⟨hq, hr⟩ := List.pairwise_cons.mp h
    simp only [insertSource]
    split
    · rename_i hp
      refine List.pairwise_cons.mpr ⟨fun a ha => ?_, h⟩
      rcases List.mem_cons.mp ha with rfl | ha
      · exact hp
      · exact sourceBefore_trans hp (hq a ha)
    · split
      · exact h
      · rename_i hp hn
        refine List.pairwise_cons.mpr ⟨fun a ha => ?_, ih hr⟩
        rcases mem_insertSource.mp ha with rfl | ha
        · exact sourceBefore_total (Bool.not_eq_true _ ▸ hp) hn
        · exact hq a ha

/-- The sources of a quantum are those of the parameter whose draw says so, each once, in ascending order. -/
theorem State.arrivingSources_spec (s : State) :
    (s.arrivingSources.Pairwise fun a b => sourceBefore a b = true) ∧
    ∀ p, p ∈ s.arrivingSources ↔ p ∈ s.cfg.intrSources ∧ Config.intrArrives s.drawCount p = true := by
  have key (l : List (Word × Word)) : ((l.foldr insertSource []).Pairwise fun a b => sourceBefore a b = true) ∧
      ∀ p, p ∈ l.foldr insertSource [] ↔ p ∈ l := by
    induction l with
    | nil => simp
    | cons q rest ih => exact ⟨insertSource_sorted ih.1, fun p => by simp [mem_insertSource, ih.2]⟩
  exact ⟨(key _).1, fun p => by rw [State.arrivingSources, (key _).2, List.mem_filter]⟩

/-! ### The shared steps of the commands -/

/-- A command goes on after a step that raised no failure. -/
theorem andThen_next {s : State} (h : s.failure = none) (k : State → Result) : andThen (.next s) k = k s := by simp [andThen, h]

/-- An action of an external handler acts as written or is refused (44_system.md R401). -/
theorem onceOnly_cases (exits : Bool) (s : State) (r : Result) :
    onceOnly exits s r = r ∨ onceOnly exits s r = refuse .callerNotRunning := by
  unfold onceOnly
  split
  · split
    · exact .inr rfl
    · exact .inl rfl
  · exact .inl rfl

/-- The timeout argument of a wait (48_scheduler.md R649). -/
theorem withTimeout_of_timeoutIs {s : State} {addr : Word} {dl : Option Nat} (h : TimeoutIs s addr dl) (k : Option Nat → Result) :
    withTimeout addr s k = k dl := by
  unfold TimeoutIs at h
  unfold withTimeout
  split at h
  · simp [*]
  · obtain ⟨ha, n, hn, rfl⟩ := h
    unfold Accessible at ha
    simp only [if_neg ‹¬ addr = 0#32›, ha]
    rw [hn]
    rfl

/-- A timeout argument that names no word fails (92_eei_decisions.md D75). -/
theorem withTimeout_fatal {s : State} {addr : Word} (h : addr ≠ 0#32) (hf : s.failure = none) (ha : ¬ Accessible s addr 4 4)
    (k : Option Nat → Result) : ∃ t, withTimeout addr s k = .next t ∧ FatalOnly .dataAddress addr s t := by
  unfold Accessible at ha
  unfold withTimeout
  rw [if_neg h]
  split
  · exact ⟨_, rfl, by simp [FatalOnly, State.latchFailure, hf]⟩
  · contradiction

/-- The match of an event flag (48_scheduler.md R678). -/
theorem evfMatch_iff (bits p m : Word) : evfMatch bits p m = true ↔ if m.getLsbD 0 then bits &&& p ≠ 0#32 else bits &&& p = p := by
  unfold evfMatch
  split <;> simp

/-! ### The poison and the handlers -/

/-- A register after the poison (44_system.md R402). -/
theorem State.poison_x (s : State) (r : GReg) : s.poison.x r = if isPoisoned r.toNat then poisonWord else s.x r := by
  unfold State.x
  by_cases h : r = 0#5
  · subst h; rfl
  · have hr := r.isLt
    simp only [h, if_false, State.poison, registerFile]
    simp [Vector.getElem?_eq_getElem hr]

/-- A register after the entry of a handler (48_scheduler.md R637). -/
theorem State.enterHandler_x (s : State) (h a0 a1 a2 : Word) (r : GReg) : (s.enterHandler h a0 a1 a2).x r =
    if r = 31#5 then s.cfg.handlerReturnAddr else if r = 6#5 then a2 else if r = 5#5 then a1 else if r = 4#5 then a0
    else if isPoisoned r.toNat then poisonWord else s.x r := by
  have e : (s.enterHandler h a0 a1 a2).x r =
      ((((s.poison.setX 4 a0).setX 5 a1).setX 6 a2).setX 31 s.cfg.handlerReturnAddr).x r := rfl
  rw [e]
  simp only [State.setX_x, State.poison_x]
  by_cases h31 : r = 31#5
  · simp [h31]
  · by_cases h6 : r = 6#5
    · simp [h6]
    · by_cases h5 : r = 5#5
      · simp [h5]
      · by_cases h4 : r = 4#5
        · simp [h4]
        · simp [h31, h6, h5, h4]

/-! ### The end of an instruction (41_branch.md R280) -/

@[simp] theorem settle_mem (b : Bool) (p : Word) (s : State) : (settle b p s).mem = s.mem := by cases b <;> rfl
@[simp] theorem settle_cfg (b : Bool) (p : Word) (s : State) : (settle b p s).cfg = s.cfg := by cases b <;> rfl
@[simp] theorem settle_sched (b : Bool) (p : Word) (s : State) : (settle b p s).sched = s.sched := by cases b <;> rfl
@[simp] theorem settle_failure (b : Bool) (p : Word) (s : State) : (settle b p s).failure = s.failure := by cases b <;> rfl
@[simp] theorem settle_refused (b : Bool) (p : Word) (s : State) : (settle b p s).refused = s.refused := by cases b <;> rfl
@[simp] theorem settle_f (b : Bool) (p : Word) (s : State) (r : FReg) : (settle b p s).f r = s.f r := by cases b <;> rfl
@[simp] theorem settle_vr (b : Bool) (p : Word) (s : State) (r : VReg) : (settle b p s).vr r = s.vr r := by cases b <;> rfl
@[simp] theorem settle_vc (b : Bool) (p : Word) (s : State) (r : CReg) : (settle b p s).vc r = s.vc r := by cases b <;> rfl
@[simp] theorem settle_pc (b : Bool) (p : Word) (s : State) : (settle b p s).cpu.pc = if b then p else s.cpu.pc := by cases b <;> rfl

/-- Register 0 is set to zero, which reads as before; no other register changes. -/
@[simp] theorem settle_x (b : Bool) (p : Word) (s : State) (r : GReg) : (settle b p s).x r = s.x r := by
  have h : (settle b p s).cpu.gpr = s.cpu.gpr.set 0 0#32 := by cases b <;> rfl
  unfold State.x
  by_cases hr : r = 0#5
  · simp [hr]
  · have hn : 0 ≠ r.toNat := fun e => hr (BitVec.eq_of_toNat_eq e.symm)
    simp only [hr, if_false, h]
    exact Vector.getElem_set_ne _ _ hn

end Sys2Proof.Machine
end

