-- ==== Sys2Proof/Laws/LoadStore.lean ====
section
/-! SUPPORT. Laws/LoadStore.lean: the effective addresses, the aligned word of an unaligned access and its merges byte by byte, and the
word sequences of the quad transfers (42_loadstore.md). -/

namespace Sys2Proof.Machine

open Sys2Proof

/-! ### Addresses -/

/-- The effective address as a sum (42_loadstore.md R320). -/
theorem State.ea_eq (s : State) (rs : GReg) (imm : Half) : s.ea rs imm = s.x rs + BitVec.ofInt 32 imm.toInt := rfl

/-- The effective address of a VFPU access as a sum. -/
theorem State.vea_eq (s : State) (rs : GReg) (off : BitVec 14) : s.vea rs off = s.x rs + BitVec.ofInt 32 (4 * off.toInt) := by
  unfold State.vea
  congr 1
  apply BitVec.eq_of_toInt_eq
  have h1 := off.isLt
  simp only [sext16]
  rw [BitVec.toInt_signExtend_of_le (by omega), BitVec.toInt_ofInt, Int.bmod_eq_of_le, BitVec.toInt_eq_toNat_cond,
    BitVec.toInt_eq_toNat_cond]
  · simp only [BitVec.toNat_append, Nat.shiftLeft_eq]
    simp
    omega
  · have := BitVec.le_toInt off
    norm_num at *
    omega
  · have := BitVec.toInt_lt (x := off)
    norm_num at *
    omega

/-- The register number of `lv.s` and `sv.s` (42_loadstore.md R338). -/
theorem singleReg_eq (a : BitVec 5) (h : BitVec 2) : singleReg a h = BitVec.ofNat 7 (a.toNat + 32 * h.toNat) := by
  apply BitVec.eq_of_toNat_eq
  have := a.isLt
  have := h.isLt
  simp only [singleReg, BitVec.toNat_append, BitVec.toNat_ofNat]
  rw [← Nat.shiftLeft_add_eq_or_of_lt (by omega), Nat.shiftLeft_eq]
  omega

/-- The register number of the quad transfers (42_loadstore.md R340). -/
theorem quadReg_eq (a : BitVec 5) (h : BitVec 1) : quadReg a h = BitVec.ofNat 7 (a.toNat + 32 * h.toNat) := by
  apply BitVec.eq_of_toNat_eq
  have := a.isLt
  have := h.isLt
  simp only [quadReg, BitVec.toNat_append, BitVec.toNat_ofNat]
  rw [← Nat.shiftLeft_add_eq_or_of_lt (by omega), ← Nat.shiftLeft_add_eq_or_of_lt (by omega), Nat.shiftLeft_eq, Nat.shiftLeft_eq]
  simp
  omega

/-- The aligned word of an address (42_loadstore.md R326). -/
theorem alignWord_eq (a : Word) : alignWord a = a - BitVec.ofNat 32 (a.toNat % 4) := by
  unfold alignWord
  rw [eq_sub_iff_add_eq]
  have h3 : BitVec.ofNat 32 (a.toNat % 4) = a &&& 3#32 := by
    apply BitVec.eq_of_toNat_eq
    rw [BitVec.toNat_and, BitVec.toNat_ofNat, Nat.mod_eq_of_lt (by omega)]
    exact (Nat.and_two_pow_sub_one_eq_mod _ 2).symm
  rw [h3, BitVec.add_eq_or_of_and_eq_zero _ _ ?_]
  · apply BitVec.eq_of_getLsbD_eq
    intro i hi
    rw [BitVec.getLsbD_or, BitVec.getLsbD_and, BitVec.getLsbD_and]
    interval_cases i <;> simp
  · apply BitVec.eq_of_getLsbD_eq
    intro i hi
    rw [BitVec.getLsbD_and, BitVec.getLsbD_and, BitVec.getLsbD_and]
    interval_cases i <;> simp

theorem byteShift_eq (a : Word) : byteShift a = 8 * (a.toNat % 4) := by simp [byteShift]

theorem quadIndex_eq (a : Word) : quadIndex a = a.toNat / 4 % 4 := by simp [quadIndex, Nat.shiftRight_eq_div_pow]

/-- A byte below `ea` in its word. -/
theorem ea_sub_eq (ea : Word) (j : Nat) (h : j ≤ ea.toNat % 4) :
    ea - BitVec.ofNat 32 j = alignWord ea + BitVec.ofNat 32 (ea.toNat % 4 - j) := by
  rw [alignWord_eq]
  apply BitVec.eq_of_toNat_eq
  simp only [BitVec.toNat_sub, BitVec.toNat_add, BitVec.toNat_ofNat]
  have := ea.isLt
  omega

/-- A byte above `ea`. -/
theorem ea_add_eq (ea : Word) (j : Nat) : ea + BitVec.ofNat 32 j = alignWord ea + BitVec.ofNat 32 (ea.toNat % 4 + j) := by
  rw [alignWord_eq]
  apply BitVec.eq_of_toNat_eq
  simp only [BitVec.toNat_sub, BitVec.toNat_add, BitVec.toNat_ofNat]
  have := ea.isLt
  omega

/-! ### Bytes of words -/

/-- Byte `j` of a loaded word (20_memory.md R90). -/
theorem State.loadWord_byte (s : State) (a : Word) (j : Nat) (hj : j < 4) :
    (s.loadWord a).extractLsb' (8 * j) 8 = s.loadByte (a + BitVec.ofNat 32 j) := by
  unfold State.loadWord wordOfBytes
  apply BitVec.eq_of_getLsbD_eq
  intro i hi
  rw [BitVec.getLsbD_extractLsb']
  repeat rw [BitVec.getLsbD_append]
  interval_cases j <;> interval_cases i <;> simp

/-- Byte `m` after `lwl`, where `k = ea[1:0]` (42_loadstore.md R326). -/
theorem lwlMerge_byte (old w : Word) (k m : Nat) (hk : k < 4) (hm : m < 4) :
    (lwlMerge old w (8 * k)).extractLsb' (8 * m) 8 =
      if 3 - m ≤ k then w.extractLsb' (8 * (k - (3 - m))) 8 else old.extractLsb' (8 * m) 8 := by
  unfold lwlMerge
  apply BitVec.eq_of_getLsbD_eq
  intro i hi
  interval_cases k <;> interval_cases m <;> interval_cases i <;> simp

/-- Byte `m` after `lwr` (42_loadstore.md R327). -/
theorem lwrMerge_byte (old w : Word) (k m : Nat) (hk : k < 4) (hm : m < 4) :
    (lwrMerge old w (8 * k)).extractLsb' (8 * m) 8 =
      if m ≤ 3 - k then w.extractLsb' (8 * (k + m)) 8 else old.extractLsb' (8 * m) 8 := by
  unfold lwrMerge
  apply BitVec.eq_of_getLsbD_eq
  intro i hi
  interval_cases k <;> interval_cases m <;> interval_cases i <;> simp

/-- Byte `m` of the word that `swl` stores (42_loadstore.md R331). -/
theorem swlMerge_byte (w v : Word) (k m : Nat) (hk : k < 4) (hm : m < 4) :
    (swlMerge w v (8 * k)).extractLsb' (8 * m) 8 =
      if m ≤ k then v.extractLsb' (8 * (3 - (k - m))) 8 else w.extractLsb' (8 * m) 8 := by
  unfold swlMerge
  apply BitVec.eq_of_getLsbD_eq
  intro i hi
  interval_cases k <;> interval_cases m <;> interval_cases i <;> simp

/-- Byte `m` of the word that `swr` stores (42_loadstore.md R332). -/
theorem swrMerge_byte (w v : Word) (k m : Nat) (hk : k < 4) (hm : m < 4) :
    (swrMerge w v (8 * k)).extractLsb' (8 * m) 8 =
      if k ≤ m then v.extractLsb' (8 * (m - k)) 8 else w.extractLsb' (8 * m) 8 := by
  unfold swrMerge
  apply BitVec.eq_of_getLsbD_eq
  intro i hi
  interval_cases k <;> interval_cases m <;> interval_cases i <;> simp

/-! ### Sequences of words -/

/-- Accessible words pass their checks (42_loadstore.md R320). -/
theorem checkedWords_ok {l : List Word} {s : State} (r : Result) (h : ∀ a, a ∈ l → Accessible s a 4 4) : checkedWords l s r = r := by
  induction l with
  | nil => rfl
  | cons a rest ih => rw [checkedWords, checked_ok _ (h a (by simp)), ih fun b hb => h b (by simp [hb])]

/-- The first failing word counts. -/
theorem checkedWords_fault {pre : List Word} {a : Word} {post : List Word} {s : State} (r : Result) {c : FatalCause}
    (h : ∀ b, b ∈ pre → Accessible s b 4 4) (ha : accessFault s.cfg a 4 4 = some c) :
    checkedWords (pre ++ a :: post) s r = raise c a s := by
  induction pre with
  | nil => exact checked_fault _ ha
  | cons b rest ih => rw [List.cons_append, checkedWords, checked_ok _ (h b (by simp)), ih fun d hd => h d (by simp [hd])]

/-- Storing words keeps everything but memory. -/
theorem storeWords_rest (l : List (Word × Word)) (s : State) : (storeWords l s).cpu = s.cpu ∧ RestSame s (storeWords l s) := by
  induction l generalizing s with
  | nil => exact ⟨rfl, RestSame.refl s⟩
  | cons p rest ih =>
    obtain ⟨hc, hr⟩ := ih (s.storeWord p.1 p.2)
    obtain ⟨hc', hr'⟩ := State.storeWord_rest s p.1 p.2
    exact ⟨hc.trans hc', ⟨hr.failure.trans hr'.failure, hr.refused.trans hr'.refused, hr.sched.trans hr'.sched,
      hr.cfg.trans hr'.cfg, hr.ir.trans hr'.ir, hr.drawCount.trans hr'.drawCount⟩⟩

/-- Storing words keeps the canonical form. -/
theorem storeWords_wf (l : List (Word × Word)) (s : State) (h : s.mem.wf = true) : (storeWords l s).mem.wf = true := by
  induction l generalizing s with
  | nil => exact h
  | cons p rest ih => exact ih _ (State.storeWord_wf _ _ _ h)

/-- Storing words keeps memory canonical and inside the windows. -/
theorem storeWords_memWf (l : List (Word × Word)) (s : State) (h : s.memWf = true) : (storeWords l s).memWf = true := by
  induction l generalizing s with
  | nil => exact h
  | cons p rest ih => exact ih _ (State.storeWord_memWf _ _ _ h)

/-- A byte outside every stored word reads as before. -/
theorem storeWords_loadByte_of_outside (l : List (Word × Word)) (s : State) (b : Word) (h : s.mem.wf = true)
    (ho : ∀ p, p ∈ l → OutsideBytes s.cfg p.1 4 b) : (storeWords l s).loadByte b = s.loadByte b := by
  induction l generalizing s with
  | nil => rfl
  | cons p rest ih =>
    have hc := (State.storeWord_rest s p.1 p.2).2.cfg
    rw [storeWords, ih _ (State.storeWord_wf _ _ _ h) fun q hq => by rw [hc]; exact ho q (by simp [hq])]
    exact State.storeWord_loadByte_of_outside _ _ _ _ h (ho p (by simp))

end Sys2Proof.Machine
end

