-- ==== Sys2Proof/Laws/Vector.lean ====
section
/-! SUPPORT. Laws/Vector.lean: writing lanes and elements, eating the prefixes, and how the shared endings of the VFPU instructions end:
one lemma each, which the statements about VFPU instructions cite. -/

namespace Sys2Proof.Machine

open Sys2Proof

/-! ### The slots of a register are distinct (45_vfpu_engine.md R421 to R424) -/

/-- A slot number determines its three parts. -/
theorem slot_parts {a a' b b' : BitVec 2} {m : BitVec 3} (h : a ++ m ++ b = a' ++ m ++ b') : a = a' ∧ b = b' := by
  have h5 := congrArg (fun v : BitVec 7 => v.extractLsb' 5 2) h
  have h0 := congrArg (fun v : BitVec 7 => v.extractLsb' 0 2) h
  revert h5 h0
  revert a a' b b' m
  decide +kernel

/-- Offsets below 4 are distinct modulo 4. -/
theorem offset_inj {c : BitVec 2} {i j : Nat} (hi : i < 4) (hj : j < 4) (h : c + BitVec.ofNat 2 i = c + BitVec.ofNat 2 j) : i = j := by
  have h' : BitVec.ofNat 2 i = BitVec.ofNat 2 j := by simpa using h
  have := congrArg BitVec.toNat h'
  simp only [BitVec.toNat_ofNat] at this
  omega

theorem Size.lanes_le (sz : Size) : sz.lanes ≤ 4 := by cases sz <;> decide

/-- The lanes of a vector register stand in distinct slots. -/
theorem vectorSlot_inj {sz : Size} {r : VReg} {i j : Nat} (hi : i < sz.lanes) (hj : j < sz.lanes)
    (h : vectorSlot sz r i = vectorSlot sz r j) : i = j := by
  have h4 := Size.lanes_le sz
  unfold vectorSlot at h
  split at h
  · exact offset_inj (by omega) (by omega) (slot_parts h).2
  · exact offset_inj (by omega) (by omega) (slot_parts h).1

/-- The elements of a matrix register stand in distinct slots. -/
theorem matrixSlot_inj {sz : Size} {r : VReg} {j i j' i' : Nat} (hj : j < sz.lanes) (hi : i < sz.lanes) (hj' : j' < sz.lanes)
    (hi' : i' < sz.lanes) (h : matrixSlot sz r j i = matrixSlot sz r j' i') : j = j' ∧ i = i' := by
  have h4 := Size.lanes_le sz
  unfold matrixSlot at h
  split at h
  · exact ⟨offset_inj (by omega) (by omega) (slot_parts h).1, offset_inj (by omega) (by omega) (slot_parts h).2⟩
  · exact ⟨offset_inj (by omega) (by omega) (slot_parts h).2, offset_inj (by omega) (by omega) (slot_parts h).1⟩

/-! ### Writing slots -/

/-- All but the VFPU slots is as before. -/
def OnlySlots (s t : State) : Prop := t = { s with cpu := { s.cpu with vpr := t.cpu.vpr } }

theorem OnlySlots.refl (s : State) : OnlySlots s s := rfl

theorem OnlySlots.trans {s t u : State} (h : OnlySlots s t) (k : OnlySlots t u) : OnlySlots s u := by
  unfold OnlySlots at *
  rw [k, h]

theorem OnlySlots.vc {s t : State} (h : OnlySlots s t) (k : CReg) : t.vc k = s.vc k := by rw [h]; rfl

theorem OnlySlots.laneMasked {s t : State} (h : OnlySlots s t) (i : Nat) : t.laneMasked i = s.laneMasked i := by
  simp only [State.laneMasked, h.vc]

theorem onlySlots_writeLane (s : State) (k : VReg) (i : Nat) (v : Word) : OnlySlots s (s.writeLane k i v) := by
  unfold State.writeLane
  split
  · exact .refl s
  · rfl

/-- A slot after the write of a lane. -/
theorem writeLane_vr (s : State) (k : VReg) (i : Nat) (v : Word) (r : VReg) :
    (s.writeLane k i v).vr r = if r = k ∧ s.laneMasked i = false then v else s.vr r := by
  unfold State.writeLane
  by_cases h : s.laneMasked i = true
  · simp [h]
  · by_cases hr : r = k <;> simp_all [State.setVr_vr]

/-- Writing the lanes of a list, to distinct slots. -/
theorem writeLanes_spec {α : Type} (slot : α → VReg) (lane : α → Nat) (val : α → Word) (l : List α) (s t : State)
    (ht : t = l.foldl (fun u a => u.writeLane (slot a) (lane a) (val a)) s) :
    OnlySlots s t ∧ (∀ k, (∀ a, a ∈ l → k ≠ slot a) → t.vr k = s.vr k) ∧
      (l.Pairwise (fun a b => slot a ≠ slot b) → ∀ a, a ∈ l →
        t.vr (slot a) = if s.laneMasked (lane a) then s.vr (slot a) else val a) := by
  induction l generalizing s with
  | nil => subst ht; exact ⟨rfl, fun _ _ => rfl, fun _ a h => absurd h (by simp)⟩
  | cons a l ih =>
    obtain ⟨h1, h2, h3⟩ := ih (s.writeLane (slot a) (lane a) (val a)) ht
    have hw := onlySlots_writeLane s (slot a) (lane a) (val a)
    refine ⟨hw.trans h1, fun k hk => ?_, fun hp b hb => ?_⟩
    · rw [h2 k fun b hb => hk b (by simp [hb]), writeLane_vr]
      simp [hk a (by simp)]
    · rw [List.pairwise_cons] at hp
      rcases List.mem_cons.mp hb with rfl | hb
      · rw [h2 _ fun c hc => hp.1 c hc, writeLane_vr]
        by_cases hm : s.laneMasked (lane b) = true <;> simp [hm]
      · rw [h3 hp.2 b hb, hw.laneMasked, writeLane_vr]
        simp [Ne.symm (hp.1 b hb)]

/-- `WriteVector` writes its unmasked lanes and no other slot (45_vfpu_engine.md R426). -/
theorem writeVector_spec (s : State) (sz : Size) (r : VReg) (d : Lanes) :
    OnlySlots s (s.writeVector sz r d) ∧ VectorWritten sz r d s (s.writeVector sz r d) := by
  obtain ⟨h1, h2, h3⟩ := writeLanes_spec (fun i => vectorSlot sz r i) (fun i => i) d (List.range sz.lanes) s _ rfl
  refine ⟨h1, ⟨fun i hi => h3 ?_ i (by simpa using hi), fun k hk => h2 k fun i hi => hk i (by simpa using hi)⟩⟩
  refine List.Pairwise.imp_of_mem ?_ (List.pairwise_lt_range (n := sz.lanes))
  intro a b ha hb hab e
  have := vectorSlot_inj (by simpa using ha) (by simpa using hb) e
  omega

/-- `WriteMatrix` writes its unmasked elements and no other slot (45_vfpu_engine.md R428). -/
theorem writeMatrix_spec (s : State) (sz : Size) (r : VReg) (m : Nat → Lanes) :
    OnlySlots s (s.writeMatrix sz r m) ∧ MatrixWritten sz r m s (s.writeMatrix sz r m) := by
  have hl : s.writeMatrix sz r m = ((List.range sz.lanes).flatMap fun j => (List.range sz.lanes).map fun i => (j, i)).foldl
      (fun u p => u.writeLane (matrixSlot sz r p.1 p.2) p.2 (m p.1 p.2)) s := by
    simp only [State.writeMatrix, List.foldl_flatMap, List.foldl_map]
  obtain ⟨h1, h2, h3⟩ := writeLanes_spec (fun p : Nat × Nat => matrixSlot sz r p.1 p.2) (fun p => p.2) (fun p => m p.1 p.2)
    ((List.range sz.lanes).flatMap fun j => (List.range sz.lanes).map fun i => (j, i)) s _ hl
  refine ⟨h1, ⟨fun j i hj hi => h3 ?_ (j, i) (by simp [hj, hi]), fun k hk => h2 k fun p hp => ?_⟩⟩
  · have hn : ((List.range sz.lanes).flatMap fun j => (List.range sz.lanes).map fun i => (j, i)).Nodup := by
      cases sz <;> decide
    refine List.Pairwise.imp_of_mem ?_ hn
    rintro ⟨a, b⟩ ⟨c, d⟩ hp hq hne e
    simp only [List.mem_flatMap, List.mem_map, List.mem_range, Prod.mk.injEq] at hp hq
    obtain ⟨x, hx, y, hy, rfl, rfl⟩ := hp
    obtain ⟨x', hx', y', hy', rfl, rfl⟩ := hq
    obtain ⟨rfl, rfl⟩ := matrixSlot_inj hx hy hx' hy' e
    exact hne rfl
  · simp only [List.mem_flatMap, List.mem_map, List.mem_range] at hp
    obtain ⟨j, hj, i, hi, rfl⟩ := hp
    exact hk j i hj hi

/-! ### Eating the prefixes (45_vfpu_engine.md R436) -/

/-- The VFPU control registers after `EatPrefixes()`. -/
theorem eat_vc (s : State) (k : CReg) :
    s.eat.vc k = if k = CReg.dpfx then 0#32 else if k = CReg.tpfx ∨ k = CReg.spfx then passThrough else s.vc k := by
  simp only [State.eat, State.setVc_vc]
  by_cases h2 : k = CReg.dpfx
  · simp [h2]
  · by_cases h1 : k = CReg.tpfx
    · simp [h1]
    · by_cases h0 : k = CReg.spfx <;> simp [h0, h1, h2]

/-- Eating after any change of slots, and the pc: what is eaten and what is kept. -/
theorem eaten_of_vc {s u : State} {but : CReg → Prop} (h : ∀ k, ¬ but k → k ≠ CReg.spfx → k ≠ CReg.tpfx → k ≠ CReg.dpfx → u.vc k = s.vc k) :
    Eaten but s u.eat.advance := by
  constructor
  · rw [State.advance_vc, eat_vc, if_neg (by decide), if_pos (by decide)]
  · rw [State.advance_vc, eat_vc, if_neg (by decide), if_pos (by decide)]
  · rw [State.advance_vc, eat_vc, if_pos rfl]
  · intro k h0 h1 h2 hb
    rw [State.advance_vc, eat_vc]
    simp only [h0, h1, h2, or_self, if_false]
    exact h k hb h0 h1 h2

/-- All but the VFPU is as before, apart from what is said of the pc. -/
theorem onlyVfpu_of_onlySlots {s t : State} (h : OnlySlots s t) : OnlyVfpu s t.eat.advance := by
  constructor
  · simp only [Advanced, State.advance_pc, State.eat_pc]; rw [h]
  · intro r; simp only [State.advance_x, State.eat_x]; rw [h]; rfl
  · intro r; simp only [State.advance_f, State.eat_f]; rw [h]; rfl
  · constructor
    · simp only [State.advance_hi, State.eat_hi]; rw [h]
    · simp only [State.advance_lo, State.eat_lo]; rw [h]
  · constructor
    · simp only [State.advance_fcr31, State.eat_fcr31]; rw [h]
    · simp only [State.advance_fpcond, State.eat_fpcond]; rw [h]
    · simp only [State.advance_llBit, State.eat_llBit]; rw [h]
  · constructor
    · simp only [State.advance_branchPC, State.eat_branchPC]; rw [h]
    · simp only [State.advance_requiredBranching, State.eat_requiredBranching]; rw [h]
    · simp only [State.advance_requiredJumping, State.eat_requiredJumping]; rw [h]
  · refine MemSame.of_eq ?_ ?_
    · simp only [State.advance_mem, State.eat_mem]; rw [h]
    · simp only [State.advance_cfg, State.eat_cfg]; rw [h]
  · constructor
    · simp only [State.advance_failure, State.eat_failure]; rw [h]
    · simp only [State.advance_refused, State.eat_refused]; rw [h]
    · simp only [State.advance_sched, State.eat_sched]; rw [h]
    · simp only [State.advance_cfg, State.eat_cfg]; rw [h]
    · simp only [State.advance_ir, State.eat_ir]; rw [h]
    · simp only [State.advance_drawCount, State.eat_drawCount]; rw [h]

/-! ### The endings (45_vfpu_engine.md R420) -/

/-- A vector result: written, eaten, advanced. -/
theorem vectorDone_writeVector (s : State) (sz : Size) (r : VReg) (d : Lanes) :
    VectorDone sz r d s (s.writeVector sz r d).eat.advance := by
  obtain ⟨ho, hw⟩ := writeVector_spec s sz r d
  refine ⟨⟨fun i hi => ?_, fun k hk => ?_⟩, eaten_of_vc fun k _ _ _ _ => ho.vc k, onlyVfpu_of_onlySlots ho⟩
  · rw [State.advance_vr, State.eat_vr]; exact hw.lanes i hi
  · rw [State.advance_vr, State.eat_vr]; exact hw.others k hk

/-- The end of an instruction with a float result. -/
theorem vectorEnd_spec (op : VfpuOp) (sz out : Size) (vd : VReg) (d : Lanes) (s : State) :
    ∃ t, vectorEnd op sz out vd d s = .next t ∧ VectorDone out vd (s.applyD op sz d) s t :=
  ⟨_, rfl, vectorDone_writeVector s out vd _⟩

/-- The end of an instruction whose result takes only the write mask. -/
theorem vectorEndMasked_spec (out : Size) (vd : VReg) (d : Lanes) (s : State) :
    ∃ t, vectorEndMasked out vd d s = .next t ∧ VectorDone out vd d s t := ⟨_, rfl, vectorDone_writeVector s out vd d⟩

/-- The end of a transform. -/
theorem transformEnd_spec (sz : Size) (vd : VReg) (d : Lanes) (s : State) :
    ∃ t, transformEnd sz vd d s = .next t ∧ VectorDone sz vd d s t := ⟨_, rfl, vectorDone_writeVector s sz vd d⟩

/-- The end of a matrix instruction. -/
theorem matrixEnd_spec (sz : Size) (vd : VReg) (m : Nat → Lanes) (s : State) :
    ∃ t, matrixEnd sz vd m s = .next t ∧ MatrixDone sz vd m s t := by
  obtain ⟨ho, hw⟩ := writeMatrix_spec s sz vd m
  refine ⟨_, rfl, ⟨fun j i hj hi => ?_, fun k hk => ?_⟩, eaten_of_vc fun k _ _ _ _ => ho.vc k, onlyVfpu_of_onlySlots ho⟩
  · rw [State.advance_vr, State.eat_vr]; exact hw.elements j i hj hi
  · rw [State.advance_vr, State.eat_vr]; exact hw.others k hk

/-- Only the lanes below the size of a result matter. -/
theorem VectorDone.congr {sz : Size} {r : VReg} {d d' : Lanes} {s t : State} (h : VectorDone sz r d s t)
    (e : ∀ i, i < sz.lanes → d i = d' i) : VectorDone sz r d' s t :=
  ⟨⟨fun i hi => by rw [h.1.lanes i hi, e i hi], h.1.others⟩, h.2⟩

/-- Only the elements below the size of a result matter. -/
theorem MatrixDone.congr {sz : Size} {r : VReg} {m m' : Nat → Lanes} {s t : State} (h : MatrixDone sz r m s t)
    (e : ∀ j i, j < sz.lanes → i < sz.lanes → m j i = m' j i) : MatrixDone sz r m' s t :=
  ⟨⟨fun j i hj hi => by rw [h.1.elements j i hj hi, e j i hj hi], h.1.others⟩, h.2⟩

/-- A size that the rule lists. -/
theorem sized_true {ok : Bool} (r : Result) (h : ok = true) : sized ok r = r := by simp [sized, h]

/-- A size that the rule does not list (45_vfpu_engine.md R430). -/
theorem sized_false {ok : Bool} (r : Result) (h : ok = false) : sized ok r = .refused .vfpuBadSize := by simp [sized, h, refuse]

/-- A matrix instruction under identity prefixes at a size it defines (45_vfpu_engine.md R461). -/
theorem matrixOp_ok {sz : Size} {s : State} (r : Result) (hp : s.prefixesIdentity = true) (hs : sz ≠ .single) : matrixOp sz s r = r := by
  cases sz <;> simp_all [matrixOp, sized]

/-! ### NaN draws (43_cop1.md R360) -/

/-- A drawn NaN pattern is a NaN. -/
theorem isNaN_nanOf (w : Word) : isNaN (nanOf w) = true := by
  unfold nanOf
  split
  · assumption
  · simp only [isNaN, fExp, fMan, Bool.and_eq_true, beq_iff_eq, bne_iff_ne, ne_eq]
    constructor
    · have : (w ||| 0x7F800001#32).extractLsb' 23 8 = 0xFF#8 := by
        apply BitVec.eq_of_getLsbD_eq
        intro i hi
        rw [BitVec.getLsbD_extractLsb']
        interval_cases i <;> simp
      rw [this]; rfl
    · intro h
      have h0 := congrArg (fun n => n.testBit 0) h
      simp [BitVec.toNat_or] at h0

/-- The pattern written is the result, or a NaN where the result is one. -/
theorem isFloat_orNaN (free : Word) (r : Option Word) : IsFloat r (orNaN free r) := by
  cases r with
  | none => exact isNaN_nanOf free
  | some p => rfl

end Sys2Proof.Machine
end

