-- ==== Sys2Proof/Tests/Slice0.lean ====
section
/-! SUPPORT. Tests/Slice0.lean: the model's own tests: the well-formedness check refuses ill-formed terms, a word of every row decodes,
single instructions and commands give the results of 95_test_vectors.md, and a witness for the hypotheses of every statement. -/

namespace Sys2Proof.Tests

set_option Elab.async false

open Sys2Proof Sys2Proof.Machine

/-! ### Helpers -/

/-- A state with some general, COP1 and VFPU registers and memory words set. -/
def setUp (xs : List (GReg × Word)) (fs : List (FReg × Word)) (vs : List (VReg × Word)) (ms : List (Word × Word)) : State :=
  let s := ms.foldl (fun t p => t.storeWord p.1 p.2) State.reset
  let s := xs.foldl (fun t p => t.setX p.1 p.2) s
  let s := fs.foldl (fun t p => t.setF p.1 p.2) s
  vs.foldl (fun t p => t.setVr p.1 p.2) s

/-- The state of a result. -/
def nextOf (r : Result) : Option State :=
  match r with
  | .next t => some t
  | _ => none

/-- What is seen after the instruction of a word. -/
def after (w : Word) (s : State) (seen : State → List Word) : Option (List Word) :=
  match decode w with
  | .ok i => (nextOf (exec i s)).map seen
  | .error _ => none

/-- Whether the instruction of a word is refused in this way. -/
def refusedAs (w : Word) (s : State) (r : Refusal) : Bool :=
  match decode w with
  | .ok i => match exec i s with
    | .refused q => q == r
    | _ => false
  | .error _ => false

/-- Whether a result is a next state. -/
def isNext (r : Result) : Bool := (nextOf r).isSome

theorem exists_of_isNext {r : Result} (h : isNext r = true) : ∃ t, r = .next t := by
  cases r with
  | next t => exact ⟨t, rfl⟩
  | fault _ => exact absurd h (by simp [isNext, nextOf])
  | refused _ => exact absurd h (by simp [isNext, nextOf])

/-- A flag as a word. -/
def bit (b : Bool) : Word := if b then 1#32 else 0#32

/-- The code of the failure (60_exceptions.md R701), 0 for none. -/
def failCode (t : State) : Word := BitVec.ofNat 32 ((t.failure.map fun f => FatalCause.code f.cause).getD 0)

/-- The word at which the failure's address stands. -/
def failAddr (t : State) : Word := (t.failure.map FailRecord.addr).getD 0#32

/-- Whether a word decodes to an instruction. -/
def decodesTo (p : Word × Instr) : Bool :=
  match decode p.1 with
  | .ok i => i == p.2
  | .error _ => false

/-- The same state with OVERFLOW_TRAPS on. -/
def trapping (s : State) : State := { s with cfg := { s.cfg with overflowTraps := true } }

/-- The same state with a command served at its pc: the NID of that address is 7. -/
def serving (c : Command) (s : State) : State :=
  { s with
    cfg := { s.cfg with nidMap := [(s.cpu.pc, 7#32)], kernelNid := [(7#32, c)] }
    sched := { s.sched with current := some bootUid } }

/-- The boot thread running, with some semaphores and event flags. -/
def kernelState : State :=
  let s := State.reset.atRunLoop
  { s with sched := { s.sched with
    semaphores := [⟨100#32, 3, 5⟩, ⟨101#32, 0, 5⟩, ⟨102#32, 4, 5⟩], eventFlags := [⟨200#32, 5#32⟩, ⟨201#32, 4#32⟩, ⟨202#32, 1#32⟩] } }

/-- The count of a semaphore. -/
def semaCount (s : State) (u : Word) : Word := BitVec.ofInt 32 ((s.sema? u).map Semaphore.count |>.getD (-1))

/-- The bits of an event flag. -/
def flagBits (s : State) (u : Word) : Word := ((s.eventFlag? u).map EventFlag.bits).getD 0xFFFFFFFF#32

/-! ### Well-formedness refuses each ill-formed term (30_encoding.md R131, R135) -/

theorem test_wellFormed_srlv : (Instr.srlv 1#5 2#5 3#5 1#5).wellFormed = false ∧ (Instr.srlv 1#5 2#5 3#5 2#5).wellFormed = true := by decide

theorem test_wellFormed_rotrv : (Instr.rotrv 1#5 2#5 3#5 0#5).wellFormed = false ∧ (Instr.rotrv 1#5 2#5 3#5 1#5).wellFormed = true := by decide

theorem test_wellFormed_mfv : (Instr.mfv 1#5 0x80#8).wellFormed = false ∧ (Instr.mfv 1#5 0x7F#8).wellFormed = true := by decide

theorem test_wellFormed_mtv : (Instr.mtv 1#5 0xFF#8).wellFormed = false ∧ (Instr.mtv 1#5 0x00#8).wellFormed = true := by decide

/-! ### Every row decodes: words written field by field from 30_encoding.md and opcode_table.json -/

theorem test_decode_special_1 : ([
    (0b000000_00000_01001_01010_00110_000000#32, .sll 9#5 10#5 6#5),
    (0b000000_00000_01001_01010_00110_000011#32, .sra 9#5 10#5 6#5),
    (0b000000_01000_01001_01010_00110_000100#32, .sllv 8#5 9#5 10#5 6#5),
    (0b000000_01000_01001_01010_00110_000111#32, .srav 8#5 9#5 10#5 6#5),
    (0b000000_01000_000000000000000_001000#32, .jr 8#5),
    (0b000000_01000_00000_01010_00000_001001#32, .jalr 8#5 10#5),
    (0b000000_01000_01001_01010_00110_001010#32, .movz 8#5 9#5 10#5 6#5),
    (0b000000_01000_01001_01010_00110_001011#32, .movn 8#5 9#5 10#5 6#5),
    (0b000000_00010010001101000101_001100#32, .syscall 74565#20),
    (0b000000_00010010001101000101_001101#32, .brk 74565#20),
    (0b000000_000000000000000_11101_001111#32, .sync 29#5),
    (0b000000_0000000000_01010_00000_010000#32, .mfhi 10#5),
    (0b000000_01000_000000000000000_010001#32, .mthi 8#5),
    (0b000000_0000000000_01010_00000_010010#32, .mflo 10#5),
    (0b000000_01000_000000000000000_010011#32, .mtlo 8#5),
    (0b000000_01000_00000_01010_00000_010110#32, .clz 8#5 10#5),
    (0b000000_01000_00000_01010_00000_010111#32, .clo 8#5 10#5),
    (0b000000_01000_01001_0000000000_011000#32, .mult 8#5 9#5),
    (0b000000_01000_01001_0000000000_011001#32, .multu 8#5 9#5),
    (0b000000_01000_01001_0000000000_011010#32, .div 8#5 9#5)] : List (Word × Instr)).all decodesTo = true := by decide +kernel

theorem test_decode_special_2 : ([
    (0b000000_01000_01001_0000000000_011011#32, .divu 8#5 9#5),
    (0b000000_01000_01001_0000000000_011100#32, .madd 8#5 9#5),
    (0b000000_01000_01001_0000000000_011101#32, .maddu 8#5 9#5),
    (0b000000_01000_01001_01010_00110_100000#32, .add 8#5 9#5 10#5 6#5),
    (0b000000_01000_01001_01010_00110_100001#32, .addu 8#5 9#5 10#5 6#5),
    (0b000000_01000_01001_01010_00110_100010#32, .sub 8#5 9#5 10#5 6#5),
    (0b000000_01000_01001_01010_00110_100011#32, .subu 8#5 9#5 10#5 6#5),
    (0b000000_01000_01001_01010_00110_100100#32, .and 8#5 9#5 10#5 6#5),
    (0b000000_01000_01001_01010_00110_100101#32, .or 8#5 9#5 10#5 6#5),
    (0b000000_01000_01001_01010_00110_100110#32, .xor 8#5 9#5 10#5 6#5),
    (0b000000_01000_01001_01010_00110_100111#32, .nor 8#5 9#5 10#5 6#5),
    (0b000000_01000_01001_01010_00110_101010#32, .slt 8#5 9#5 10#5 6#5),
    (0b000000_01000_01001_01010_00110_101011#32, .sltu 8#5 9#5 10#5 6#5),
    (0b000000_01000_01001_01010_00110_101100#32, .max 8#5 9#5 10#5 6#5),
    (0b000000_01000_01001_01010_00110_101101#32, .min 8#5 9#5 10#5 6#5),
    (0b000000_01000_01001_0000000000_101110#32, .msub 8#5 9#5),
    (0b000000_01000_01001_0000000000_101111#32, .msubu 8#5 9#5),
    (0b000000_0000_0_01001_01010_00110_000010#32, .srl 9#5 10#5 6#5),
    (0b000000_0000_1_01001_01010_00110_000010#32, .rotr 9#5 10#5 6#5),
    (0b000000_01000_01001_01010_0011_0_000110#32, .srlv 8#5 9#5 10#5 6#5)] : List (Word × Instr)).all decodesTo = true := by decide +kernel

theorem test_decode_special_3 : ([
    (0b000000_01000_01001_01010_0011_1_000110#32, .rotrv 8#5 9#5 10#5 7#5)] : List (Word × Instr)).all decodesTo = true := by decide +kernel

theorem test_decode_regimm : ([
    (0b000001_01000_00000_1111111111111100#32, .bltz 8#5 65532#16),
    (0b000001_01000_00001_1111111111111100#32, .bgez 8#5 65532#16),
    (0b000001_01000_00010_1111111111111100#32, .bltzl 8#5 65532#16),
    (0b000001_01000_00011_1111111111111100#32, .bgezl 8#5 65532#16),
    (0b000001_01000_10000_1111111111111100#32, .bltzal 8#5 65532#16),
    (0b000001_01000_10001_1111111111111100#32, .bgezal 8#5 65532#16),
    (0b000001_01000_10010_1111111111111100#32, .bltzall 8#5 65532#16),
    (0b000001_01000_10011_1111111111111100#32, .bgezall 8#5 65532#16)] : List (Word × Instr)).all decodesTo = true := by decide +kernel

theorem test_decode_immediate : ([
    (0b000010_00001000000001000001000000#32, .j 2101312#26),
    (0b000011_00001000000001000001000000#32, .jal 2101312#26),
    (0b000100_01000_01001_1111111111111100#32, .beq 8#5 9#5 65532#16),
    (0b000101_01000_01001_1111111111111100#32, .bne 8#5 9#5 65532#16),
    (0b000110_01000_01001_1111111111111100#32, .blez 8#5 9#5 65532#16),
    (0b000111_01000_01001_1111111111111100#32, .bgtz 8#5 9#5 65532#16),
    (0b001000_01000_01001_1111111111111100#32, .addi 8#5 9#5 65532#16),
    (0b001001_01000_01001_1111111111111100#32, .addiu 8#5 9#5 65532#16),
    (0b001010_01000_01001_1111111111111100#32, .slti 8#5 9#5 65532#16),
    (0b001011_01000_01001_1111111111111100#32, .sltiu 8#5 9#5 65532#16),
    (0b001100_01000_01001_1111111111111100#32, .andi 8#5 9#5 65532#16),
    (0b001101_01000_01001_1111111111111100#32, .ori 8#5 9#5 65532#16),
    (0b001110_01000_01001_1111111111111100#32, .xori 8#5 9#5 65532#16),
    (0b001111_00000_01001_1111111111111100#32, .lui 9#5 65532#16),
    (0b010100_01000_01001_1111111111111100#32, .beql 8#5 9#5 65532#16),
    (0b010101_01000_01001_1111111111111100#32, .bnel 8#5 9#5 65532#16),
    (0b010110_01000_01001_1111111111111100#32, .blezl 8#5 9#5 65532#16),
    (0b010111_01000_01001_1111111111111100#32, .bgtzl 8#5 9#5 65532#16)] : List (Word × Instr)).all decodesTo = true := by decide +kernel

theorem test_decode_memory_1 : ([
    (0b100000_01000_01001_1111111111111100#32, .lb 8#5 9#5 65532#16),
    (0b100001_01000_01001_1111111111111100#32, .lh 8#5 9#5 65532#16),
    (0b100010_01000_01001_1111111111111100#32, .lwl 8#5 9#5 65532#16),
    (0b100011_01000_01001_1111111111111100#32, .lw 8#5 9#5 65532#16),
    (0b100100_01000_01001_1111111111111100#32, .lbu 8#5 9#5 65532#16),
    (0b100101_01000_01001_1111111111111100#32, .lhu 8#5 9#5 65532#16),
    (0b100110_01000_01001_1111111111111100#32, .lwr 8#5 9#5 65532#16),
    (0b101000_01000_01001_1111111111111100#32, .sb 8#5 9#5 65532#16),
    (0b101001_01000_01001_1111111111111100#32, .sh 8#5 9#5 65532#16),
    (0b101010_01000_01001_1111111111111100#32, .swl 8#5 9#5 65532#16),
    (0b101011_01000_01001_1111111111111100#32, .sw 8#5 9#5 65532#16),
    (0b101110_01000_01001_1111111111111100#32, .swr 8#5 9#5 65532#16),
    (0b101111_01000_11101_1111111111111100#32, .cache 8#5 29#5 65532#16),
    (0b110000_01000_01001_1111111111111100#32, .ll 8#5 9#5 65532#16),
    (0b110001_01000_00010_1111111111111100#32, .lwc1 8#5 2#5 65532#16),
    (0b111000_01000_01001_1111111111111100#32, .sc 8#5 9#5 65532#16),
    (0b111001_01000_00010_1111111111111100#32, .swc1 8#5 2#5 65532#16),
    (0b110010_01000_11101_10110110111101_01#32, .lvS 8#5 29#5 11709#14 1#2),
    (0b111010_01000_11101_10110110111101_01#32, .svS 8#5 29#5 11709#14 1#2),
    (0b110110_01000_11101_10110110111101_0_1#32, .lvQ 8#5 29#5 11709#14 1#1)] : List (Word × Instr)).all decodesTo = true := by decide +kernel

theorem test_decode_memory_2 : ([
    (0b111110_01000_11101_10110110111101_1_1#32, .svQ 8#5 29#5 11709#14 1#1 1#1),
    (0b110101_01000_11101_10110110111101_0_1#32, .lvlQ 8#5 29#5 11709#14 1#1),
    (0b110101_01000_11101_10110110111101_1_1#32, .lvrQ 8#5 29#5 11709#14 1#1),
    (0b111101_01000_11101_10110110111101_0_1#32, .svlQ 8#5 29#5 11709#14 1#1),
    (0b111101_01000_11101_10110110111101_1_1#32, .svrQ 8#5 29#5 11709#14 1#1)] : List (Word × Instr)).all decodesTo = true := by decide +kernel

theorem test_decode_special3 : ([
    (0b011111_01000_01001_11101_11101_000000#32, .ext 8#5 9#5 29#5 29#5),
    (0b011111_01000_01001_11101_11101_000100#32, .ins 8#5 9#5 29#5 29#5),
    (0b011111_00000_01001_01010_00010100000#32, .wsbh 9#5 10#5),
    (0b011111_00000_01001_01010_00011100000#32, .wsbw 9#5 10#5),
    (0b011111_00000_01001_01010_10000100000#32, .seb 9#5 10#5),
    (0b011111_00000_01001_01010_10100100000#32, .bitrev 9#5 10#5),
    (0b011111_00000_01001_01010_11000100000#32, .seh 9#5 10#5)] : List (Word × Instr)).all decodesTo = true := by decide +kernel

theorem test_decode_cop1_1 : ([
    (0b01000100000_01001_00001_00000000000#32, .mfc1 9#5 1#5),
    (0b01000100010_01001_00001_00000000000#32, .cfc1 9#5 1#5),
    (0b01000100100_01001_00001_00000000000#32, .mtc1 9#5 1#5),
    (0b01000100110_01001_00001_00000000000#32, .ctc1 9#5 1#5),
    (0b01000101000_000_00_1111111111111100#32, .bc1f 65532#16),
    (0b01000101000_000_01_1111111111111100#32, .bc1t 65532#16),
    (0b01000101000_000_10_1111111111111100#32, .bc1fl 65532#16),
    (0b01000101000_000_11_1111111111111100#32, .bc1tl 65532#16),
    (0b01000110000_00010_00001_00011_000000#32, .addS 2#5 1#5 3#5),
    (0b01000110000_00010_00001_00011_000001#32, .subS 2#5 1#5 3#5),
    (0b01000110000_00010_00001_00011_000010#32, .mulS 2#5 1#5 3#5),
    (0b01000110000_00010_00001_00011_000011#32, .divS 2#5 1#5 3#5),
    (0b01000110000_00000_00001_00011_000100#32, .sqrtS 1#5 3#5),
    (0b01000110000_00000_00001_00011_000101#32, .absS 1#5 3#5),
    (0b01000110000_00000_00001_00011_000110#32, .movS 1#5 3#5),
    (0b01000110000_00000_00001_00011_000111#32, .negS 1#5 3#5),
    (0b01000110000_00000_00001_00011_001100#32, .roundWS 1#5 3#5),
    (0b01000110000_00000_00001_00011_001101#32, .truncWS 1#5 3#5),
    (0b01000110000_00000_00001_00011_001110#32, .ceilWS 1#5 3#5),
    (0b01000110000_00000_00001_00011_001111#32, .floorWS 1#5 3#5)] : List (Word × Instr)).all decodesTo = true := by decide +kernel

theorem test_decode_cop1_2 : ([
    (0b01000110000_00000_00001_00011_100100#32, .cvtWS 1#5 3#5),
    (0b01000110100_00000_00001_00011_100000#32, .cvtSW 1#5 3#5),
    (0b01000110000_00010_00001_00000_110000#32, .cFS 2#5 1#5),
    (0b01000110000_00010_00001_00000_110001#32, .cUnS 2#5 1#5),
    (0b01000110000_00010_00001_00000_110010#32, .cEqS 2#5 1#5),
    (0b01000110000_00010_00001_00000_110011#32, .cUeqS 2#5 1#5),
    (0b01000110000_00010_00001_00000_110100#32, .cOltS 2#5 1#5),
    (0b01000110000_00010_00001_00000_110101#32, .cUltS 2#5 1#5),
    (0b01000110000_00010_00001_00000_110110#32, .cOleS 2#5 1#5),
    (0b01000110000_00010_00001_00000_110111#32, .cUleS 2#5 1#5),
    (0b01000110000_00010_00001_00000_111000#32, .cSfS 2#5 1#5),
    (0b01000110000_00010_00001_00000_111001#32, .cNgleS 2#5 1#5),
    (0b01000110000_00010_00001_00000_111010#32, .cSeqS 2#5 1#5),
    (0b01000110000_00010_00001_00000_111011#32, .cNglS 2#5 1#5),
    (0b01000110000_00010_00001_00000_111100#32, .cLtS 2#5 1#5),
    (0b01000110000_00010_00001_00000_111101#32, .cNgeS 2#5 1#5),
    (0b01000110000_00010_00001_00000_111110#32, .cLeS 2#5 1#5),
    (0b01000110000_00010_00001_00000_111111#32, .cNgtS 2#5 1#5)] : List (Word × Instr)).all decodesTo = true := by decide +kernel

theorem test_decode_cop2 : ([
    (0b01001000011_01001_00000000_0_0111101#32, .mfv 9#5 61#8),
    (0b01001000011_01001_00000000_1_0111101#32, .mfvc 9#5 61#7),
    (0b01001000111_01001_00000000_0_0111101#32, .mtv 9#5 61#8),
    (0b01001000111_01001_00000000_1_0111101#32, .mtvc 9#5 61#7),
    (0b01001001000_101_00_1111111111111100#32, .bvf 5#3 65532#16),
    (0b01001001000_101_01_1111111111111100#32, .bvt 5#3 65532#16),
    (0b01001001000_101_10_1111111111111100#32, .bvfl 5#3 65532#16),
    (0b01001001000_101_11_1111111111111100#32, .bvtl 5#3 65532#16)] : List (Word × Instr)).all decodesTo = true := by decide +kernel

theorem test_decode_vfpu0 : ([
    (0b011000000_0010011_0_0100110_1_1000001#32, .vadd 65#7 38#7 19#7 .pair),
    (0b011000001_0010011_1_0100110_1_1000001#32, .vsub 65#7 38#7 19#7 .quad),
    (0b011000010_0010011_1_0100110_1_1000001#32, .vsbn 65#7 38#7 19#7 .quad),
    (0b011000111_0010011_0_0100110_1_1000001#32, .vdiv 65#7 38#7 19#7 .pair)] : List (Word × Instr)).all decodesTo = true := by decide +kernel

theorem test_decode_vfpu1 : ([
    (0b011001000_0010011_1_0100110_0_1000001#32, .vmul 65#7 38#7 19#7 .triple),
    (0b011001001_0010011_1_0100110_1_1000001#32, .vdot 65#7 38#7 19#7 .quad),
    (0b011001010_0010011_1_0100110_0_1000001#32, .vscl 65#7 38#7 19#7 .triple),
    (0b011001100_0010011_1_0100110_1_1000001#32, .vhdp 65#7 38#7 19#7 .quad),
    (0b011001101_0010011_1_0100110_1_1000001#32, .vcrsT 65#7 38#7 19#7 .quad),
    (0b011001110_0010011_0_0100110_1_1000001#32, .vdetP 65#7 38#7 19#7 .pair)] : List (Word × Instr)).all decodesTo = true := by decide +kernel

theorem test_decode_vfpu3 : ([
    (0b011011000_0010011_1_0100110_1_000_0101#32, .vcmp 38#7 19#7 .quad 5#4),
    (0b011011010_0010011_0_0100110_1_1000001#32, .vmin 65#7 38#7 19#7 .pair),
    (0b011011011_0010011_1_0100110_0_1000001#32, .vmax 65#7 38#7 19#7 .triple),
    (0b011011101_0010011_1_0100110_0_1000001#32, .vscmp 65#7 38#7 19#7 .triple),
    (0b011011110_0010011_1_0100110_1_1000001#32, .vsge 65#7 38#7 19#7 .quad),
    (0b011011111_0010011_0_0100110_1_1000001#32, .vslt 65#7 38#7 19#7 .pair)] : List (Word × Instr)).all decodesTo = true := by decide +kernel

theorem test_decode_vfpu4_1 : ([
    (0b1101000000000000_0_0100110_1_1000001#32, .vmov 65#7 38#7 .pair),
    (0b1101000000000001_1_0100110_1_1000001#32, .vabs 65#7 38#7 .quad),
    (0b1101000000000010_1_0100110_0_1000001#32, .vneg 65#7 38#7 .triple),
    (0b1101000000000011_1_0100110_1_1000001#32, .vidt 65#7 38#7 .quad),
    (0b1101000000000100_1_0100110_1_1000001#32, .vsat0 65#7 38#7 .quad),
    (0b1101000000000101_1_0100110_0_1000001#32, .vsat1 65#7 38#7 .triple),
    (0b1101000000000110_1_0100110_0_1000001#32, .vzero 65#7 38#7 .triple),
    (0b1101000000000111_1_0100110_1_1000001#32, .vone 65#7 38#7 .quad),
    (0b1101000000010000_0_0100110_1_1000001#32, .vrcp 65#7 38#7 .pair),
    (0b1101000000010001_0_0100110_1_1000001#32, .vrsq 65#7 38#7 .pair),
    (0b1101000000010010_1_0100110_1_1000001#32, .vsin 65#7 38#7 .quad),
    (0b1101000000010011_0_0100110_1_1000001#32, .vcos 65#7 38#7 .pair),
    (0b1101000000010100_1_0100110_1_1000001#32, .vexp2 65#7 38#7 .quad),
    (0b1101000000010101_1_0100110_0_1000001#32, .vlog2 65#7 38#7 .triple),
    (0b1101000000010110_1_0100110_1_1000001#32, .vsqrt 65#7 38#7 .quad),
    (0b1101000000010111_0_0100110_1_1000001#32, .vasin 65#7 38#7 .pair),
    (0b1101000000011000_1_0100110_1_1000001#32, .vnrcp 65#7 38#7 .quad),
    (0b1101000000011010_0_0100110_1_1000001#32, .vnsin 65#7 38#7 .pair),
    (0b1101000000011100_0_0100110_1_1000001#32, .vrexp2 65#7 38#7 .pair),
    (0b1101000000100000_1_0100110_1_1000001#32, .vrnds 65#7 38#7 .quad)] : List (Word × Instr)).all decodesTo = true := by decide +kernel

theorem test_decode_vfpu4_2 : ([
    (0b1101000000100001_0_0100110_1_1000001#32, .vrndi 65#7 38#7 .pair),
    (0b1101000000100010_1_0100110_0_1000001#32, .vrndf1 65#7 38#7 .triple),
    (0b1101000000100011_0_0100110_1_1000001#32, .vrndf2 65#7 38#7 .pair),
    (0b1101000000110010_1_0100110_0_1000001#32, .vf2h 65#7 38#7 .triple),
    (0b1101000000110011_1_0100110_0_1000001#32, .vh2f 65#7 38#7 .triple),
    (0b1101000000110110_1_0100110_1_1000001#32, .vsbz 65#7 38#7 .quad),
    (0b1101000000110111_1_0100110_1_1000001#32, .vlgb 65#7 38#7 .quad),
    (0b1101000000111000_1_0100110_0_1000001#32, .vuc2i 65#7 38#7 .triple),
    (0b1101000000111001_1_0100110_1_1000001#32, .vc2i 65#7 38#7 .quad),
    (0b1101000000111010_1_0100110_0_1000001#32, .vus2i 65#7 38#7 .triple),
    (0b1101000000111011_1_0100110_0_1000001#32, .vs2i 65#7 38#7 .triple),
    (0b1101000000111100_1_0100110_1_1000001#32, .vi2uc 65#7 38#7 .quad),
    (0b1101000000111101_1_0100110_1_1000001#32, .vi2c 65#7 38#7 .quad),
    (0b1101000000111110_1_0100110_0_1000001#32, .vi2us 65#7 38#7 .triple),
    (0b1101000000111111_0_0100110_1_1000001#32, .vi2s 65#7 38#7 .pair),
    (0b1101000001000000_1_0100110_0_1000001#32, .vsrt1 65#7 38#7 .triple),
    (0b1101000001000001_0_0100110_1_1000001#32, .vsrt2 65#7 38#7 .pair),
    (0b1101000001000010_0_0100110_1_1000001#32, .vbfy1 65#7 38#7 .pair),
    (0b1101000001000011_0_0100110_1_1000001#32, .vbfy2 65#7 38#7 .pair),
    (0b1101000001000100_1_0100110_0_1000001#32, .vocp 65#7 38#7 .triple)] : List (Word × Instr)).all decodesTo = true := by decide +kernel

theorem test_decode_vfpu4_3 : ([
    (0b1101000001000101_0_0100110_1_1000001#32, .vsocp 65#7 38#7 .pair),
    (0b1101000001000110_1_0100110_0_1000001#32, .vfad 65#7 38#7 .triple),
    (0b1101000001000111_1_0100110_1_1000001#32, .vavg 65#7 38#7 .quad),
    (0b1101000001001000_1_0100110_0_1000001#32, .vsrt3 65#7 38#7 .triple),
    (0b1101000001001001_1_0100110_1_1000001#32, .vsrt4 65#7 38#7 .quad),
    (0b1101000001001010_1_0100110_0_1000001#32, .vsgn 65#7 38#7 .triple),
    (0b1101000001011001_1_0100110_0_1000001#32, .vt4444 65#7 38#7 .triple),
    (0b1101000001011010_1_0100110_1_1000001#32, .vt5551 65#7 38#7 .quad),
    (0b1101000001011011_1_0100110_0_1000001#32, .vt5650 65#7 38#7 .triple),
    (0b1101000001010000_0_0111101_0_1000001#32, .vmfvc 65#7 61#7),
    (0b1101000001010001_0_0100110_0_0111101#32, .vmtvc 38#7 61#7),
    (0b11010000011_11101_1_0000000_1_1000001#32, .vcst 65#7 29#5 .quad),
    (0b11010010000_11101_1_0100110_0_1000001#32, .vf2in 65#7 38#7 29#5 .triple),
    (0b11010010001_11101_1_0100110_1_1000001#32, .vf2iz 65#7 38#7 29#5 .quad),
    (0b11010010010_11101_1_0100110_1_1000001#32, .vf2iu 65#7 38#7 29#5 .quad),
    (0b11010010011_11101_1_0100110_0_1000001#32, .vf2id 65#7 38#7 29#5 .triple),
    (0b11010010100_11101_1_0100110_1_1000001#32, .vi2f 65#7 38#7 29#5 .quad),
    (0b11010010101_0_0_101_0_0100110_1_1000001#32, .vcmovt 65#7 38#7 5#3 .pair),
    (0b11010010101_0_1_101_1_0100110_0_1000001#32, .vcmovf 65#7 38#7 5#3 .triple),
    (0b11010011_10111101_1_0100110_1_1000001#32, .vwbn 65#7 38#7 189#8 .quad)] : List (Word × Instr)).all decodesTo = true := by decide +kernel

theorem test_decode_vfpu5 : ([
    (0b11011100_0000_00001010110110111101#32, .vpfxs 44477#20),
    (0b11011101_0000_00001010110110111101#32, .vpfxt 44477#20),
    (0b11011110_000000000000_110110111101#32, .vpfxd 3517#12),
    (0b110111110_0010011_1010110110111101#32, .viimS 19#7 44477#16),
    (0b110111111_0010011_1010110110111101#32, .vfimS 19#7 44477#16)] : List (Word × Instr)).all decodesTo = true := by decide +kernel

theorem test_decode_vfpu6 : ([
    (0b111100000_0010011_0_0100110_1_1000001#32, .vmmul 65#7 38#7 19#7 .pair),
    (0b111100001_0010011_0_0100110_1_1000001#32, .vtfm2P 65#7 38#7 19#7),
    (0b111100001_0010011_0_0100110_0_1000001#32, .vhtfm2P 65#7 38#7 19#7),
    (0b111100010_0010011_1_0100110_0_1000001#32, .vtfm3T 65#7 38#7 19#7),
    (0b111100010_0010011_0_0100110_1_1000001#32, .vhtfm3T 65#7 38#7 19#7),
    (0b111100011_0010011_1_0100110_1_1000001#32, .vtfm4Q 65#7 38#7 19#7),
    (0b111100011_0010011_1_0100110_0_1000001#32, .vhtfm4Q 65#7 38#7 19#7),
    (0b111100100_0010011_1_0100110_0_1000001#32, .vmscl 65#7 38#7 19#7 .triple),
    (0b111100101_0010011_1_0100110_0_1000001#32, .vcrspT 65#7 38#7 19#7),
    (0b111100101_0010011_1_0100110_1_1000001#32, .vqmulQ 65#7 38#7 19#7),
    (0b11110011100_0_0000_1_0100110_1_1000001#32, .vmmov 65#7 38#7 .quad),
    (0b11110011100_0_0011_1_0100110_1_1000001#32, .vmidt 65#7 38#7 .quad),
    (0b11110011100_0_0110_1_0100110_1_1000001#32, .vmzero 65#7 38#7 .quad),
    (0b11110011100_0_0111_0_0100110_1_1000001#32, .vmone 65#7 38#7 .pair),
    (0b11110011101_11101_1_0100110_1_1000001#32, .vrot 65#7 38#7 29#5 .quad)] : List (Word × Instr)).all decodesTo = true := by decide +kernel

theorem test_decode_vfpu7 : ([
    (0b11111111111111110000000000000000#32, .vnop),
    (0b11111111111111110000001100100000#32, .vsync),
    (0b11111111111111110000010000001101#32, .vflush)] : List (Word × Instr)).all decodesTo = true := by decide +kernel

/-- V-SYS-05, V-SYS-06. -/
theorem test_decode_unknown : (match decode 0x40000000#32, decode 0xFC000000#32 with | .error .unknownOpcode, .error .unknownVfpu => true | _, _ => false) = true := by decide +kernel

/-! ### Integer instructions (95_test_vectors.md section 2, 3) -/

/-- V-ALU-01. -/
theorem test_alu_01 : after 0x01095020#32 (setUp [(8#5, 0x7FFFFFFF#32), (9#5, 0x00000001#32)] [] [] []) (fun t => [t.x 10#5, t.cpu.pc]) =
    some [0x80000000#32, 0x08804004#32] := by decide +kernel

/-- V-ALU-02. -/
theorem test_alu_02 : after 0x2109FFFF#32 (setUp [(8#5, 0x80000000#32)] [] [] []) (fun t => [t.x 9#5, t.cpu.pc]) =
    some [0x7FFFFFFF#32, 0x08804004#32] := by decide +kernel

/-- V-ALU-03. -/
theorem test_alu_03 : after 0x01095022#32 (setUp [(8#5, 0x80000000#32), (9#5, 0x00000001#32)] [] [] []) (fun t => [t.x 10#5, t.cpu.pc]) =
    some [0x7FFFFFFF#32, 0x08804004#32] := by decide +kernel

/-- V-ALU-04. -/
theorem test_alu_04 : after 0x24080005#32 (setUp [] [] [] []) (fun t => [t.x 8#5, t.cpu.pc]) =
    some [0x00000005#32, 0x08804004#32] := by decide +kernel

/-- V-ALU-05. -/
theorem test_alu_05 : after 0x24000001#32 (setUp [] [] [] []) (fun t => [t.x 0#5, t.cpu.pc]) =
    some [0x00000000#32, 0x08804004#32] := by decide +kernel

/-- V-ALU-06. -/
theorem test_alu_06 : after 0x0109502A#32 (setUp [(8#5, 0xFFFFFFFF#32), (9#5, 0x00000001#32)] [] [] []) (fun t => [t.x 10#5, t.cpu.pc]) =
    some [0x00000001#32, 0x08804004#32] := by decide +kernel

/-- V-ALU-07. -/
theorem test_alu_07 : after 0x0109502B#32 (setUp [(8#5, 0xFFFFFFFF#32), (9#5, 0x00000001#32)] [] [] []) (fun t => [t.x 10#5, t.cpu.pc]) =
    some [0x00000000#32, 0x08804004#32] := by decide +kernel

/-- V-ALU-08. -/
theorem test_alu_08 : after 0x2D0AFFFF#32 (setUp [(8#5, 0xFFFFFFFE#32)] [] [] []) (fun t => [t.x 10#5, t.cpu.pc]) =
    some [0x00000001#32, 0x08804004#32] := by decide +kernel

/-- V-ALU-09. -/
theorem test_alu_09 : after 0x3109FFFF#32 (setUp [(8#5, 0x12345678#32)] [] [] []) (fun t => [t.x 9#5, t.cpu.pc]) =
    some [0x00005678#32, 0x08804004#32] := by decide +kernel

/-- V-ALU-10. -/
theorem test_alu_10 : after 0x00005027#32 (setUp [] [] [] []) (fun t => [t.x 10#5, t.cpu.pc]) =
    some [0xFFFFFFFF#32, 0x08804004#32] := by decide +kernel

/-- V-ALU-11. -/
theorem test_alu_11 : after 0x3C088000#32 (setUp [] [] [] []) (fun t => [t.x 8#5, t.cpu.pc]) =
    some [0x80000000#32, 0x08804004#32] := by decide +kernel

/-- V-ALU-12. -/
theorem test_alu_12 : after 0x00095103#32 (setUp [(9#5, 0x80000010#32)] [] [] []) (fun t => [t.x 10#5, t.cpu.pc]) =
    some [0xF8000001#32, 0x08804004#32] := by decide +kernel

/-- V-ALU-13. -/
theorem test_alu_13 : after 0x00095102#32 (setUp [(9#5, 0x80000010#32)] [] [] []) (fun t => [t.x 10#5, t.cpu.pc]) =
    some [0x08000001#32, 0x08804004#32] := by decide +kernel

/-- V-ALU-14. -/
theorem test_alu_14 : after 0x00295202#32 (setUp [(9#5, 0x12345678#32)] [] [] []) (fun t => [t.x 10#5, t.cpu.pc]) =
    some [0x78123456#32, 0x08804004#32] := by decide +kernel

/-- V-ALU-15. -/
theorem test_alu_15 : after 0x01095004#32 (setUp [(8#5, 0x00000021#32), (9#5, 0x00000001#32)] [] [] []) (fun t => [t.x 10#5, t.cpu.pc]) =
    some [0x00000002#32, 0x08804004#32] := by decide +kernel

/-- V-ALU-16. -/
theorem test_alu_16 : after 0x01095046#32 (setUp [(8#5, 0x00000020#32), (9#5, 0x12345678#32)] [] [] []) (fun t => [t.x 10#5, t.cpu.pc]) =
    some [0x12345678#32, 0x08804004#32] := by decide +kernel

/-- V-ALU-17. -/
theorem test_alu_17 : after 0x0109500A#32 (setUp [(8#5, 0x00000005#32), (9#5, 0x00000000#32), (10#5, 0x00000007#32)] [] [] []) (fun t => [t.x 10#5, t.cpu.pc]) =
    some [0x00000005#32, 0x08804004#32] := by decide +kernel

/-- V-ALU-18. -/
theorem test_alu_18 : after 0x0109500B#32 (setUp [(8#5, 0x00000005#32), (9#5, 0x00000000#32), (10#5, 0x00000007#32)] [] [] []) (fun t => [t.x 10#5, t.cpu.pc]) =
    some [0x00000007#32, 0x08804004#32] := by decide +kernel

/-- V-ALU-19. -/
theorem test_alu_19 : after 0x01005016#32 (setUp [] [] [] []) (fun t => [t.x 10#5, t.cpu.pc]) =
    some [0x00000020#32, 0x08804004#32] := by decide +kernel

/-- V-ALU-20. -/
theorem test_alu_20 : after 0x01005016#32 (setUp [(8#5, 0x00010000#32)] [] [] []) (fun t => [t.x 10#5, t.cpu.pc]) =
    some [0x0000000F#32, 0x08804004#32] := by decide +kernel

/-- V-ALU-21. -/
theorem test_alu_21 : after 0x01005017#32 (setUp [(8#5, 0xFFFF0000#32)] [] [] []) (fun t => [t.x 10#5, t.cpu.pc]) =
    some [0x00000010#32, 0x08804004#32] := by decide +kernel

/-- V-ALU-22. -/
theorem test_alu_22 : after 0x0109502C#32 (setUp [(8#5, 0xFFFFFFFF#32), (9#5, 0x00000001#32)] [] [] []) (fun t => [t.x 10#5, t.cpu.pc]) =
    some [0x00000001#32, 0x08804004#32] := by decide +kernel

/-- V-ALU-23. -/
theorem test_alu_23 : after 0x0109502D#32 (setUp [(8#5, 0xFFFFFFFF#32), (9#5, 0x00000001#32)] [] [] []) (fun t => [t.x 10#5, t.cpu.pc]) =
    some [0xFFFFFFFF#32, 0x08804004#32] := by decide +kernel

/-- V-ALU-24. -/
theorem test_alu_24 : after 0x7D0A3900#32 (setUp [(8#5, 0x12345678#32)] [] [] []) (fun t => [t.x 10#5, t.cpu.pc]) =
    some [0x00000067#32, 0x08804004#32] := by decide +kernel

/-- V-ALU-26. -/
theorem test_alu_26 : after 0x7D0A7A04#32 (setUp [(8#5, 0x000000AB#32), (10#5, 0xFFFFFFFF#32)] [] [] []) (fun t => [t.x 10#5, t.cpu.pc]) =
    some [0xFFFFABFF#32, 0x08804004#32] := by decide +kernel

/-- V-ALU-28. -/
theorem test_alu_28 : after 0x7C0950A0#32 (setUp [(9#5, 0x12345678#32)] [] [] []) (fun t => [t.x 10#5, t.cpu.pc]) =
    some [0x34127856#32, 0x08804004#32] := by decide +kernel

/-- V-ALU-29. -/
theorem test_alu_29 : after 0x7C0950E0#32 (setUp [(9#5, 0x12345678#32)] [] [] []) (fun t => [t.x 10#5, t.cpu.pc]) =
    some [0x78563412#32, 0x08804004#32] := by decide +kernel

/-- V-ALU-30. -/
theorem test_alu_30 : after 0x7C095420#32 (setUp [(9#5, 0x00000080#32)] [] [] []) (fun t => [t.x 10#5, t.cpu.pc]) =
    some [0xFFFFFF80#32, 0x08804004#32] := by decide +kernel

/-- V-ALU-31. -/
theorem test_alu_31 : after 0x7C095620#32 (setUp [(9#5, 0x00017FFF#32)] [] [] []) (fun t => [t.x 10#5, t.cpu.pc]) =
    some [0x00007FFF#32, 0x08804004#32] := by decide +kernel

/-- V-ALU-32. -/
theorem test_alu_32 : after 0x7C095520#32 (setUp [(9#5, 0x12345678#32)] [] [] []) (fun t => [t.x 10#5, t.cpu.pc]) =
    some [0x1E6A2C48#32, 0x08804004#32] := by decide +kernel

/-- V-ALU-25. -/
theorem test_alu_25 : refusedAs 0x7D0AF900#32 (setUp [] [] [] []) .extInsRange = true := by decide +kernel

/-- V-ALU-27. -/
theorem test_alu_27 : refusedAs 0x7D0A1A04#32 (setUp [] [] [] []) .extInsRange = true := by decide +kernel

/-- R211: the sum wraps, a source is the destination. -/
theorem test_addu : after 0x01094021#32 (setUp [(8#5, 0xFFFFFFFF#32), (9#5, 0x00000002#32)] [] [] []) (fun t => [t.x 8#5, t.cpu.pc]) =
    some [0x00000001#32, 0x08804004#32] := by decide +kernel

/-- R213. -/
theorem test_subu : after 0x01094823#32 (setUp [(8#5, 0x00000001#32), (9#5, 0x00000002#32)] [] [] []) (fun t => [t.x 9#5, t.cpu.pc]) =
    some [0xFFFFFFFF#32, 0x08804004#32] := by decide +kernel

/-- R218. -/
theorem test_slti : after 0x2909FFFF#32 (setUp [(8#5, 0xFFFFFFFE#32)] [] [] []) (fun t => [t.x 9#5, t.cpu.pc]) =
    some [0x00000001#32, 0x08804004#32] := by decide +kernel

/-- R220. -/
theorem test_and : after 0x01095024#32 (setUp [(8#5, 0xFF00FF00#32), (9#5, 0x0FF00FF0#32)] [] [] []) (fun t => [t.x 10#5, t.cpu.pc]) =
    some [0x0F000F00#32, 0x08804004#32] := by decide +kernel

/-- R221. -/
theorem test_or : after 0x01095025#32 (setUp [(8#5, 0xFF00FF00#32), (9#5, 0x0FF00FF0#32)] [] [] []) (fun t => [t.x 10#5, t.cpu.pc]) =
    some [0xFFF0FFF0#32, 0x08804004#32] := by decide +kernel

/-- R222. -/
theorem test_xor : after 0x01095026#32 (setUp [(8#5, 0xFF00FF00#32), (9#5, 0x0FF00FF0#32)] [] [] []) (fun t => [t.x 10#5, t.cpu.pc]) =
    some [0xF0F0F0F0#32, 0x08804004#32] := by decide +kernel

/-- R225: the immediate is zero-extended. -/
theorem test_ori : after 0x35098000#32 (setUp [(8#5, 0x00000001#32)] [] [] []) (fun t => [t.x 9#5, t.cpu.pc]) =
    some [0x00008001#32, 0x08804004#32] := by decide +kernel

/-- R226. -/
theorem test_xori : after 0x3909FFFF#32 (setUp [(8#5, 0xFFFFFFFF#32)] [] [] []) (fun t => [t.x 9#5, t.cpu.pc]) =
    some [0xFFFF0000#32, 0x08804004#32] := by decide +kernel

/-- R228. -/
theorem test_sll : after 0x000957C0#32 (setUp [(9#5, 0x00000003#32)] [] [] []) (fun t => [t.x 10#5, t.cpu.pc]) =
    some [0x80000000#32, 0x08804004#32] := by decide +kernel

/-- R232: only the low five bits of the amount count. -/
theorem test_srlv : after 0x01095006#32 (setUp [(8#5, 0x0000003F#32), (9#5, 0x80000000#32)] [] [] []) (fun t => [t.x 10#5, t.cpu.pc]) =
    some [0x00000001#32, 0x08804004#32] := by decide +kernel

/-- R233. -/
theorem test_srav : after 0x01095007#32 (setUp [(8#5, 0x0000001F#32), (9#5, 0x80000000#32)] [] [] []) (fun t => [t.x 10#5, t.cpu.pc]) =
    some [0xFFFFFFFF#32, 0x08804004#32] := by decide +kernel

/-- R210: with OVERFLOW_TRAPS on, Fatal(UNMODELLED), nothing written. -/
theorem test_overflow_traps : (nextOf (exec (.add 8#5 9#5 10#5 0#5) (trapping (setUp [(8#5, 0x7FFFFFFF#32), (9#5, 0x00000001#32)] [] [] [])))).map (fun t => [failCode t, t.x 10#5, t.cpu.pc]) =
    some [9#32, 0#32, 0x08804000#32] := by decide +kernel

/-- V-MD-01. -/
theorem test_md_01 : after 0x01090018#32 (setUp [(8#5, 0xFFFFFFFF#32), (9#5, 0x00000002#32)] [] [] [] |>.setHi 0x00000000#32 |>.setLo 0x00000000#32) (fun t => [t.cpu.hi, t.cpu.lo]) =
    some [0xFFFFFFFF#32, 0xFFFFFFFE#32] := by decide +kernel

/-- V-MD-02. -/
theorem test_md_02 : after 0x01090019#32 (setUp [(8#5, 0xFFFFFFFF#32), (9#5, 0x00000002#32)] [] [] [] |>.setHi 0x00000000#32 |>.setLo 0x00000000#32) (fun t => [t.cpu.hi, t.cpu.lo]) =
    some [0x00000001#32, 0xFFFFFFFE#32] := by decide +kernel

/-- V-MD-03. -/
theorem test_md_03 : after 0x0109001A#32 (setUp [(8#5, 0xFFFFFFF9#32), (9#5, 0x00000002#32)] [] [] [] |>.setHi 0x00000000#32 |>.setLo 0x00000000#32) (fun t => [t.cpu.hi, t.cpu.lo]) =
    some [0xFFFFFFFF#32, 0xFFFFFFFD#32] := by decide +kernel

/-- V-MD-05. -/
theorem test_md_05 : after 0x0109001A#32 (setUp [(8#5, 0xFFFFFFF9#32)] [] [] [] |>.setHi 0x00000000#32 |>.setLo 0x00000000#32) (fun t => [t.cpu.hi, t.cpu.lo]) =
    some [0xFFFFFFF9#32, 0x00000001#32] := by decide +kernel

/-- V-MD-07. -/
theorem test_md_07 : after 0x0109001A#32 (setUp [(8#5, 0x80000000#32), (9#5, 0xFFFFFFFF#32)] [] [] [] |>.setHi 0x00000000#32 |>.setLo 0x00000000#32) (fun t => [t.cpu.hi, t.cpu.lo]) =
    some [0xFFFFFFFF#32, 0x80000000#32] := by decide +kernel

/-- V-MD-08. -/
theorem test_md_08 : after 0x0109001B#32 (setUp [(8#5, 0x12345678#32)] [] [] [] |>.setHi 0x00000000#32 |>.setLo 0x00000000#32) (fun t => [t.cpu.hi, t.cpu.lo]) =
    some [0x12345678#32, 0xFFFFFFFF#32] := by decide +kernel

/-- V-MD-09. -/
theorem test_md_09 : after 0x0109001B#32 (setUp [(8#5, 0x00001234#32)] [] [] [] |>.setHi 0x00000000#32 |>.setLo 0x00000000#32) (fun t => [t.cpu.hi, t.cpu.lo]) =
    some [0x00001234#32, 0x0000FFFF#32] := by decide +kernel

/-- V-MD-11. -/
theorem test_md_11 : after 0x0109001C#32 (setUp [(8#5, 0x00000001#32), (9#5, 0x00000001#32)] [] [] [] |>.setHi 0x00000000#32 |>.setLo 0xFFFFFFFF#32) (fun t => [t.cpu.hi, t.cpu.lo]) =
    some [0x00000001#32, 0x00000000#32] := by decide +kernel

/-- V-MD-12. -/
theorem test_md_12 : after 0x0109001C#32 (setUp [(8#5, 0xFFFFFFFF#32), (9#5, 0x00000001#32)] [] [] [] |>.setHi 0x00000000#32 |>.setLo 0x00000000#32) (fun t => [t.cpu.hi, t.cpu.lo]) =
    some [0xFFFFFFFF#32, 0xFFFFFFFF#32] := by decide +kernel

/-- V-MD-13. -/
theorem test_md_13 : after 0x0109001D#32 (setUp [(8#5, 0xFFFFFFFF#32), (9#5, 0x00000001#32)] [] [] [] |>.setHi 0x00000000#32 |>.setLo 0x00000000#32) (fun t => [t.cpu.hi, t.cpu.lo]) =
    some [0x00000000#32, 0xFFFFFFFF#32] := by decide +kernel

/-- V-MD-14. -/
theorem test_md_14 : after 0x0109002E#32 (setUp [(8#5, 0x00000001#32), (9#5, 0x00000001#32)] [] [] [] |>.setHi 0x00000000#32 |>.setLo 0x00000000#32) (fun t => [t.cpu.hi, t.cpu.lo]) =
    some [0xFFFFFFFF#32, 0xFFFFFFFF#32] := by decide +kernel

/-- V-MD-15. -/
theorem test_md_15 : after 0x0109002F#32 (setUp [(8#5, 0x00000002#32), (9#5, 0x00000003#32)] [] [] [] |>.setHi 0x00000000#32 |>.setLo 0x00000005#32) (fun t => [t.cpu.hi, t.cpu.lo]) =
    some [0xFFFFFFFF#32, 0xFFFFFFFF#32] := by decide +kernel

/-- V-MD-16. -/
theorem test_md_16_mfhi : after 0x00005010#32 (setUp [] [] [] [] |>.setHi 10#32 |>.setLo 11#32) (fun t => [t.x 10#5]) =
    some [0x0000000A#32] := by decide +kernel

/-- V-MD-16. -/
theorem test_md_16_mflo : after 0x00005012#32 (setUp [] [] [] [] |>.setHi 10#32 |>.setLo 11#32) (fun t => [t.x 10#5]) =
    some [0x0000000B#32] := by decide +kernel

/-- R251. -/
theorem test_mthi : after 0x01000011#32 (setUp [(8#5, 0x00000005#32)] [] [] [] |>.setHi 0x00000001#32 |>.setLo 0x00000002#32) (fun t => [t.cpu.hi, t.cpu.lo]) =
    some [0x00000005#32, 0x00000002#32] := by decide +kernel

/-- R253. -/
theorem test_mtlo : after 0x01000013#32 (setUp [(8#5, 0x00000005#32)] [] [] [] |>.setHi 0x00000001#32 |>.setLo 0x00000002#32) (fun t => [t.cpu.hi, t.cpu.lo]) =
    some [0x00000001#32, 0x00000005#32] := by decide +kernel

/-! ### Branches and jumps (section 4) -/

/-- V-BR-01. -/
theorem test_br_01 : after 0x11090003#32 (setUp [] [] [] []) (fun t => [t.cpu.pc, bit t.pending, t.cpu.branchPC]) =
    some [0x08804004#32, 0x00000001#32, 0x08804010#32] := by decide +kernel

/-- V-BR-02. -/
theorem test_br_02 : after 0x15090003#32 (setUp [] [] [] []) (fun t => [t.cpu.pc, bit t.pending, t.cpu.branchPC]) =
    some [0x08804004#32, 0x00000001#32, 0x08804008#32] := by decide +kernel

/-- V-BR-03. -/
theorem test_br_03 : after 0x55090003#32 (setUp [] [] [] []) (fun t => [t.cpu.pc, bit t.pending]) =
    some [0x08804008#32, 0x00000000#32] := by decide +kernel

/-- V-BR-04. -/
theorem test_br_04 : after 0x5109FFFF#32 (setUp [] [] [] []) (fun t => [t.cpu.pc, bit t.pending, t.cpu.branchPC]) =
    some [0x08804004#32, 0x00000001#32, 0x08804000#32] := by decide +kernel

/-- V-BR-05, with an offset that tells it from not taken. -/
theorem test_br_05 : after 0x19000002#32 (setUp [(8#5, 0x80000000#32)] [] [] []) (fun t => [t.cpu.pc, bit t.pending, t.cpu.branchPC]) =
    some [0x08804004#32, 0x00000001#32, 0x0880400C#32] := by decide +kernel

/-- V-BR-06. -/
theorem test_br_06 : after 0x1D000002#32 (setUp [] [] [] []) (fun t => [t.cpu.pc, bit t.pending, t.cpu.branchPC]) =
    some [0x08804004#32, 0x00000001#32, 0x08804008#32] := by decide +kernel

/-- V-BR-07. -/
theorem test_br_07 : after 0x05100002#32 (setUp [(8#5, 0x00000001#32)] [] [] []) (fun t => [t.cpu.pc, bit t.pending, t.cpu.branchPC, t.x 31#5]) =
    some [0x08804004#32, 0x00000001#32, 0x08804008#32, 0x08804008#32] := by decide +kernel

/-- V-BR-08. -/
theorem test_br_08 : after 0x07F10002#32 (setUp [(31#5, 0xFFFFFFFF#32)] [] [] []) (fun t => [t.cpu.pc, bit t.pending, t.cpu.branchPC, t.x 31#5]) =
    some [0x08804004#32, 0x00000001#32, 0x08804008#32, 0x08804008#32] := by decide +kernel

/-- V-BR-09. -/
theorem test_br_09 : after 0x0E201040#32 (setUp [] [] [] []) (fun t => [t.cpu.pc, bit t.pending, t.cpu.branchPC, t.x 31#5]) =
    some [0x08804004#32, 0x00000001#32, 0x08804100#32, 0x08804008#32] := by decide +kernel

/-- V-BR-10. -/
theorem test_br_10 : after 0x08000000#32 (setUp [] [] [] [] |>.setPc 0x0FFFFFFC#32) (fun t => [t.cpu.branchPC]) =
    some [0x10000000#32] := by decide +kernel

/-- V-BR-11. -/
theorem test_br_11 : after 0x03E0F809#32 (setUp [(31#5, 0x08805000#32)] [] [] []) (fun t => [t.cpu.pc, bit t.pending, t.cpu.branchPC, t.x 31#5]) =
    some [0x08804004#32, 0x00000001#32, 0x08805000#32, 0x08804008#32] := by decide +kernel

/-- V-BR-12. -/
theorem test_br_12 : after 0x01000008#32 (setUp [(8#5, 0x08805002#32)] [] [] []) (fun t => [t.cpu.pc, bit t.pending, t.cpu.branchPC]) =
    some [0x08804004#32, 0x00000001#32, 0x08805002#32] := by decide +kernel

/-- V-BR-13. -/
theorem test_br_13 : refusedAs 0x0A201040#32 (setUp [] [] [] [] |>.latchBranch 0x08804014#32) .ctiInDelaySlot = true := by decide +kernel

/-- R282 to R284, R288. -/
theorem test_bltz : after 0x05000004#32 (setUp [(8#5, 0x00000000#32)] [] [] []) (fun t => [t.cpu.pc, bit t.pending, t.x 31#5]) =
    some [0x08804004#32, 0x00000001#32, 0x00000000#32] := by decide +kernel

/-- R282 to R284, R288. -/
theorem test_bgez : after 0x05010004#32 (setUp [(8#5, 0x00000000#32)] [] [] []) (fun t => [t.cpu.pc, bit t.pending, t.x 31#5]) =
    some [0x08804004#32, 0x00000001#32, 0x00000000#32] := by decide +kernel

/-- R282 to R284, R288. -/
theorem test_bltzl : after 0x05020004#32 (setUp [(8#5, 0xFFFFFFFF#32)] [] [] []) (fun t => [t.cpu.pc, bit t.pending, t.x 31#5]) =
    some [0x08804004#32, 0x00000001#32, 0x00000000#32] := by decide +kernel

/-- R282 to R284, R288. -/
theorem test_bgezl : after 0x05030004#32 (setUp [(8#5, 0xFFFFFFFF#32)] [] [] []) (fun t => [t.cpu.pc, bit t.pending, t.x 31#5]) =
    some [0x08804008#32, 0x00000000#32, 0x00000000#32] := by decide +kernel

/-- R282 to R284, R288. -/
theorem test_blezl : after 0x59000004#32 (setUp [(8#5, 0x00000001#32)] [] [] []) (fun t => [t.cpu.pc, bit t.pending, t.x 31#5]) =
    some [0x08804008#32, 0x00000000#32, 0x00000000#32] := by decide +kernel

/-- R282 to R284, R288. -/
theorem test_bgtzl : after 0x5D000004#32 (setUp [(8#5, 0x00000001#32)] [] [] []) (fun t => [t.cpu.pc, bit t.pending, t.x 31#5]) =
    some [0x08804004#32, 0x00000001#32, 0x00000000#32] := by decide +kernel

/-- R282 to R284, R288. -/
theorem test_bltzall : after 0x05120004#32 (setUp [(8#5, 0x00000001#32)] [] [] []) (fun t => [t.cpu.pc, bit t.pending, t.x 31#5]) =
    some [0x08804008#32, 0x00000000#32, 0x08804008#32] := by decide +kernel

/-- R282 to R284, R288. -/
theorem test_bgezall : after 0x05130004#32 (setUp [(8#5, 0x00000000#32)] [] [] []) (fun t => [t.cpu.pc, bit t.pending, t.x 31#5]) =
    some [0x08804004#32, 0x00000001#32, 0x08804008#32] := by decide +kernel

/-! ### Loads and stores (section 5) -/

/-- V-LS-02. -/
theorem test_ls_02 : after 0x89280001#32 (setUp [(9#5, 0x08810000#32), (8#5, 0xAABBCCDD#32)] [] [] [(0x08810000#32, 0x44332211#32), (0x08810004#32, 0x88776655#32), (0x08810008#32, 0xCCBBAA99#32), (0x0881000C#32, 0x00FFEEDD#32)]) (fun t => [t.x 8#5, failCode t]) =
    some [0x2211CCDD#32, 0x00000000#32] := by decide +kernel

/-- V-LS-04. -/
theorem test_ls_04 : after 0x89280003#32 (setUp [(9#5, 0x08810000#32), (8#5, 0xAABBCCDD#32)] [] [] [(0x08810000#32, 0x44332211#32), (0x08810004#32, 0x88776655#32), (0x08810008#32, 0xCCBBAA99#32), (0x0881000C#32, 0x00FFEEDD#32)]) (fun t => [t.x 8#5, failCode t]) =
    some [0x44332211#32, 0x00000000#32] := by decide +kernel

/-- V-LS-05. -/
theorem test_ls_05 : after 0x99280000#32 (setUp [(9#5, 0x08810000#32), (8#5, 0xAABBCCDD#32)] [] [] [(0x08810000#32, 0x44332211#32), (0x08810004#32, 0x88776655#32), (0x08810008#32, 0xCCBBAA99#32), (0x0881000C#32, 0x00FFEEDD#32)]) (fun t => [t.x 8#5, failCode t]) =
    some [0x44332211#32, 0x00000000#32] := by decide +kernel

/-- V-LS-07. -/
theorem test_ls_07 : after 0x99280002#32 (setUp [(9#5, 0x08810000#32), (8#5, 0xAABBCCDD#32)] [] [] [(0x08810000#32, 0x44332211#32), (0x08810004#32, 0x88776655#32), (0x08810008#32, 0xCCBBAA99#32), (0x0881000C#32, 0x00FFEEDD#32)]) (fun t => [t.x 8#5, failCode t]) =
    some [0xAABB4433#32, 0x00000000#32] := by decide +kernel

/-- V-LS-17. -/
theorem test_ls_17 : after 0x81280007#32 (setUp [(9#5, 0x08810000#32), (8#5, 0xAABBCCDD#32)] [] [] [(0x08810000#32, 0x44332211#32), (0x08810004#32, 0x88776655#32), (0x08810008#32, 0xCCBBAA99#32), (0x0881000C#32, 0x00FFEEDD#32)]) (fun t => [t.x 8#5, failCode t]) =
    some [0xFFFFFF88#32, 0x00000000#32] := by decide +kernel

/-- V-LS-18. -/
theorem test_ls_18 : after 0x91280007#32 (setUp [(9#5, 0x08810000#32), (8#5, 0xAABBCCDD#32)] [] [] [(0x08810000#32, 0x44332211#32), (0x08810004#32, 0x88776655#32), (0x08810008#32, 0xCCBBAA99#32), (0x0881000C#32, 0x00FFEEDD#32)]) (fun t => [t.x 8#5, failCode t]) =
    some [0x00000088#32, 0x00000000#32] := by decide +kernel

/-- V-LS-19. -/
theorem test_ls_19 : after 0x85280006#32 (setUp [(9#5, 0x08810000#32), (8#5, 0xAABBCCDD#32)] [] [] [(0x08810000#32, 0x44332211#32), (0x08810004#32, 0x88776655#32), (0x08810008#32, 0xCCBBAA99#32), (0x0881000C#32, 0x00FFEEDD#32)]) (fun t => [t.x 8#5, failCode t]) =
    some [0xFFFF8877#32, 0x00000000#32] := by decide +kernel

/-- V-LS-20. -/
theorem test_ls_20 : after 0x95280006#32 (setUp [(9#5, 0x08810000#32), (8#5, 0xAABBCCDD#32)] [] [] [(0x08810000#32, 0x44332211#32), (0x08810004#32, 0x88776655#32), (0x08810008#32, 0xCCBBAA99#32), (0x0881000C#32, 0x00FFEEDD#32)]) (fun t => [t.x 8#5, failCode t]) =
    some [0x00008877#32, 0x00000000#32] := by decide +kernel

/-- V-LS-10. -/
theorem test_ls_10 : after 0xA9280001#32 (setUp [(9#5, 0x08810000#32), (8#5, 0xAABBCCDD#32)] [] [] [(0x08810000#32, 0x44332211#32), (0x08810004#32, 0x88776655#32), (0x08810008#32, 0xCCBBAA99#32), (0x0881000C#32, 0x00FFEEDD#32)]) (fun t => [t.loadWord 0x08810000#32, failCode t]) =
    some [0x4433AABB#32, 0x00000000#32] := by decide +kernel

/-- V-LS-12. -/
theorem test_ls_12 : after 0xA9280003#32 (setUp [(9#5, 0x08810000#32), (8#5, 0xAABBCCDD#32)] [] [] [(0x08810000#32, 0x44332211#32), (0x08810004#32, 0x88776655#32), (0x08810008#32, 0xCCBBAA99#32), (0x0881000C#32, 0x00FFEEDD#32)]) (fun t => [t.loadWord 0x08810000#32, failCode t]) =
    some [0xAABBCCDD#32, 0x00000000#32] := by decide +kernel

/-- V-LS-13. -/
theorem test_ls_13 : after 0xB9280000#32 (setUp [(9#5, 0x08810000#32), (8#5, 0xAABBCCDD#32)] [] [] [(0x08810000#32, 0x44332211#32), (0x08810004#32, 0x88776655#32), (0x08810008#32, 0xCCBBAA99#32), (0x0881000C#32, 0x00FFEEDD#32)]) (fun t => [t.loadWord 0x08810000#32, failCode t]) =
    some [0xAABBCCDD#32, 0x00000000#32] := by decide +kernel

/-- V-LS-15. -/
theorem test_ls_15 : after 0xB9280002#32 (setUp [(9#5, 0x08810000#32), (8#5, 0xAABBCCDD#32)] [] [] [(0x08810000#32, 0x44332211#32), (0x08810004#32, 0x88776655#32), (0x08810008#32, 0xCCBBAA99#32), (0x0881000C#32, 0x00FFEEDD#32)]) (fun t => [t.loadWord 0x08810000#32, failCode t]) =
    some [0xCCDD2211#32, 0x00000000#32] := by decide +kernel

/-- V-LS-22. -/
theorem test_ls_22 : after 0xA1280003#32 (setUp [(9#5, 0x08810000#32), (8#5, 0x123456AB#32)] [] [] [(0x08810000#32, 0x44332211#32), (0x08810004#32, 0x88776655#32), (0x08810008#32, 0xCCBBAA99#32), (0x0881000C#32, 0x00FFEEDD#32)]) (fun t => [t.loadWord 0x08810000#32, failCode t]) =
    some [0xAB332211#32, 0x00000000#32] := by decide +kernel

/-- V-LS-23. -/
theorem test_ls_23 : after 0xA5280002#32 (setUp [(9#5, 0x08810000#32), (8#5, 0x1234CAFE#32)] [] [] [(0x08810000#32, 0x44332211#32), (0x08810004#32, 0x88776655#32), (0x08810008#32, 0xCCBBAA99#32), (0x0881000C#32, 0x00FFEEDD#32)]) (fun t => [t.loadWord 0x08810000#32, failCode t]) =
    some [0xCAFE2211#32, 0x00000000#32] := by decide +kernel

/-- V-LS-25: the uncached mirror. -/
theorem test_ls_25 : after 0xAD280000#32 (setUp [(9#5, 0x48810000#32), (8#5, 0xAABBCCDD#32)] [] [] [(0x08810000#32, 0x44332211#32), (0x08810004#32, 0x88776655#32), (0x08810008#32, 0xCCBBAA99#32), (0x0881000C#32, 0x00FFEEDD#32)]) (fun t => [t.loadWord 0x08810000#32, failCode t]) =
    some [0xAABBCCDD#32, 0x00000000#32] := by decide +kernel

/-- V-LS-21. -/
theorem test_ls_21 : after 0x85280001#32 (setUp [(9#5, 0x08810000#32), (8#5, 0xAABBCCDD#32)] [] [] [(0x08810000#32, 0x44332211#32), (0x08810004#32, 0x88776655#32), (0x08810008#32, 0xCCBBAA99#32), (0x0881000C#32, 0x00FFEEDD#32)]) (fun t => [failCode t, failAddr t, t.x 8#5, t.cpu.pc]) =
    some [0x00000006#32, 0x08810001#32, 0xAABBCCDD#32, 0x08804000#32] := by decide +kernel

/-- V-LS-24. -/
theorem test_ls_24 : after 0x8C080000#32 (setUp [(9#5, 0x08810000#32), (8#5, 0xAABBCCDD#32)] [] [] []) (fun t => [failCode t, failAddr t]) =
    some [0x00000005#32, 0x00000000#32] := by decide +kernel

/-- V-LS-26. -/
theorem test_ls_26 : after 0xE1280000#32 (setUp [(9#5, 0x08810000#32), (8#5, 0xAABBCCDD#32)] [] [] [(0x08810000#32, 0x44332211#32), (0x08810004#32, 0x88776655#32), (0x08810008#32, 0xCCBBAA99#32), (0x0881000C#32, 0x00FFEEDD#32)]) (fun t => [t.x 8#5, t.loadWord 0x08810000#32, failCode t]) =
    some [0x00000000#32, 0x44332211#32, 0x00000000#32] := by decide +kernel

/-- V-LS-27. -/
theorem test_ls_27_ll : after 0xC1280000#32 (setUp [(9#5, 0x08810000#32), (8#5, 0xAABBCCDD#32)] [] [] [(0x08810000#32, 0x44332211#32), (0x08810004#32, 0x88776655#32), (0x08810008#32, 0xCCBBAA99#32), (0x0881000C#32, 0x00FFEEDD#32)]) (fun t => [t.x 8#5, bit (t.cpu.llBit), failCode t]) =
    some [0x44332211#32, 0x00000001#32, 0x00000000#32] := by decide +kernel

/-- V-LS-27. -/
theorem test_ls_27_sc : after 0xE12A0000#32 (setUp [(9#5, 0x08810000#32), (10#5, 0x00000005#32)] [] [] [(0x08810000#32, 0x44332211#32), (0x08810004#32, 0x88776655#32), (0x08810008#32, 0xCCBBAA99#32), (0x0881000C#32, 0x00FFEEDD#32)] |>.setLlBit true) (fun t => [t.x 10#5, t.loadWord 0x08810000#32, bit (t.cpu.llBit)]) =
    some [0x00000001#32, 0x00000005#32, 0x00000001#32] := by decide +kernel

/-- V-LS-29. -/
theorem test_ls_29 : after 0xC5210000#32 (setUp [(9#5, 0x08810000#32), (8#5, 0xAABBCCDD#32)] [] [] [(0x08810000#32, 0x44332211#32), (0x08810004#32, 0x88776655#32), (0x08810008#32, 0xCCBBAA99#32), (0x0881000C#32, 0x00FFEEDD#32)]) (fun t => [t.f 1#5, failCode t]) =
    some [0x44332211#32, 0x00000000#32] := by decide +kernel

/-- V-LS-30. -/
theorem test_ls_30 : after 0xC9250003#32 (setUp [(9#5, 0x08810000#32), (8#5, 0xAABBCCDD#32)] [] [] [(0x08810000#32, 0x44332211#32), (0x08810004#32, 0x88776655#32), (0x08810008#32, 0xCCBBAA99#32), (0x0881000C#32, 0x00FFEEDD#32)]) (fun t => [t.vr 101#7, failCode t]) =
    some [0x44332211#32, 0x00000000#32] := by decide +kernel

/-- V-LS-31. -/
theorem test_ls_31 : after 0xD9200004#32 (setUp [(9#5, 0x08810000#32), (8#5, 0xAABBCCDD#32)] [] [] [(0x08810000#32, 0x44332211#32), (0x08810004#32, 0x88776655#32), (0x08810008#32, 0xCCBBAA99#32), (0x0881000C#32, 0x00FFEEDD#32)]) (fun t => [failCode t, failAddr t, t.vr 0#7]) =
    some [0x00000006#32, 0x08810004#32, 0x00000000#32] := by decide +kernel

/-- V-LS-32. -/
theorem test_ls_32 : after 0xD520000C#32 (setUp [(9#5, 0x08810000#32), (8#5, 0xAABBCCDD#32)] [] [] [(0x08810000#32, 0x44332211#32), (0x08810004#32, 0x88776655#32), (0x08810008#32, 0xCCBBAA99#32), (0x0881000C#32, 0x00FFEEDD#32)]) (fun t => [t.vr 0#7, t.vr 32#7, t.vr 64#7, t.vr 96#7, failCode t]) =
    some [0x44332211#32, 0x88776655#32, 0xCCBBAA99#32, 0x00FFEEDD#32, 0x00000000#32] := by decide +kernel

/-- V-LS-34. -/
theorem test_ls_34 : after 0x8D290000#32 (setUp [(9#5, 0x08810000#32), (8#5, 0xAABBCCDD#32)] [] [] [(0x08810000#32, 0x44332211#32), (0x08810004#32, 0x88776655#32), (0x08810008#32, 0xCCBBAA99#32), (0x0881000C#32, 0x00FFEEDD#32)]) (fun t => [t.x 9#5, failCode t]) =
    some [0x44332211#32, 0x00000000#32] := by decide +kernel

/-- V-LS-35. -/
theorem test_lw_zero : after 0x8D200000#32 (setUp [(9#5, 0x08810000#32), (8#5, 0xAABBCCDD#32)] [] [] [(0x08810000#32, 0x44332211#32), (0x08810004#32, 0x88776655#32), (0x08810008#32, 0xCCBBAA99#32), (0x0881000C#32, 0x00FFEEDD#32)]) (fun t => [t.x 0#5, failCode t]) =
    some [0x00000000#32, 0x00000000#32] := by decide +kernel

/-- R340. -/
theorem test_lv_q : after 0xD9200000#32 (setUp [(9#5, 0x08810000#32), (8#5, 0xAABBCCDD#32)] [] [] [(0x08810000#32, 0x44332211#32), (0x08810004#32, 0x88776655#32), (0x08810008#32, 0xCCBBAA99#32), (0x0881000C#32, 0x00FFEEDD#32)]) (fun t => [t.vr 0#7, t.vr 96#7]) =
    some [0x44332211#32, 0x00FFEEDD#32] := by decide +kernel

/-- R339. -/
theorem test_sv_s : after 0xE9210005#32 (setUp [(9#5, 0x08810000#32), (8#5, 0xAABBCCDD#32)] [] [(33#7, 0x00000007#32)] []) (fun t => [t.loadWord 0x08810004#32]) =
    some [0x00000007#32] := by decide +kernel

/-- R337. -/
theorem test_swc1 : after 0xE5210004#32 (setUp [(9#5, 0x08810000#32), (8#5, 0xAABBCCDD#32)] [(1#5, 0x00000007#32)] [] []) (fun t => [t.loadWord 0x08810004#32]) =
    some [0x00000007#32] := by decide +kernel

/-- R330: the offset is signed. -/
theorem test_sw : after 0xAD28FFFC#32 (setUp [(9#5, 0x08810000#32), (8#5, 0xAABBCCDD#32)] [] [] []) (fun t => [t.loadWord 0x0880FFFC#32]) =
    some [0xAABBCCDD#32] := by decide +kernel

/-- R341. -/
theorem test_sv_q : after 0xF9200000#32 (setUp [(9#5, 0x08810000#32), (8#5, 0xAABBCCDD#32)] [] [(0#7, 0x00000001#32), (32#7, 0x00000002#32), (64#7, 0x00000003#32), (96#7, 0x00000004#32)] []) (fun t => [t.loadWord 0x08810000#32, t.loadWord 0x08810004#32, t.loadWord 0x08810008#32, t.loadWord 0x0881000C#32]) =
    some [0x00000001#32, 0x00000002#32, 0x00000003#32, 0x00000004#32] := by decide +kernel

/-! ### COP1 (section 6) -/

/-- V-FP-01. -/
theorem test_fp_01 : after 0x460008A4#32 (setUp [] [(1#5, 0x40200000#32)] [] []) (fun t => [t.f 2#5]) =
    some [0x00000002#32] := by decide +kernel

/-- V-FP-03. -/
theorem test_fp_03 : after 0x460008A4#32 (setUp [] [(1#5, 0x7FC00000#32)] [] []) (fun t => [t.f 2#5]) =
    some [0x7FFFFFFF#32] := by decide +kernel

/-- V-FP-04. -/
theorem test_fp_04 : after 0x4600088D#32 (setUp [] [(1#5, 0xFFC00000#32)] [] []) (fun t => [t.f 2#5]) =
    some [0x80000000#32] := by decide +kernel

/-- V-FP-06. -/
theorem test_fp_06 : after 0x4600088D#32 (setUp [] [(1#5, 0x4F32D05E#32)] [] []) (fun t => [t.f 2#5]) =
    some [0x7FFFFFFF#32] := by decide +kernel

/-- V-FP-07. -/
theorem test_fp_07 : after 0x4600088C#32 (setUp [] [(1#5, 0x40600000#32)] [] []) (fun t => [t.f 2#5]) =
    some [0x00000004#32] := by decide +kernel

/-- V-FP-08. -/
theorem test_fp_08_ceil : after 0x4600088E#32 (setUp [] [(1#5, 0xBFC00000#32)] [] []) (fun t => [t.f 2#5]) =
    some [0xFFFFFFFF#32] := by decide +kernel

/-- V-FP-08. -/
theorem test_fp_08_floor : after 0x4600088F#32 (setUp [] [(1#5, 0xBFC00000#32)] [] []) (fun t => [t.f 2#5]) =
    some [0xFFFFFFFE#32] := by decide +kernel

/-- V-FP-09. -/
theorem test_fp_09 : after 0x468008A0#32 (setUp [] [(1#5, 0x01000001#32)] [] []) (fun t => [t.f 2#5]) =
    some [0x4B800000#32] := by decide +kernel

/-- V-FP-14. -/
theorem test_fp_14_neg : after 0x46000887#32 (setUp [] [(1#5, 0xFFC00001#32)] [] []) (fun t => [t.f 2#5]) =
    some [0x7FC00001#32] := by decide +kernel

/-- V-FP-14. -/
theorem test_fp_14_abs : after 0x46000885#32 (setUp [] [(1#5, 0xFFC00001#32)] [] []) (fun t => [t.f 2#5]) =
    some [0x7FC00001#32] := by decide +kernel

/-- V-FP-16. -/
theorem test_fp_16 : after 0x460208C3#32 (setUp [] [(1#5, 0x3F800000#32), (2#5, 0x80000000#32)] [] []) (fun t => [t.f 3#5]) =
    some [0xFF800000#32] := by decide +kernel

/-- V-FP-02. -/
theorem test_fp_02 : after 0x460008A4#32 (setUp [] [(1#5, 0xC0200000#32)] [] [] |>.setFcr31 3#32) (fun t => [t.f 2#5]) =
    some [0xFFFFFFFD#32] := by decide +kernel

/-- V-FP-15. -/
theorem test_fp_15 : after 0x460208C0#32 (setUp [] [(1#5, 0x3F800000#32), (2#5, 0x33800000#32)] [] [] |>.setFcr31 2#32) (fun t => [t.f 3#5]) =
    some [0x3F800000#32] := by decide +kernel

/-- R367: 1 - 2. -/
theorem test_sub_s : after 0x460208C1#32 (setUp [] [(1#5, 0x3F800000#32), (2#5, 0x40000000#32)] [] []) (fun t => [t.f 3#5]) =
    some [0xBF800000#32] := by decide +kernel

/-- R368: 3 * -0.5. -/
theorem test_mul_s : after 0x460208C2#32 (setUp [] [(1#5, 0x40400000#32), (2#5, 0xBF000000#32)] [] []) (fun t => [t.f 3#5]) =
    some [0xBFC00000#32] := by decide +kernel

/-- R370: the root of 2, whose pattern is VCST[2] of R523. -/
theorem test_sqrt_s : after 0x460008C4#32 (setUp [] [(1#5, 0x40000000#32)] [] []) (fun t => [t.f 3#5]) =
    some [0x3FB504F3#32] := by decide +kernel

/-- R372. -/
theorem test_mov_s : after 0x460008C6#32 (setUp [] [(1#5, 0x7F800001#32)] [] []) (fun t => [t.f 3#5]) =
    some [0x7F800001#32] := by decide +kernel

/-- V-FP-10. -/
theorem test_fp_10 : after 0x46020832#32 (setUp [] [(1#5, 0x00000000#32), (2#5, 0x80000000#32)] [] [] |>.setFpcond false) (fun t => [bit (t.cpu.fpcond)]) =
    some [0x00000001#32] := by decide +kernel

/-- V-FP-11. -/
theorem test_fp_11 : after 0x46020834#32 (setUp [] [(1#5, 0x3F800000#32), (2#5, 0x7FC00000#32)] [] [] |>.setFpcond true) (fun t => [bit (t.cpu.fpcond)]) =
    some [0x00000000#32] := by decide +kernel

/-- V-FP-12. -/
theorem test_fp_12 : after 0x46020835#32 (setUp [] [(1#5, 0x3F800000#32), (2#5, 0x7FC00000#32)] [] [] |>.setFpcond false) (fun t => [bit (t.cpu.fpcond)]) =
    some [0x00000001#32] := by decide +kernel

/-- V-FP-13. -/
theorem test_fp_13 : after 0x4602083F#32 (setUp [] [(1#5, 0x40000000#32), (2#5, 0x3F800000#32)] [] [] |>.setFpcond true) (fun t => [bit (t.cpu.fpcond)]) =
    some [0x00000000#32] := by decide +kernel

/-- R361. -/
theorem test_c_f_s : after 0x46020830#32 (setUp [] [(1#5, 0x3F800000#32), (2#5, 0x3F800000#32)] [] [] |>.setFpcond true) (fun t => [bit (t.cpu.fpcond)]) =
    some [0x00000000#32] := by decide +kernel

/-- R361. -/
theorem test_c_un_s : after 0x46020831#32 (setUp [] [(1#5, 0x7FC00000#32), (2#5, 0x3F800000#32)] [] [] |>.setFpcond false) (fun t => [bit (t.cpu.fpcond)]) =
    some [0x00000001#32] := by decide +kernel

/-- R361. -/
theorem test_c_ueq_s : after 0x46020833#32 (setUp [] [(1#5, 0x7FC00000#32), (2#5, 0x3F800000#32)] [] [] |>.setFpcond false) (fun t => [bit (t.cpu.fpcond)]) =
    some [0x00000001#32] := by decide +kernel

/-- R361. -/
theorem test_c_ole_s : after 0x46020836#32 (setUp [] [(1#5, 0x3F800000#32), (2#5, 0x3F800000#32)] [] [] |>.setFpcond false) (fun t => [bit (t.cpu.fpcond)]) =
    some [0x00000001#32] := by decide +kernel

/-- R361. -/
theorem test_c_ule_s : after 0x46020837#32 (setUp [] [(1#5, 0x40000000#32), (2#5, 0x3F800000#32)] [] [] |>.setFpcond true) (fun t => [bit (t.cpu.fpcond)]) =
    some [0x00000000#32] := by decide +kernel

/-- R361. -/
theorem test_c_sf_s : after 0x46020838#32 (setUp [] [(1#5, 0x7FC00000#32), (2#5, 0x7FC00000#32)] [] [] |>.setFpcond true) (fun t => [bit (t.cpu.fpcond)]) =
    some [0x00000000#32] := by decide +kernel

/-- R361. -/
theorem test_c_ngle_s : after 0x46020839#32 (setUp [] [(1#5, 0x3F800000#32), (2#5, 0x40000000#32)] [] [] |>.setFpcond true) (fun t => [bit (t.cpu.fpcond)]) =
    some [0x00000000#32] := by decide +kernel

/-- R361. -/
theorem test_c_seq_s : after 0x4602083A#32 (setUp [] [(1#5, 0x3F800000#32), (2#5, 0x3F800000#32)] [] [] |>.setFpcond false) (fun t => [bit (t.cpu.fpcond)]) =
    some [0x00000001#32] := by decide +kernel

/-- R361. -/
theorem test_c_ngl_s : after 0x4602083B#32 (setUp [] [(1#5, 0x3F800000#32), (2#5, 0x40000000#32)] [] [] |>.setFpcond true) (fun t => [bit (t.cpu.fpcond)]) =
    some [0x00000000#32] := by decide +kernel

/-- R361. -/
theorem test_c_lt_s : after 0x4602083C#32 (setUp [] [(1#5, 0xFF800000#32), (2#5, 0x3F800000#32)] [] [] |>.setFpcond false) (fun t => [bit (t.cpu.fpcond)]) =
    some [0x00000001#32] := by decide +kernel

/-- R361. -/
theorem test_c_nge_s : after 0x4602083D#32 (setUp [] [(1#5, 0x3F800000#32), (2#5, 0x7FC00000#32)] [] [] |>.setFpcond false) (fun t => [bit (t.cpu.fpcond)]) =
    some [0x00000001#32] := by decide +kernel

/-- R361. -/
theorem test_c_le_s : after 0x4602083E#32 (setUp [] [(1#5, 0x3F800000#32), (2#5, 0x7FC00000#32)] [] [] |>.setFpcond true) (fun t => [bit (t.cpu.fpcond)]) =
    some [0x00000000#32] := by decide +kernel

/-- V-FP-17. -/
theorem test_fp_17 : after 0x44480000#32 (setUp [] [] [] []) (fun t => [t.x 8#5]) =
    some [0x00003351#32] := by decide +kernel

/-- V-FP-18. -/
theorem test_fp_18 : after 0x44C8F800#32 (setUp [(8#5, 0xFFFFFFFF#32)] [] [] []) (fun t => [t.cpu.fcr31, bit (t.cpu.fpcond)]) =
    some [0x0181FFFF#32, 0x00000001#32] := by decide +kernel

/-- V-FP-19. -/
theorem test_fp_19 : after 0x45010002#32 (setUp [] [] [] [] |>.setFpcond true) (fun t => [t.cpu.branchPC, bit (t.pending)]) =
    some [0x0880400C#32, 0x00000001#32] := by decide +kernel

/-- V-FP-20. -/
theorem test_fp_20 : after 0x45020002#32 (setUp [] [] [] [] |>.setFpcond true) (fun t => [t.cpu.pc, bit (t.pending)]) =
    some [0x08804008#32, 0x00000000#32] := by decide +kernel

/-- V-FP-21. -/
theorem test_fp_21_mtc1 : after 0x44880800#32 (setUp [(8#5, 0x7F800001#32)] [] [] []) (fun t => [t.f 1#5]) =
    some [0x7F800001#32] := by decide +kernel

/-- V-FP-21. -/
theorem test_fp_21_mfc1 : after 0x44090800#32 (setUp [] [(1#5, 0x7F800001#32)] [] []) (fun t => [t.x 9#5]) =
    some [0x7F800001#32] := by decide +kernel

/-- R397. -/
theorem test_bc1f : after 0x45000002#32 (setUp [] [] [] []) (fun t => [t.cpu.branchPC]) =
    some [0x0880400C#32] := by decide +kernel

/-- R400. -/
theorem test_bc1tl : after 0x45030002#32 (setUp [] [] [] []) (fun t => [t.cpu.pc]) =
    some [0x08804008#32] := by decide +kernel

/-! ### System instructions (section 7) -/

/-- V-SYS-01, with getThreadId as the handler. -/
theorem test_sys_01 : (nextOf (exec (.syscall 0#20) (serving .getThreadId (setUp [(3#5, 0x00000009#32), (16#5, 0x00000005#32)] [] [] [])))).map (fun t => [t.x 2#5, t.x 3#5, t.x 16#5, t.x 8#5, t.cpu.lo, t.cpu.pc]) =
    some [1#32, 9#32, 5#32, 0xDEADBEEF#32, 0xDEADBEEF#32, 0x08804004#32] := by decide +kernel

/-- V-SYS-02. -/
theorem test_sys_02 : after 0x0000000C#32 (setUp [] [] [] []) (fun t => [failCode t, t.cpu.pc]) =
    some [0x00000007#32, 0x08804000#32] := by decide +kernel

/-- V-SYS-03. -/
theorem test_sys_03 : after 0x0000000D#32 (setUp [] [] [] []) (fun t => [failCode t, t.cpu.pc]) =
    some [0x00000008#32, 0x08804000#32] := by decide +kernel

/-- V-SYS-04. -/
theorem test_sys_04_sync : after 0x0000000F#32 (setUp [] [] [] []) (fun t => [failCode t, t.cpu.pc]) =
    some [0x00000000#32, 0x08804004#32] := by decide +kernel

/-- V-SYS-04. -/
theorem test_sys_04_cache : after 0xBD140000#32 (setUp [] [] [] []) (fun t => [failCode t, t.cpu.pc]) =
    some [0x00000000#32, 0x08804004#32] := by decide +kernel

/-! ### VFPU (section 8) -/

/-- V-PFX-01. -/
theorem test_pfx_01 : (List.range 4).map (applyST 0x000000E4#32 4 (fun i => [0x3F800000#32, 0xC0000000#32, 0x00000000#32, 0x7FC00000#32].getD i 0#32) fun _ => 0#32) =
    [0x3F800000#32, 0xC0000000#32, 0x00000000#32, 0x7FC00000#32] := by decide +kernel

/-- V-PFX-02. -/
theorem test_pfx_02 : (List.range 4).map (applyST 0x000F00E4#32 4 (fun i => [0x3F800000#32, 0xC0000000#32, 0x00000000#32, 0x7FC00000#32].getD i 0#32) fun _ => 0#32) =
    [0xBF800000#32, 0x40000000#32, 0x80000000#32, 0xFFC00000#32] := by decide +kernel

/-- V-PFX-03. -/
theorem test_pfx_03 : (List.range 4).map (applyST 0x00000FE4#32 4 (fun i => [0xBF800000#32, 0x80000000#32, 0xFFC00000#32, 0x40000000#32].getD i 0#32) fun _ => 0#32) =
    [0x3F800000#32, 0x00000000#32, 0x7FC00000#32, 0x40000000#32] := by decide +kernel

/-- V-PFX-04. -/
theorem test_pfx_04 : (List.range 4).map (applyST 0x000CF635#32 4 (fun i => [0x3F800000#32, 0xC0000000#32, 0x00000000#32, 0x7FC00000#32].getD i 0#32) fun _ => 0#32) =
    [0x3F800000#32, 0x3EAAAAAB#32, 0xBE2AAAAB#32, 0x80000000#32] := by decide +kernel

/-- V-PFX-05. -/
theorem test_pfx_05 : (List.range 4).map (applyST 0x0000001B#32 4 (fun i => [0x00000001#32, 0x00000002#32, 0x00000003#32, 0x00000004#32].getD i 0#32) fun _ => 0#32) =
    [0x00000004#32, 0x00000003#32, 0x00000002#32, 0x00000001#32] := by decide +kernel

/-- V-PFX-06. -/
theorem test_pfx_06 : (List.range 2).map (applyST 0x000000E7#32 2 (fun i => [0x3F800000#32, 0x40000000#32].getD i 0#32) fun _ => 0#32) =
    [0x00000000#32, 0x40000000#32] := by decide +kernel

/-- V-PFX-07. -/
theorem test_pfx_07 : (List.range 2).map (applyST 0x000100E7#32 2 (fun i => [0x3F800000#32, 0x40000000#32].getD i 0#32) fun _ => 0#32) =
    [0x80000000#32, 0x40000000#32] := by decide +kernel

/-- V-PFX-08. -/
theorem test_pfx_08 : after 0xDC0000B1#32 (setUp [] [] [] []) (fun t => [t.vc CReg.spfx]) =
    some [0x000000B1#32] := by decide +kernel

/-- V-PFX-09. -/
theorem test_pfx_09 : after 0xDE00081D#32 (setUp [] [] [] []) (fun t => [t.vc CReg.dpfx]) =
    some [0x0000081D#32] := by decide +kernel

/-- R443. -/
theorem test_vpfxt : after 0xDD00001B#32 (setUp [] [] [] []) (fun t => [t.vc CReg.tpfx]) =
    some [0x0000001B#32] := by decide +kernel

/-- V-PFX-10. -/
theorem test_pfx_10 : [State.reset.saturate 1#32 0 0x80000000#32, State.reset.saturate 1#32 0 0x7FC00000#32, State.reset.saturate 1#32 0 0x40000000#32] =
    [0x00000000#32, 0x7FC00000#32, 0x3F800000#32] := by decide +kernel

/-- V-PFX-11. -/
theorem test_pfx_11 : [State.reset.saturate 3#32 0 0x80000000#32, State.reset.saturate 3#32 0 0xC0A00000#32, State.reset.saturate 3#32 0 0x3F000000#32] =
    [0x80000000#32, 0xBF800000#32, 0x3F000000#32] := by decide +kernel

/-- V-PFX-15. -/
theorem test_pfx_15 : after 0x48E80000#32 (setUp [(8#5, 0x00000005#32)] [] [] [] |>.setVc CReg.spfx 0x1B#32) (fun t => [t.vr 0#7, t.vc CReg.spfx]) =
    some [0x00000005#32, 0x0000001B#32] := by decide +kernel

/-- V-REG-01, V-REG-02. -/
theorem test_reg_01_02 : (List.range 4).map (vectorSlot .quad 0x00#7) = [0#7, 32#7, 64#7, 96#7] ∧
    (List.range 4).map (vectorSlot .quad 0x20#7) = [0#7, 1#7, 2#7, 3#7] := by decide +kernel

/-- V-REG-03, V-REG-04. -/
theorem test_reg_03_04 : (List.range 2).map (vectorSlot .pair 0x41#7) = [65#7, 97#7] ∧
    (List.range 3).map (vectorSlot .triple 0x47#7) = [39#7, 71#7, 103#7] := by decide +kernel

/-- V-REG-05. -/
theorem test_reg_05 : vectorSlot .single 0x6A#7 0 = 106#7 := by decide +kernel

/-- V-VF-01. -/
theorem test_vf_01 : after 0x60018082#32 (setUp [] [] [(0#7, 0x3F800000#32), (32#7, 0x40000000#32), (64#7, 0x40400000#32), (96#7, 0x40800000#32), (1#7, 0x41200000#32), (33#7, 0x41A00000#32), (65#7, 0x41F00000#32), (97#7, 0x42200000#32)] [] |>.setVc CReg.spfx 0xB1#32) (fun t => [t.vr 2#7, t.vr 34#7, t.vr 66#7, t.vr 98#7, t.vc CReg.spfx, t.vc CReg.dpfx]) =
    some [0x41400000#32, 0x41A80000#32, 0x42080000#32, 0x422C0000#32, 0x000000E4#32, 0x00000000#32] := by decide +kernel

/-- V-VF-02, the lane that is no NaN. -/
theorem test_vf_02 : after 0x60800080#32 (setUp [] [] [(0#7, 0x7F800000#32), (32#7, 0x3F800000#32)] []) (fun t => [t.vr 32#7]) =
    some [0x00000000#32] := by decide +kernel

/-- V-VF-03. -/
theorem test_vf_03 : after 0x64402000#32 (setUp [] [] [(32#7, 0x40400000#32), (64#7, 0xBF000000#32)] []) (fun t => [t.vr 0#7, t.vc CReg.spfx, t.vc CReg.dpfx]) =
    some [0xBFC00000#32, 0x000000E4#32, 0x00000000#32] := by decide +kernel

/-- V-VF-04. -/
theorem test_vf_04 : after 0x63C02000#32 (setUp [] [] [(32#7, 0x3F800000#32)] []) (fun t => [t.vr 0#7, t.vc CReg.spfx, t.vc CReg.dpfx]) =
    some [0x7F800000#32, 0x000000E4#32, 0x00000000#32] := by decide +kernel

/-- V-VF-06. -/
theorem test_vf_06 : after 0x65088400#32 (setUp [] [] [(4#7, 0x3F800000#32), (36#7, 0x40000000#32), (68#7, 0x40400000#32), (8#7, 0x40000000#32)] []) (fun t => [t.vr 0#7, t.vr 32#7, t.vr 64#7, t.vc CReg.spfx, t.vc CReg.dpfx]) =
    some [0x40000000#32, 0x40800000#32, 0x40C00000#32, 0x000000E4#32, 0x00000000#32] := by decide +kernel

/-- V-VF-07. -/
theorem test_vf_07_min : after 0x6D402000#32 (setUp [] [] [(32#7, 0x3F800000#32), (64#7, 0x7FC00000#32)] []) (fun t => [t.vr 0#7, t.vc CReg.spfx, t.vc CReg.dpfx]) =
    some [0x3F800000#32, 0x000000E4#32, 0x00000000#32] := by decide +kernel

/-- V-VF-07. -/
theorem test_vf_07_max : after 0x6DC02000#32 (setUp [] [] [(32#7, 0x3F800000#32), (64#7, 0x7FC00000#32)] []) (fun t => [t.vr 0#7, t.vc CReg.spfx, t.vc CReg.dpfx]) =
    some [0x7FC00000#32, 0x000000E4#32, 0x00000000#32] := by decide +kernel

/-- V-VF-09. -/
theorem test_vf_09 : after 0x6D402000#32 (setUp [] [] [(32#7, 0xBF800000#32), (64#7, 0xFF800000#32)] []) (fun t => [t.vr 0#7, t.vc CReg.spfx, t.vc CReg.dpfx]) =
    some [0xFF800000#32, 0x000000E4#32, 0x00000000#32] := by decide +kernel

/-- V-VF-11, its ordered lane, and R482 with the order reversed. -/
theorem test_vscmp_p : after 0x6E820180#32 (setUp [] [] [(1#7, 0x3F800000#32), (33#7, 0x40000000#32), (2#7, 0x40000000#32), (34#7, 0x3F800000#32)] []) (fun t => [t.vr 0#7, t.vr 32#7, t.vc CReg.spfx, t.vc CReg.dpfx]) =
    some [0xBF800000#32, 0x3F800000#32, 0x000000E4#32, 0x00000000#32] := by decide +kernel

/-- V-VF-12. -/
theorem test_vf_12_vsge : after 0x6F402000#32 (setUp [] [] [(32#7, 0x7FC00000#32), (64#7, 0x3F800000#32)] []) (fun t => [t.vr 0#7, t.vc CReg.spfx, t.vc CReg.dpfx]) =
    some [0x00000000#32, 0x000000E4#32, 0x00000000#32] := by decide +kernel

/-- V-VF-12. -/
theorem test_vf_12_vslt : after 0x6FC02000#32 (setUp [] [] [(32#7, 0x7FC00000#32), (64#7, 0x3F800000#32)] []) (fun t => [t.vr 0#7, t.vc CReg.spfx, t.vc CReg.dpfx]) =
    some [0x00000000#32, 0x000000E4#32, 0x00000000#32] := by decide +kernel

/-- V-CC-01. -/
theorem test_cc_01 : after 0x6C040081#32 (setUp [] [] [(0#7, 0x3F800000#32), (32#7, 0x40000000#32), (4#7, 0x3F800000#32), (36#7, 0x40400000#32)] [] |>.setVc CReg.cc 0x0000003F#32) (fun t => [t.vc CReg.cc]) =
    some [0x0000001D#32] := by decide +kernel

/-- V-CC-02. -/
theorem test_cc_02 : after 0x6C008088#32 (setUp [] [] [(0#7, 0x00000000#32), (32#7, 0x80000000#32), (64#7, 0x3F800000#32), (96#7, 0x7FC00000#32)] [] |>.setVc CReg.cc 0x00000000#32) (fun t => [t.vc CReg.cc]) =
    some [0x00000013#32] := by decide +kernel

/-- V-CC-06. -/
theorem test_cc_06 : after 0x49080001#32 (setUp [] [] [] [] |>.setVc CReg.cc 0x1D#32) (fun t => [t.cpu.branchPC, bit t.pending]) =
    some [0x08804008#32, 0x00000001#32] := by decide +kernel

/-- V-CC-07. -/
theorem test_cc_07 : after 0x49070001#32 (setUp [] [] [] [] |>.setVc CReg.cc 0x1D#32) (fun t => [t.cpu.pc, bit t.pending]) =
    some [0x08804008#32, 0x00000000#32] := by decide +kernel

/-- R448. -/
theorem test_bvt : after 0x49010002#32 (setUp [] [] [] [] |>.setVc CReg.cc 0x1D#32) (fun t => [t.cpu.branchPC]) =
    some [0x0880400C#32] := by decide +kernel

/-- R449. -/
theorem test_bvfl : after 0x49060002#32 (setUp [] [] [] [] |>.setVc CReg.cc 0x1D#32) (fun t => [t.cpu.branchPC]) =
    some [0x0880400C#32] := by decide +kernel

/-- V-CC-08. -/
theorem test_cc_08_mtvc : after 0x48E80083#32 (setUp [(8#5, 0xFFFFFFFF#32)] [] [] []) (fun t => [t.vc CReg.cc]) =
    some [0x0000003F#32] := by decide +kernel

/-- V-CC-08: CC is 0x3F at reset. -/
theorem test_cc_08_mfvc : after 0x48690083#32 (setUp [] [] [] []) (fun t => [t.x 9#5]) =
    some [0x0000003F#32] := by decide +kernel

/-- V-CC-09. -/
theorem test_cc_09 : after 0x48E80087#32 (setUp [] [] [] []) (fun t => [t.vc (7 : CReg)]) =
    some [0x7772CEAB#32] := by decide +kernel

/-- V-CC-10. -/
theorem test_cc_10 : after 0xD2A68084#32 (setUp [] [] [(0#7, 0x00000001#32), (32#7, 0x00000002#32), (64#7, 0x00000003#32), (96#7, 0x00000004#32), (4#7, 0x00000005#32), (36#7, 0x00000006#32), (68#7, 0x00000007#32), (100#7, 0x00000008#32)] [] |>.setVc CReg.cc 5#32) (fun t => [t.vr 4#7, t.vr 36#7, t.vr 68#7, t.vr 100#7, t.vc CReg.spfx, t.vc CReg.dpfx]) =
    some [0x00000001#32, 0x00000006#32, 0x00000003#32, 0x00000008#32, 0x000000E4#32, 0x00000000#32] := by decide +kernel

/-- V-CC-11. -/
theorem test_cc_11 : after 0xD2AC0004#32 (setUp [] [] [(0#7, 0x00000001#32), (4#7, 0x00000009#32)] [] |>.setVc CReg.cc 0x10#32) (fun t => [t.vr 4#7, t.vc CReg.spfx, t.vc CReg.dpfx]) =
    some [0x00000009#32, 0x000000E4#32, 0x00000000#32] := by decide +kernel

/-- V-CC-12. -/
theorem test_cc_12 : refusedAs 0xD2A70004#32 (setUp [] [] [] []) .vfpuBadField = true := by decide +kernel

/-- V-CV-01. -/
theorem test_cv_01 : after 0xD2812000#32 (setUp [] [] [(32#7, 0x00000003#32)] []) (fun t => [t.vr 0#7, t.vc CReg.spfx, t.vc CReg.dpfx]) =
    some [0x3FC00000#32, 0x000000E4#32, 0x00000000#32] := by decide +kernel

/-- V-CV-02. -/
theorem test_cv_02 : after 0xD2802000#32 (setUp [] [] [(32#7, 0x01000001#32)] []) (fun t => [t.vr 0#7, t.vc CReg.spfx, t.vc CReg.dpfx]) =
    some [0x4B800000#32, 0x000000E4#32, 0x00000000#32] := by decide +kernel

/-- V-CV-03. -/
theorem test_cv_03 : after 0xD2202000#32 (setUp [] [] [(32#7, 0xC0200000#32)] []) (fun t => [t.vr 0#7, t.vc CReg.spfx, t.vc CReg.dpfx]) =
    some [0xFFFFFFFE#32, 0x000000E4#32, 0x00000000#32] := by decide +kernel

/-- V-CV-04. -/
theorem test_cv_04_in : after 0xD2002000#32 (setUp [] [] [(32#7, 0xC0200000#32)] []) (fun t => [t.vr 0#7, t.vc CReg.spfx, t.vc CReg.dpfx]) =
    some [0xFFFFFFFE#32, 0x000000E4#32, 0x00000000#32] := by decide +kernel

/-- V-CV-04. -/
theorem test_cv_04_iu : after 0xD2402000#32 (setUp [] [] [(32#7, 0xC0200000#32)] []) (fun t => [t.vr 0#7, t.vc CReg.spfx, t.vc CReg.dpfx]) =
    some [0xFFFFFFFE#32, 0x000000E4#32, 0x00000000#32] := by decide +kernel

/-- V-CV-04. -/
theorem test_cv_04_id : after 0xD2602000#32 (setUp [] [] [(32#7, 0xC0200000#32)] []) (fun t => [t.vr 0#7, t.vc CReg.spfx, t.vc CReg.dpfx]) =
    some [0xFFFFFFFD#32, 0x000000E4#32, 0x00000000#32] := by decide +kernel

/-- V-CV-05. -/
theorem test_cv_05 : after 0xD2242000#32 (setUp [] [] [(32#7, 0x3FC00000#32)] []) (fun t => [t.vr 0#7, t.vc CReg.spfx, t.vc CReg.dpfx]) =
    some [0x00000018#32, 0x000000E4#32, 0x00000000#32] := by decide +kernel

/-- V-CV-07. -/
theorem test_cv_07 : after 0xD0690000#32 (setUp [] [] [] []) (fun t => [t.vr 0#7, t.vc CReg.spfx, t.vc CReg.dpfx]) =
    some [0x40490FDB#32, 0x000000E4#32, 0x00000000#32] := by decide +kernel

/-- V-CV-08. -/
theorem test_cv_08 : after 0xD0798080#32 (setUp [] [] [(0#7, 0x00000001#32), (32#7, 0x00000001#32), (64#7, 0x00000001#32), (96#7, 0x00000001#32)] []) (fun t => [t.vr 0#7, t.vr 32#7, t.vr 64#7, t.vr 96#7, t.vc CReg.spfx, t.vc CReg.dpfx]) =
    some [0x00000000#32, 0x00000000#32, 0x00000000#32, 0x00000000#32, 0x000000E4#32, 0x00000000#32] := by decide +kernel

/-- V-CV-09. -/
theorem test_cv_09 : after 0xD0038082#32 (setUp [] [] [(2#7, 0x00000001#32), (34#7, 0x00000001#32), (66#7, 0x00000001#32), (98#7, 0x00000001#32)] []) (fun t => [t.vr 2#7, t.vr 34#7, t.vr 66#7, t.vr 98#7, t.vc CReg.spfx, t.vc CReg.dpfx]) =
    some [0x00000000#32, 0x00000000#32, 0x3F800000#32, 0x00000000#32, 0x000000E4#32, 0x00000000#32] := by decide +kernel

/-- V-CV-10. -/
theorem test_vsat0_p : after 0xD0040180#32 (setUp [] [] [(1#7, 0x80000000#32), (33#7, 0x3FC00000#32)] []) (fun t => [t.vr 0#7, t.vr 32#7, t.vc CReg.spfx, t.vc CReg.dpfx]) =
    some [0x00000000#32, 0x3F800000#32, 0x000000E4#32, 0x00000000#32] := by decide +kernel

/-- V-CV-10. -/
theorem test_vsat1_p : after 0xD0050180#32 (setUp [] [] [(1#7, 0x80000000#32), (33#7, 0x3FC00000#32)] []) (fun t => [t.vr 0#7, t.vr 32#7, t.vc CReg.spfx, t.vc CReg.dpfx]) =
    some [0x80000000#32, 0x3F800000#32, 0x000000E4#32, 0x00000000#32] := by decide +kernel

/-- V-CV-11. -/
theorem test_cv_11_vneg : after 0xD0022000#32 (setUp [] [] [(32#7, 0x7FC00000#32)] []) (fun t => [t.vr 0#7, t.vc CReg.spfx, t.vc CReg.dpfx]) =
    some [0xFFC00000#32, 0x000000E4#32, 0x00000000#32] := by decide +kernel

/-- V-CV-11. -/
theorem test_cv_11_vabs : after 0xD0012000#32 (setUp [] [] [(32#7, 0x7FC00000#32)] []) (fun t => [t.vr 0#7, t.vc CReg.spfx, t.vc CReg.dpfx]) =
    some [0x7FC00000#32, 0x000000E4#32, 0x00000000#32] := by decide +kernel

/-- V-CV-14. -/
theorem test_cv_14 : after 0xD0442000#32 (setUp [] [] [(32#7, 0x3E800000#32)] []) (fun t => [t.vr 0#7, t.vc CReg.spfx, t.vc CReg.dpfx]) =
    some [0x3F400000#32, 0x000000E4#32, 0x00000000#32] := by decide +kernel

/-- V-CV-15. -/
theorem test_cv_15 : after 0xD0452000#32 (setUp [] [] [(32#7, 0x3FC00000#32)] []) (fun t => [t.vr 0#7, t.vr 32#7, t.vc CReg.spfx, t.vc CReg.dpfx]) =
    some [0x00000000#32, 0x3F800000#32, 0x000000E4#32, 0x00000000#32] := by decide +kernel

/-- V-CV-16. -/
theorem test_vsgn_p : after 0xD04A0180#32 (setUp [] [] [(1#7, 0xC0400000#32), (33#7, 0x00000000#32)] []) (fun t => [t.vr 0#7, t.vr 32#7, t.vc CReg.spfx, t.vc CReg.dpfx]) =
    some [0xBF800000#32, 0x00000000#32, 0x000000E4#32, 0x00000000#32] := by decide +kernel

/-- V-MX-01. -/
theorem test_mx_01 : after 0xF3838080#32 (setUp [] [] [(1#7, 0x00000005#32), (33#7, 0x00000005#32), (65#7, 0x00000005#32), (97#7, 0x00000005#32)] []) (fun t => [t.vr 0#7, t.vr 33#7, t.vr 66#7, t.vr 99#7, t.vr 1#7, t.vr 65#7, t.vr 97#7, t.vc CReg.spfx, t.vc CReg.dpfx]) =
    some [0x3F800000#32, 0x3F800000#32, 0x3F800000#32, 0x3F800000#32, 0x00000000#32, 0x00000000#32, 0x00000000#32, 0x000000E4#32, 0x00000000#32] := by decide +kernel

/-- V-MX-03. -/
theorem test_mx_03 : refusedAs 0xF3868080#32 (setUp [] [] [] [] |>.setVc CReg.spfx 0x1B#32) .prefixOnMatrixOp = true := by decide +kernel

/-- V-MX-06, V-MX-07. -/
theorem test_mx_06_07 : (List.range 4).map (rotLane 0b01110#5 77#32 88#32) = [0#32, 0#32, 88#32, 77#32] ∧
    (List.range 4).map (rotLane 0b10101#5 77#32 88#32) = [0x8000004D#32, 88#32, 0x8000004D#32, 0x8000004D#32] := by decide +kernel

/-- V-MX-08. -/
theorem test_mx_08_vnop : after 0xFFFF0000#32 (setUp [] [] [] [] |>.setVc CReg.spfx 0x1B#32) (fun t => [t.vc CReg.spfx, t.cpu.pc]) =
    some [0x0000001B#32, 0x08804004#32] := by decide +kernel

/-- V-MX-08. -/
theorem test_mx_08_vsync : after 0xFFFF0320#32 (setUp [] [] [] [] |>.setVc CReg.spfx 0x1B#32) (fun t => [t.vc CReg.spfx, t.cpu.pc]) =
    some [0x0000001B#32, 0x08804004#32] := by decide +kernel

/-- V-MX-08. -/
theorem test_mx_08_vflush : after 0xFFFF040D#32 (setUp [] [] [] [] |>.setVc CReg.spfx 0x1B#32) (fun t => [t.vc CReg.spfx, t.cpu.pc]) =
    some [0x0000001B#32, 0x08804004#32] := by decide +kernel

/-- V-MX-09. -/
theorem test_mx_09 : refusedAs 0xD0362000#32 (setUp [] [] [] []) .unmodelledVfpuOp = true := by decide +kernel

/-- V-MX-10. -/
theorem test_mx_10 : refusedAs 0x65402000#32 (setUp [] [] [] []) .vfpuBadSize = true := by decide +kernel

/-- R478, R441: lanes (s1*t2, s2*t0, s0*t1). -/
theorem test_vcrs_t : after 0x66828100#32 (setUp [] [] [(1#7, 0x3F800000#32), (33#7, 0x40000000#32), (65#7, 0x40400000#32), (2#7, 0x3F800000#32), (34#7, 0x40000000#32), (66#7, 0x40400000#32)] []) (fun t => [t.vr 0#7, t.vr 32#7, t.vr 64#7, t.vc CReg.spfx, t.vc CReg.dpfx]) =
    some [0x40C00000#32, 0x40400000#32, 0x40000000#32, 0x000000E4#32, 0x00000000#32] := by decide +kernel

/-- R479: 1*4 - 2*3. -/
theorem test_vdet_p : after 0x67020180#32 (setUp [] [] [(1#7, 0x3F800000#32), (33#7, 0x40000000#32), (2#7, 0x40400000#32), (34#7, 0x40800000#32)] []) (fun t => [t.vr 0#7, t.vc CReg.spfx, t.vc CReg.dpfx]) =
    some [0xC0000000#32, 0x000000E4#32, 0x00000000#32] := by decide +kernel

/-- R472: 1.5 * 2^3. -/
theorem test_vsbn_s : after 0x61402000#32 (setUp [] [] [(32#7, 0x3FC00000#32), (64#7, 0x00000003#32)] []) (fun t => [t.vr 0#7, t.vc CReg.spfx, t.vc CReg.dpfx]) =
    some [0x41400000#32, 0x000000E4#32, 0x00000000#32] := by decide +kernel

/-- R485. -/
theorem test_vmov_q : after 0xD0008082#32 (setUp [] [] [(0#7, 0x00000001#32), (32#7, 0x00000002#32), (64#7, 0x00000003#32), (96#7, 0x00000004#32)] []) (fun t => [t.vr 2#7, t.vr 34#7, t.vr 66#7, t.vr 98#7, t.vc CReg.spfx, t.vc CReg.dpfx]) =
    some [0x00000001#32, 0x00000002#32, 0x00000003#32, 0x00000004#32, 0x000000E4#32, 0x00000000#32] := by decide +kernel

/-- R491. -/
theorem test_vzero_p : after 0xD0060080#32 (setUp [] [] [(0#7, 0x00000001#32), (32#7, 0x00000002#32), (64#7, 0x00000003#32), (96#7, 0x00000004#32)] []) (fun t => [t.vr 0#7, t.vr 32#7, t.vr 64#7, t.vr 96#7, t.vc CReg.spfx, t.vc CReg.dpfx]) =
    some [0x00000000#32, 0x00000000#32, 0x00000003#32, 0x00000004#32, 0x000000E4#32, 0x00000000#32] := by decide +kernel

/-- R492. -/
theorem test_vone_s : after 0xD0070000#32 (setUp [] [] [(0#7, 0x00000001#32), (32#7, 0x00000002#32)] []) (fun t => [t.vr 0#7, t.vr 32#7, t.vc CReg.spfx, t.vc CReg.dpfx]) =
    some [0x3F800000#32, 0x00000002#32, 0x000000E4#32, 0x00000000#32] := by decide +kernel

/-- R471. -/
theorem test_vsub_q : after 0x60808082#32 (setUp [] [] [(0#7, 0x3F800000#32), (32#7, 0x40000000#32), (64#7, 0x40400000#32), (96#7, 0x40800000#32)] []) (fun t => [t.vr 2#7, t.vr 34#7, t.vr 66#7, t.vr 98#7, t.vc CReg.spfx, t.vc CReg.dpfx]) =
    some [0x00000000#32, 0x00000000#32, 0x00000000#32, 0x00000000#32, 0x000000E4#32, 0x00000000#32] := by decide +kernel

/-- R512, R458: the low half -2, the high half 1. -/
theorem test_vh2f_s : after 0xD0332000#32 (setUp [] [] [(32#7, 0x3C00C000#32)] []) (fun t => [t.vr 0#7, t.vr 32#7, t.vc CReg.spfx, t.vc CReg.dpfx]) =
    some [0xC0000000#32, 0x3F800000#32, 0x000000E4#32, 0x00000000#32] := by decide +kernel

/-- R511, R458: 65520 overflows to infinity. -/
theorem test_vf2h_p : after 0xD0320180#32 (setUp [] [] [(1#7, 0x3F800000#32), (33#7, 0x477FF000#32)] []) (fun t => [t.vr 0#7, t.vc CReg.spfx, t.vc CReg.dpfx]) =
    some [0x7C003C00#32, 0x000000E4#32, 0x00000000#32] := by decide +kernel

/-- R515. -/
theorem test_vuc2i_s : after 0xD0382000#32 (setUp [] [] [(32#7, 0xFF800100#32)] []) (fun t => [t.vr 0#7, t.vr 32#7, t.vr 64#7, t.vr 96#7, t.vc CReg.spfx, t.vc CReg.dpfx]) =
    some [0x00000000#32, 0x00808080#32, 0x40404040#32, 0x7FFFFFFF#32, 0x000000E4#32, 0x00000000#32] := by decide +kernel

/-- R516. -/
theorem test_vc2i_s : after 0xD0392000#32 (setUp [] [] [(32#7, 0x04030201#32)] []) (fun t => [t.vr 0#7, t.vr 32#7, t.vr 64#7, t.vr 96#7, t.vc CReg.spfx, t.vc CReg.dpfx]) =
    some [0x01000000#32, 0x02000000#32, 0x03000000#32, 0x04000000#32, 0x000000E4#32, 0x00000000#32] := by decide +kernel

/-- R517. -/
theorem test_vus2i_s : after 0xD03A2000#32 (setUp [] [] [(32#7, 0xFFFF8000#32)] []) (fun t => [t.vr 0#7, t.vr 32#7, t.vc CReg.spfx, t.vc CReg.dpfx]) =
    some [0x40000000#32, 0x7FFF8000#32, 0x000000E4#32, 0x00000000#32] := by decide +kernel

/-- R518. -/
theorem test_vs2i_s : after 0xD03B2000#32 (setUp [] [] [(32#7, 0xFFFF8000#32)] []) (fun t => [t.vr 0#7, t.vr 32#7, t.vc CReg.spfx, t.vc CReg.dpfx]) =
    some [0x80000000#32, 0xFFFF0000#32, 0x000000E4#32, 0x00000000#32] := by decide +kernel

/-- R519. -/
theorem test_vi2uc_q : after 0xD03C8180#32 (setUp [] [] [(1#7, 0x7FFFFFFF#32), (33#7, 0xFFFFFFFF#32), (65#7, 0x00800000#32), (97#7, 0x01000000#32)] []) (fun t => [t.vr 0#7, t.vc CReg.spfx, t.vc CReg.dpfx]) =
    some [0x020100FF#32, 0x000000E4#32, 0x00000000#32] := by decide +kernel

/-- R520. -/
theorem test_vi2c_q : after 0xD03D8180#32 (setUp [] [] [(1#7, 0x01000000#32), (33#7, 0x02000000#32), (65#7, 0x83000000#32), (97#7, 0x04000000#32)] []) (fun t => [t.vr 0#7, t.vc CReg.spfx, t.vc CReg.dpfx]) =
    some [0x04830201#32, 0x000000E4#32, 0x00000000#32] := by decide +kernel

/-- R521. -/
theorem test_vi2us_p : after 0xD03E0180#32 (setUp [] [] [(1#7, 0x7FFFFFFF#32), (33#7, 0xFFFFFFFF#32)] []) (fun t => [t.vr 0#7, t.vc CReg.spfx, t.vc CReg.dpfx]) =
    some [0x0000FFFF#32, 0x000000E4#32, 0x00000000#32] := by decide +kernel

/-- R522. -/
theorem test_vi2s_p : after 0xD03F0180#32 (setUp [] [] [(1#7, 0x12345678#32), (33#7, 0x9ABCDEF0#32)] []) (fun t => [t.vr 0#7, t.vc CReg.spfx, t.vc CReg.dpfx]) =
    some [0x9ABC1234#32, 0x000000E4#32, 0x00000000#32] := by decide +kernel

/-- R561. -/
theorem test_vsrt1_q : after 0xD0408082#32 (setUp [] [] [(0#7, 0x40400000#32), (32#7, 0x3F800000#32), (64#7, 0x40000000#32), (96#7, 0x40800000#32)] []) (fun t => [t.vr 2#7, t.vr 34#7, t.vr 66#7, t.vr 98#7, t.vc CReg.spfx, t.vc CReg.dpfx]) =
    some [0x3F800000#32, 0x40400000#32, 0x40000000#32, 0x40800000#32, 0x000000E4#32, 0x00000000#32] := by decide +kernel

/-- R562. -/
theorem test_vsrt2_q : after 0xD0418082#32 (setUp [] [] [(0#7, 0x40400000#32), (32#7, 0x3F800000#32), (64#7, 0x40000000#32), (96#7, 0x40800000#32)] []) (fun t => [t.vr 2#7, t.vr 34#7, t.vr 66#7, t.vr 98#7, t.vc CReg.spfx, t.vc CReg.dpfx]) =
    some [0x40400000#32, 0x3F800000#32, 0x40000000#32, 0x40800000#32, 0x000000E4#32, 0x00000000#32] := by decide +kernel

/-- R569. -/
theorem test_vsrt3_q : after 0xD0488082#32 (setUp [] [] [(0#7, 0x40400000#32), (32#7, 0x3F800000#32), (64#7, 0x40000000#32), (96#7, 0x40800000#32)] []) (fun t => [t.vr 2#7, t.vr 34#7, t.vr 66#7, t.vr 98#7, t.vc CReg.spfx, t.vc CReg.dpfx]) =
    some [0x40400000#32, 0x3F800000#32, 0x40800000#32, 0x40000000#32, 0x000000E4#32, 0x00000000#32] := by decide +kernel

/-- R570. -/
theorem test_vsrt4_q : after 0xD0498082#32 (setUp [] [] [(0#7, 0x40400000#32), (32#7, 0x3F800000#32), (64#7, 0x40000000#32), (96#7, 0x40800000#32)] []) (fun t => [t.vr 2#7, t.vr 34#7, t.vr 66#7, t.vr 98#7, t.vc CReg.spfx, t.vc CReg.dpfx]) =
    some [0x40800000#32, 0x40000000#32, 0x3F800000#32, 0x40400000#32, 0x000000E4#32, 0x00000000#32] := by decide +kernel

/-- R563: (1+2, 1-2, 3+4, 3-4). -/
theorem test_vbfy1_q : after 0xD0428082#32 (setUp [] [] [(0#7, 0x3F800000#32), (32#7, 0x40000000#32), (64#7, 0x40400000#32), (96#7, 0x40800000#32)] []) (fun t => [t.vr 2#7, t.vr 34#7, t.vr 66#7, t.vr 98#7, t.vc CReg.spfx, t.vc CReg.dpfx]) =
    some [0x40400000#32, 0xBF800000#32, 0x40E00000#32, 0xBF800000#32, 0x000000E4#32, 0x00000000#32] := by decide +kernel

/-- R564: (1+3, 2+4, 1-3, 2-4). -/
theorem test_vbfy2_q : after 0xD0438082#32 (setUp [] [] [(0#7, 0x3F800000#32), (32#7, 0x40000000#32), (64#7, 0x40400000#32), (96#7, 0x40800000#32)] []) (fun t => [t.vr 2#7, t.vr 34#7, t.vr 66#7, t.vr 98#7, t.vc CReg.spfx, t.vc CReg.dpfx]) =
    some [0x40800000#32, 0x40C00000#32, 0xC0000000#32, 0xC0000000#32, 0x000000E4#32, 0x00000000#32] := by decide +kernel

/-- R572. -/
theorem test_vt4444_q : after 0xD0598180#32 (setUp [] [] [(1#7, 0x12345678#32), (33#7, 0xF0F0F0F0#32), (65#7, 0x00000000#32), (97#7, 0xFFFFFFFF#32)] []) (fun t => [t.vr 0#7, t.vr 32#7, t.vc CReg.spfx, t.vc CReg.dpfx]) =
    some [0xFFFF1357#32, 0xFFFF0000#32, 0x000000E4#32, 0x00000000#32] := by decide +kernel

/-- R573. -/
theorem test_vt5551_q : after 0xD05A8180#32 (setUp [] [] [(1#7, 0x80F80008#32), (33#7, 0x0000F800#32), (65#7, 0x00000000#32), (97#7, 0xFFFFFFFF#32)] []) (fun t => [t.vr 0#7, t.vr 32#7, t.vc CReg.spfx, t.vc CReg.dpfx]) =
    some [0x03E0FC01#32, 0xFFFF0000#32, 0x000000E4#32, 0x00000000#32] := by decide +kernel

/-- R574. -/
theorem test_vt5650_q : after 0xD05B8180#32 (setUp [] [] [(1#7, 0x00F80008#32), (33#7, 0x0000FC00#32), (65#7, 0x00000000#32), (97#7, 0xFFFFFFFF#32)] []) (fun t => [t.vr 0#7, t.vr 32#7, t.vc CReg.spfx, t.vc CReg.dpfx]) =
    some [0x07E0F801#32, 0xFFFF0000#32, 0x000000E4#32, 0x00000000#32] := by decide +kernel

/-- R575: -2. -/
theorem test_viim_s : after 0xDF00FFFE#32 (setUp [] [] [] []) (fun t => [t.vr 0#7, t.vc CReg.spfx, t.vc CReg.dpfx]) =
    some [0xC0000000#32, 0x000000E4#32, 0x00000000#32] := by decide +kernel

/-- R576: 1 + 2^-10. -/
theorem test_vfim_s : after 0xDF803C01#32 (setUp [] [] [] []) (fun t => [t.vr 0#7, t.vc CReg.spfx, t.vc CReg.dpfx]) =
    some [0x3F802000#32, 0x000000E4#32, 0x00000000#32] := by decide +kernel

/-- R587. -/
theorem test_vmmov_p : after 0xF3800082#32 (setUp [] [] [(0#7, 0x00000001#32), (32#7, 0x00000002#32), (1#7, 0x00000003#32), (33#7, 0x00000004#32)] []) (fun t => [t.vr 2#7, t.vr 34#7, t.vr 3#7, t.vr 35#7, t.vc CReg.spfx, t.vc CReg.dpfx]) =
    some [0x00000001#32, 0x00000002#32, 0x00000003#32, 0x00000004#32, 0x000000E4#32, 0x00000000#32] := by decide +kernel

/-- R589. -/
theorem test_vmzero_p : after 0xF3860080#32 (setUp [] [] [(0#7, 0x00000001#32), (32#7, 0x00000002#32), (1#7, 0x00000003#32), (33#7, 0x00000004#32), (64#7, 0x00000005#32)] []) (fun t => [t.vr 0#7, t.vr 32#7, t.vr 1#7, t.vr 33#7, t.vr 64#7, t.vc CReg.spfx, t.vc CReg.dpfx]) =
    some [0x00000000#32, 0x00000000#32, 0x00000000#32, 0x00000000#32, 0x00000005#32, 0x000000E4#32, 0x00000000#32] := by decide +kernel

/-- R590. -/
theorem test_vmone_p : after 0xF3870080#32 (setUp [] [] [(64#7, 0x00000005#32)] []) (fun t => [t.vr 0#7, t.vr 33#7, t.vr 64#7, t.vc CReg.spfx, t.vc CReg.dpfx]) =
    some [0x3F800000#32, 0x3F800000#32, 0x00000005#32, 0x000000E4#32, 0x00000000#32] := by decide +kernel

/-- R584. -/
theorem test_vmscl_p : after 0xF2040280#32 (setUp [] [] [(2#7, 0x3F800000#32), (34#7, 0x40000000#32), (3#7, 0x40400000#32), (35#7, 0x40800000#32), (4#7, 0x40000000#32)] []) (fun t => [t.vr 0#7, t.vr 32#7, t.vr 1#7, t.vr 33#7, t.vc CReg.spfx, t.vc CReg.dpfx]) =
    some [0x40000000#32, 0x40800000#32, 0x40C00000#32, 0x41000000#32, 0x000000E4#32, 0x00000000#32] := by decide +kernel

/-- R585: x cross y is z. -/
theorem test_vcrsp_t : after 0xF2828100#32 (setUp [] [] [(1#7, 0x3F800000#32), (33#7, 0x00000000#32), (65#7, 0x00000000#32), (2#7, 0x00000000#32), (34#7, 0x3F800000#32), (66#7, 0x00000000#32)] []) (fun t => [t.vr 0#7, t.vr 32#7, t.vr 64#7, t.vc CReg.spfx, t.vc CReg.dpfx]) =
    some [0x00000000#32, 0x00000000#32, 0x3F800000#32, 0x000000E4#32, 0x00000000#32] := by decide +kernel

/-- R586: i * j is k. -/
theorem test_vqmul_q : after 0xF2828180#32 (setUp [] [] [(1#7, 0x3F800000#32), (33#7, 0x00000000#32), (65#7, 0x00000000#32), (97#7, 0x00000000#32), (2#7, 0x00000000#32), (34#7, 0x3F800000#32), (66#7, 0x00000000#32), (98#7, 0x00000000#32)] []) (fun t => [t.vr 0#7, t.vr 32#7, t.vr 64#7, t.vr 96#7, t.vc CReg.spfx, t.vc CReg.dpfx]) =
    some [0x00000000#32, 0x00000000#32, 0x3F800000#32, 0x00000000#32, 0x000000E4#32, 0x00000000#32] := by decide +kernel

/-- R453. -/
theorem test_vmfvc : after 0xD0500300#32 (setUp [] [] [] []) (fun t => [t.vr 0#7]) =
    some [0x0000003F#32] := by decide +kernel

/-- R445. -/
theorem test_mfv : after 0x48680021#32 (setUp [] [] [(33#7, 0x00000007#32)] []) (fun t => [t.x 8#5]) =
    some [0x00000007#32] := by decide +kernel

/-! ### The machine as a whole -/

/-- V-ALU-04, as the first instruction after reset (log 4). -/
theorem test_first_step : (nextOf (step (State.reset.withFetchWord 32 0x24080005))).map (fun t => [t.x 8#5, t.cpu.pc]) = some [5#32, 0x08804004#32] := by decide +kernel

/-- R280: the delay slot runs, then control is at the target. -/
theorem test_delay_slot : (nextOf (step ((State.reset.withFetchWord 32 0x24080005).latchJump 0x08805000#32 |>.setPc 0x08804000#32))).map (fun t => [t.x 8#5, t.cpu.pc, bit t.pending]) =
    some [5#32, 0x08805000#32, 0#32] := by decide +kernel

/-- V-BR-12, the second step. -/
theorem test_fetch_align : (nextOf (step ((State.reset.withFetchWord 32 0x24080005).setPc 0x08804002#32))).map (fun t => [failCode t, failAddr t, t.cpu.pc]) =
    some [4#32, 0x08804002#32, 0x08804002#32] := by decide +kernel

/-! ### Scheduler commands (section 9) -/

/-- V-SCH-06. -/
theorem test_sch_06 : (nextOf (runCommand .waitSema (CommandArgs.mk 0x00000064#32 0x00000002#32 0x00000000#32 0x00000000#32 0x00000000#32 0x00000000#32) kernelState)).map (fun t => [t.x 2#5, semaCount t 100#32]) =
    some [0x00000000#32, 0x00000001#32] := by decide +kernel

/-- V-SCH-09. -/
theorem test_sch_09 : (nextOf (runCommand .signalSema (CommandArgs.mk 0x00000066#32 0x00000002#32 0x00000000#32 0x00000000#32 0x00000000#32 0x00000000#32) kernelState)).map (fun t => [t.x 2#5, semaCount t 102#32]) =
    some [0x8002019A#32, 0x00000004#32] := by decide +kernel

/-- V-SCH-10: OR, clear the pattern. -/
theorem test_sch_10 : (nextOf (runCommand .waitEventFlag (CommandArgs.mk 0x000000C8#32 0x00000003#32 0x00000021#32 0x08C00000#32 0x00000000#32 0x00000000#32) kernelState)).map (fun t => [t.x 2#5, flagBits t 200#32, t.loadWord 0x08C00000#32]) =
    some [0x00000000#32, 0x00000004#32, 0x00000005#32] := by decide +kernel

/-- V-SCH-12. -/
theorem test_sch_12 : (nextOf (runCommand .waitEventFlag (CommandArgs.mk 0x000000C9#32 0x00000004#32 0x00000030#32 0x00000000#32 0x00000000#32 0x00000000#32) kernelState)).map (fun t => [t.x 2#5, flagBits t 201#32]) =
    some [0x8002019B#32, 0x00000004#32] := by decide +kernel

/-- V-SCH-13. -/
theorem test_sch_13 : (nextOf (runCommand .pollEventFlag (CommandArgs.mk 0x000000CA#32 0x00000002#32 0x00000000#32 0x00000000#32 0x00000000#32 0x00000000#32) kernelState)).map (fun t => [t.x 2#5, flagBits t 202#32]) =
    some [0x800201AF#32, 0x00000001#32] := by decide +kernel

/-- R659. -/
theorem test_get_thread_id : (nextOf (runCommand .getThreadId (CommandArgs.mk 0x00000000#32 0x00000000#32 0x00000000#32 0x00000000#32 0x00000000#32 0x00000000#32) kernelState)).map (fun t => [t.x 2#5]) =
    some [0x00000001#32] := by decide +kernel

/-- R668: init above max. -/
theorem test_create_sema : (nextOf (runCommand .createSema (CommandArgs.mk 0x00000000#32 0x00000000#32 0x00000007#32 0x00000005#32 0x00000000#32 0x00000000#32) kernelState)).map (fun t => [t.x 2#5]) =
    some [0x800201BD#32] := by decide +kernel

/-- R667: 0x78 is above PRIO_MAX. -/
theorem test_change_priority : (nextOf (runCommand .changeThreadPriority (CommandArgs.mk 0x00000001#32 0x00000078#32 0x00000000#32 0x00000000#32 0x00000000#32 0x00000000#32) kernelState)).map (fun t => [t.x 2#5]) =
    some [0x80020193#32] := by decide +kernel

/-! ### Helpers for parameters and objects -/

/-- The same state with an entry of `PREFIX_OVERRIDE` for a Pair `vmov`. -/
def overridden (s : State) : State :=
  { s with cfg := { s.cfg with prefixOverrides := [((.vmov, .pair), ⟨0x00020000#32, 0x00020000#32, 0#32, 0#32, 0#32, 0#32⟩)] } }

/-- Reset at time 5 with four alarms, of which the first three have expired. -/
def alarmed : State :=
  let s := State.reset.setPhase .reevaluate
  { s with sched := { s.sched with
    now := 5, alarms := [⟨400#32, 1#32, 0#32, 5⟩, ⟨401#32, 2#32, 0#32, 3⟩, ⟨402#32, 3#32, 0#32, 5⟩, ⟨403#32, 4#32, 0#32, 6⟩] } }

/-- A callback, an enabled and a disabled interrupt record and an alarm entry. -/
def eventful (p : Phase) (on : Bool) (e : List PendingEntry) : State :=
  let s := kernelState.setPhase p
  { s with sched := { s.sched with
    callbacks := [⟨300#32, .power, 0x08900000#32, 3#32, 2, 4#32, 1#32⟩], intrEnabled := on, pendingIntr := e
    intrHandlers := [⟨5#32, 0#32, 0x08900000#32, 9#32, true⟩, ⟨6#32, 0#32, 0x08900000#32, 9#32, false⟩] } }

/-- A thread like the boot thread. -/
def likeBoot (u : Word) (st : ThreadStatus) (p : Nat) (w : Wait) (started : Bool) : PSPThread :=
  { bootThread Params.default 0 with uid := u, status := st, priority := p, wait := w, started := started }

/-- The boot thread running beside others: DORMANT, awaited and not started (2), DORMANT and started (3), READY (4, 5, 6), and WAITING for
the end of 2 (7); objects 101 and 201 have a waiter (8, 9). -/
def threadsState : State :=
  { kernelState with sched := { kernelState.sched with
    threads := kernelState.sched.threads ++ [likeBoot 2#32 .dormant 0x20 .none false, likeBoot 3#32 .dormant 0x20 .none true,
      likeBoot 4#32 .ready 0x30 .none true, likeBoot 5#32 .ready 0x30 .none true, likeBoot 6#32 .ready 0x40 .none true,
      likeBoot 7#32 .waiting 0x20 (.threadEnd 2#32) true, likeBoot 8#32 .waiting 0x20 (.sema 101#32 2) true,
      likeBoot 9#32 .waiting 0x20 (.eventFlag 201#32 8#32 0#32 0#32) true, likeBoot 10#32 .dormant 0x20 .none false]
    readyQueue := [4#32, 5#32, 6#32], waitingList := [7#32, 8#32, 9#32] } }

/-! ### Parameters and calls -/

/-- R671, D75: the timeout word is read at the call, so that its fault comes before a count that is there. -/
theorem test_timeout_read_at_call : (nextOf (runCommand .waitSema (CommandArgs.mk 100#32 2#32 4#32 0#32 0#32 0#32) kernelState)).map
    (fun t => [failCode t, failAddr t, semaCount t 100#32]) = some [5#32, 4#32, 3#32] := by decide +kernel

/-- R439: an entry of the parameter replaces that of the table: here the S operand of a Pair vmov is negated in lane 1. -/
theorem test_prefix_override_parameter : (nextOf (exec (.vmov 2#7 0#7 .pair)
    (overridden (setUp [] [] [(0#7, 0x3F800000#32), (32#7, 0x40000000#32)] [])))).map (fun t => [t.vr 2#7, t.vr 34#7]) =
    some [0x3F800000#32, 0xC0000000#32] := by decide +kernel

/-- R563: a negate and an abs bit of the user's T prefix do not reach the T operand of vbfy1. -/
theorem test_vbfy1_user_signs : (nextOf (exec (.vbfy1 2#7 0#7 .pair)
    ((setUp [] [] [(0#7, 0x3F800000#32), (32#7, 0xC0000000#32)] []).setVc CReg.tpfx 0x000F0FE4#32))).map (fun t => [t.vr 2#7, t.vr 34#7]) =
    some [0xBF800000#32, 0x40400000#32] := by decide +kernel

/-- R627: a call takes the budget asked for; a negative one is 0. -/
theorem test_call_budgets : (nextOf (step { State.reset with sched := { State.reset.sched with calls := [-3, 7] } })).map
    (fun t => (t.sched.callCycles, t.sched.calls)) = some (0, [7]) := by decide +kernel

/-- R627: the call of one cycle runs one instruction and returns 1. -/
theorem test_run_for_one_cycle : (runInterpreterForCycles 20 1 (State.reset.storeWord 0x08804000#32 0x24080005#32)).map
    (fun r => (r.1.sched.threads.map fun th => (th.ctx.gpr[8], th.ctx.pc), r.2)) =
    some ([(5#32, 0x08804004#32)], 1) := by decide +kernel

/-- R722: with the latch set a call returns 0. -/
theorem test_run_latched : (runInterpreterForCycles 20 1 { State.reset with failure := some ⟨.brk, 0#32, 0#32, 0#32⟩ }).map (fun r => r.2) =
    some 0 := by decide +kernel

/-- R401, R622, R694: after it has ended its caller a handler may still signal a semaphore; it may not block or exit. -/
theorem test_handler_after_exit :
    (nextOf (runActions [.command .exitThread (CommandArgs.mk 9#32 0#32 0#32 0#32 0#32 0#32),
      .command .signalSema (CommandArgs.mk 101#32 1#32 0#32 0#32 0#32 0#32)] kernelState)).map
      (fun t => [semaCount t 101#32, (t.currentThread?.map PSPThread.exitStatus).getD 0#32]) = some [1#32, 9#32] ∧
    ∀ c : Command, c ∈ [.sleepThread, .exitThread, .exitDeleteThread] →
      (match runActions [.command .exitThread (CommandArgs.mk 9#32 0#32 0#32 0#32 0#32 0#32),
        .command c (CommandArgs.mk 0#32 0#32 0#32 0#32 0#32 0#32)] kernelState with
        | .refused .callerNotRunning => true | _ => false) = true := by decide +kernel

/-- D96: sources in ascending (number, sub-number) order, unsigned, each once. -/
theorem test_sources_ascending :
    ([(3#32, 1#32), (0x80000000#32, 0#32), (2#32, 7#32), (3#32, 0#32), (2#32, 7#32)] : List (Word × Word)).foldr insertSource [] =
    [(2#32, 7#32), (3#32, 0#32), (3#32, 1#32), (0x80000000#32, 0#32)] := by decide +kernel

/-- R642, D80: expired alarms by deadline, then by creation. -/
theorem test_alarm_order : (alarmed.expireAlarms).sched.pendingIntr = [.alarm 2#32 0#32, .alarm 1#32 0#32, .alarm 3#32 0#32] ∧
    alarmed.expireAlarms.sched.alarms.map Alarm.uid = [403#32] := by decide +kernel

/-! ### Witnesses: for the hypotheses of every statement, states and operands that meet them together -/

/-- What is seen of a next state is seen of some next state. -/
theorem exists_of_seen {α : Type} {r : Result} {f : State → α} {v : α} (h : (nextOf r).map f = some v) : ∃ t, r = .next t ∧ f t = v := by
  cases r with
  | next t => exact ⟨t, rfl, by simpa [nextOf] using h⟩
  | fault _ => exact absurd h (by simp [nextOf])
  | refused _ => exact absurd h (by simp [nextOf])

/-- A refusal is seen by its code. -/
theorem refused_of_seen {r : Result} {e : Refusal}
    (h : (match r with | .refused f => decide (f = e) | _ => false) = true) : r = .refused e := by
  cases r with
  | refused f => exact congrArg _ (of_decide_eq_true h)
  | next _ => exact absurd h (by simp)
  | fault _ => exact absurd h (by simp)

/-- A hypothesis that only names a predicate or a function by what it is holds of it: the predicates of HandlersEnterAndReturn,
WaitReevaluation (`holds`) and SemaphoreAndEventFlagCommands (`legal`, `hit`), the functions of Cop1Arithmetic and
ArithmeticCorrectlyRounded (`fl`), and the lanes and functions of MinMaxCompare, VectorMovesConstants, VectorCompare,
UnpackingConversions, PackingConversions, SortButterfly and CrossQuaternionRotate. -/
theorem witness_named {α : Type} (P : α → Prop) : ∃ Q : α → Prop, ∀ a, Q a ↔ P a := ⟨P, fun _ => Iff.rfl⟩

/-- A state with an instruction of the run loop next. -/
def placed (w : Nat) : State := State.reset.withFetchWord 32 w

/-- A state with a transfer pending. -/
def inSlot : State := State.reset.latchJump 0x08805000#32

/-- A state in which `x[8]` is an address, the load-linked bit is set and memory has some bytes. -/
def at8 (a : Word) : State := (setUp [(8#5, a)] [] [] [(0x08810000#32, 0x44332211#32)]).setLlBit true

/-- The same parameters with one window of 8 bytes, so that a quad transfer fails at its third word. -/
def shortWindow (s : State) : State := { s with cfg := { s.cfg with windows := [⟨.userRam, 0x08810000, 8⟩] } }

theorem witness_StoreThenLoad : State.reset.mem.wf = true ∧ State.reset.cfg.wf = true ∧
    (State.reset.cfg.windows.any fun w => windowContains w (0x09FFFFFC#32 : Word).toNat) = true ∧
    byteKey State.reset.cfg 0x09FFFFFC#32 ≠ none ∧ byteKey State.reset.cfg 0x49FFFFFC#32 = byteKey State.reset.cfg 0x09FFFFFC#32 ∧
    Accessible State.reset 0x09FFFFFF#32 1 1 ∧ Accessible State.reset 0x09FFFFFE#32 2 2 ∧ Accessible State.reset 0x09FFFFFC#32 4 4 := by
  unfold Accessible
  decide +kernel

theorem witness_StoreThenLoad_outside : OutsideBytes State.reset.cfg 0x08810000#32 1 0x08810001#32 ∧
    OutsideBytes State.reset.cfg 0x08810000#32 2 0x08810002#32 ∧ OutsideBytes State.reset.cfg 0x08810000#32 4 0x08810004#32 ∧
    OutsideBytes State.reset.cfg 0x08810000#32 4 0x0880FFFF#32 := by
  unfold OutsideBytes
  decide +kernel

/-- The largest and smallest results that fit. -/
theorem witness_AddSubtractCompare_fits : (trapping (at8 0x7FFFFFFE#32)).cfg.overflowTraps = true ∧
    ((trapping (at8 0x7FFFFFFE#32)).x 8#5).toInt + (1#16 : Half).toInt < 2 ^ 31 ∧
    (let s := trapping (setUp [(8#5, 0x40000000#32), (9#5, 0x3FFFFFFF#32)] [] [] []);
      -(2 ^ 31) ≤ (s.x 8#5).toInt + (s.x 9#5).toInt ∧ (s.x 8#5).toInt + (s.x 9#5).toInt = 2 ^ 31 - 1) ∧
    (let s := trapping (setUp [(8#5, 0x80000001#32), (9#5, 1#32)] [] [] []); (s.x 8#5).toInt - (s.x 9#5).toInt = -(2 ^ 31)) := by
  decide +kernel

/-- The first results that do not fit. -/
theorem witness_AddSubtractCompare_traps : (trapping (at8 0x7FFFFFFF#32)).failure = none ∧
    ¬(((trapping (at8 0x7FFFFFFF#32)).x 8#5).toInt + (1#16 : Half).toInt < 2 ^ 31) ∧
    (let s := trapping (setUp [(8#5, 0x7FFFFFFF#32), (9#5, 1#32)] [] [] []); ¬((s.x 8#5).toInt + (s.x 9#5).toInt < 2 ^ 31)) ∧
    (let s := trapping (setUp [(8#5, 0x80000000#32), (9#5, 1#32)] [] [] []); ¬(-(2 ^ 31) ≤ (s.x 8#5).toInt - (s.x 9#5).toInt)) := by
  decide +kernel

/-- A divisor of 0, the quotient that does not fit, and an ordinary pair. -/
theorem witness_DivideQuotientRemainder : State.reset.x 9#5 = 0#32 ∧
    (let s := setUp [(8#5, 0x80000000#32), (9#5, 0xFFFFFFFF#32)] [] [] []; (s.x 8#5).toInt = -(2 ^ 31) ∧ (s.x 9#5).toInt = -1) ∧
    (let s := setUp [(8#5, 7#32), (9#5, 2#32)] [] [] [];
      s.x 9#5 ≠ 0#32 ∧ ¬((s.x 8#5).toInt = -(2 ^ 31) ∧ (s.x 9#5).toInt = -1)) := by
  decide +kernel

/-- The last position and size in range and the first out of it. -/
theorem witness_BitFields : (0#5 : BitVec 5).toNat + ((31#5 : BitVec 5).toNat + 1) ≤ 32 ∧ 32 < (1#5 : BitVec 5).toNat + ((31#5 : BitVec 5).toNat + 1) ∧
    (4#5 : BitVec 5).toNat ≤ (4#5 : BitVec 5).toNat ∧ (3#5 : BitVec 5).toNat < (4#5 : BitVec 5).toNat := by decide

/-- ConditionalBranches, LinkingBranches, JumpsLatchTarget, CoprocessorBranches. -/
theorem witness_branches : State.reset.pending = false := by decide +kernel

theorem witness_TransferInSlotRefused : inSlot.pending = true ∧ (∀ code, Instr.j 0#26 ≠ .syscall code) ∧
    exec (.j 0#26) inSlot = .refused .ctiInDelaySlot ∧
    ∃ transfers : GReg → GReg → GReg → Half → BitVec 26 → BitVec 3 → List Instr,
      (∀ rs rt rd imm target cc, transfers rs rt rd imm target cc = [
        .beq rs rt imm, .bne rs rt imm, .blez rs rt imm, .bgtz rs rt imm, .beql rs rt imm, .bnel rs rt imm, .blezl rs rt imm,
        .bgtzl rs rt imm, .bltz rs imm, .bgez rs imm, .bltzl rs imm, .bgezl rs imm, .bltzal rs imm, .bgezal rs imm,
        .bltzall rs imm, .bgezall rs imm, .j target, .jal target, .jr rs, .jalr rs rd, .bc1f imm, .bc1t imm, .bc1fl imm,
        .bc1tl imm, .bvf cc imm, .bvt cc imm, .bvfl cc imm, .bvtl cc imm]) ∧
      ∃ rs rt rd imm target cc, Instr.j 0#26 ∈ transfers rs rt rd imm target cc :=
  ⟨by decide +kernel, fun _ h => Instr.noConfusion h, rfl, _, fun _ _ _ _ _ _ => rfl, 0, 0, 0, 0, 0, 0, by simp⟩

theorem witness_DelaySlotThenTarget : (∃ u, exec (.sync 0#5) inSlot = .next u ∧ u.failure = none) ∧ inSlot.pending = true ∧
    (∃ u, exec (.sync 0#5) State.reset = .next u ∧ u.failure = none) ∧ State.reset.pending = false :=
  ⟨exists_of_seen (by decide +kernel), by decide +kernel, exists_of_seen (by decide +kernel), by decide +kernel⟩

/-- The hypotheses of StepRunsDecodedInstruction on a state and the instruction that stands at its pc. -/
def runsHere (s : State) (i : Instr) : Prop :=
  s.runsNext = true ∧ s.cpu.pc.toNat % 4 = 0 ∧ bytesResolve s.cfg s.cpu.pc 4 = true ∧ decode (s.loadWord s.cpu.pc) = .ok i

/-- An instruction that completes, one that fails and one that is refused. -/
theorem witness_StepRunsDecodedInstruction :
    (runsHere (placed 0x24080005) (.addiu 0#5 8#5 5#16) ∧
      ∃ t, exec (.addiu 0#5 8#5 5#16) { placed 0x24080005 with ir := (placed 0x24080005).loadWord (placed 0x24080005).cpu.pc } = .next t ∧
        t.failure = none) ∧
    (runsHere (placed 0x0000000D) (.brk 0#20) ∧
      ∃ t, exec (.brk 0#20) { placed 0x0000000D with ir := (placed 0x0000000D).loadWord (placed 0x0000000D).cpu.pc } = .next t ∧
        t.failure.isSome = true) ∧
    runsHere (placed 0x7D0AF900) (.ext 8#5 10#5 31#5 4#5) ∧
    ∃ r, exec (.ext 8#5 10#5 31#5 4#5) { placed 0x7D0AF900 with ir := (placed 0x7D0AF900).loadWord (placed 0x7D0AF900).cpu.pc } = .refused r := by
  unfold runsHere
  exact ⟨⟨by decide +kernel, exists_of_seen (by decide +kernel)⟩, ⟨by decide +kernel, exists_of_seen (by decide +kernel)⟩,
    by decide +kernel, ⟨.extInsRange, rfl⟩⟩

/-- The same inside a nested run. -/
theorem witness_StepRunsDecodedInstruction_nested :
    runsHere { placed 0x24080005 with sched := { (placed 0x24080005).sched with nested := some (placed 0x24080005).cpu } }
      (.addiu 0#5 8#5 5#16) := by
  unfold runsHere
  decide +kernel

theorem witness_FetchFailures : (let s := (placed 0).setPc 0x08804002#32; s.runsNext = true ∧ s.cpu.pc.toNat % 4 ≠ 0) ∧
    (let s := (placed 0).setPc 0x0A000000#32; s.runsNext = true ∧ s.cpu.pc.toNat % 4 = 0 ∧ bytesResolve s.cfg s.cpu.pc 4 = false) ∧
    (let s := placed 0x40000000; s.runsNext = true ∧ s.cpu.pc.toNat % 4 = 0 ∧ bytesResolve s.cfg s.cpu.pc 4 = true ∧
      decode (s.loadWord s.cpu.pc) = .error .unknownOpcode) := by
  decide +kernel

/-- LoadsWriteTheirRegister, StoresWriteTheirBytes, LoadLinkedStoreConditional: the last bytes of user RAM. -/
theorem witness_accesses : Accessible (at8 0x09FFFFFF#32) ((at8 0x09FFFFFF#32).x 8#5 + BitVec.ofInt 32 (0#16 : Half).toInt) 1 1 ∧
    Accessible (at8 0x09FFFFFF#32) ((at8 0x09FFFFFF#32).x 8#5 + BitVec.ofInt 32 (0xFFFF#16 : Half).toInt) 2 2 ∧
    Accessible (at8 0x09FFFFFF#32) ((at8 0x09FFFFFF#32).x 8#5 + BitVec.ofInt 32 (0xFFFD#16 : Half).toInt) 4 4 ∧
    Accessible (at8 0x09FFFFFC#32) ((at8 0x09FFFFFC#32).x 8#5 + BitVec.ofInt 32 (4 * (0#14 : BitVec 14).toInt)) 4 4 ∧
    (at8 0x09FFFFFC#32).mem.wf = true ∧ (at8 0x09FFFFFC#32).cpu.llBit = true ∧ State.reset.cpu.llBit = false := by
  unfold Accessible
  decide +kernel

/-- Every byte offset in the last word of user RAM. -/
theorem witness_UnalignedLoadsStores : (∀ k, k < 4 →
    let ea := (at8 0x09FFFFFC#32).x 8#5 + BitVec.ofInt 32 (BitVec.ofNat 16 k).toInt
    ea.toNat % 4 = k ∧ Accessible (at8 0x09FFFFFC#32) (ea - BitVec.ofNat 32 (ea.toNat % 4)) 4 4) ∧ (at8 0x09FFFFFC#32).mem.wf = true := by
  unfold Accessible
  decide +kernel

/-- QuadLoads and QuadStores: the first and the last block of user RAM, at each word offset. -/
theorem witness_quads : (∀ i, i < 4 → Accessible State.reset ((0x09FFFFF0#32 : Word) + BitVec.ofNat 32 (4 * i)) 4 4) ∧
    (0x09FFFFF0#32 : Word).toNat % 16 = 0 ∧
    (∀ k, k < 4 → ∀ i, i ≤ k → Accessible State.reset ((0x08800000#32 : Word) + BitVec.ofNat 32 (4 * k) - BitVec.ofNat 32 (4 * i)) 4 4) ∧
    (∀ k, k < 4 → ∀ i, i ≤ 3 - k → Accessible State.reset ((0x09FFFFF0#32 : Word) + BitVec.ofNat 32 (4 * k) + BitVec.ofNat 32 (4 * i)) 4 4) ∧
    ((at8 0x09FFFFFC#32).x 8#5 + BitVec.ofInt 32 (4 * (0x3FFF#14 : BitVec 14).toInt) = 0x09FFFFF8#32 ∧ (0x09FFFFF8#32 : Word).toNat / 4 % 4 = 2) ∧
    State.reset.mem.wf = true := by
  unfold Accessible
  decide +kernel

/-- A byte, a halfword, a word and a block that are misaligned, or just past the end of user RAM. -/
theorem witness_AccessFaults : (at8 0x0A000000#32).failure = none ∧ (at8 0x0A000000#32).cpu.llBit = true ∧
    bytesResolve State.reset.cfg 0x0A000000#32 1 = false ∧ bytesResolve State.reset.cfg 0x0A000000#32 2 = false ∧
    bytesResolve State.reset.cfg 0x0A000000#32 4 = false ∧ (0x08810001#32 : Word).toNat % 2 ≠ 0 ∧ (0x08810002#32 : Word).toNat % 4 ≠ 0 ∧
    (0x08810004#32 : Word).toNat % 16 ≠ 0 ∧
    (∀ m, m < 2 → Accessible (shortWindow State.reset) ((0x08810000#32 : Word) + BitVec.ofNat 32 (4 * m)) 4 4) ∧
    bytesResolve (shortWindow State.reset).cfg ((0x08810000#32 : Word) + BitVec.ofNat 32 (4 * 2)) 4 = false ∧
    bytesResolve State.reset.cfg ((0x0A00000C#32 : Word) - BitVec.ofNat 32 (4 * 0)) 4 = false := by
  unfold Accessible
  decide +kernel

/-- A NaN, an infinity, a zero, a negative and a finite operand for Cop1Arithmetic and ArithmeticCorrectlyRounded; with FTZ on, a subnormal
operand that is flushed, and a positive radicand that is not. -/
theorem witness_Cop1Arithmetic : isNaN 0x7FC00000#32 = true ∧ isInf 0x7F800000#32 = true ∧ isInf 0xFF800000#32 = true ∧
    isNaNorInf 0x7F7FFFFF#32 = false ∧ isZero 0x80000000#32 = true ∧ isZero 0x00000001#32 = false ∧ fNeg 0x80000001#32 = true ∧
    (let s := setUp [] [(1#5, 0x7F7FFFFF#32), (2#5, 0x00000001#32)] [] [];
      s.cfg.ftz = false ∧ isNaNorInf (s.f 1#5) = false ∧ isNaNorInf (s.f 2#5) = false ∧ isZero (s.f 2#5) = false ∧ fNeg (s.f 2#5) = false) ∧
    (let s : State := { setUp [] [(1#5, 0x807FFFFF#32), (2#5, 0x00800000#32)] [] [] with cfg := { Params.default with ftz := true } };
      s.cfg.ftz = true ∧ fExp (s.f 1#5) = 0 ∧ fNeg (s.f 1#5) = true ∧ fExp (s.f 2#5) ≠ 0 ∧ isZero (s.f 2#5) = false ∧
        fNeg (s.f 2#5) = false) := by
  decide +kernel

/-- Each of the four rounding modes. -/
theorem witness_FloatToWordConversions : ∀ m, m < 4 → (State.reset.setFcr31 (BitVec.ofNat 32 m)).cpu.fcr31.toNat % 4 = m := by decide +kernel

/-- CompareConditions on 1.0 and 2.0: ordered, less. -/
theorem witness_CompareConditions_ordered : ∃ s : State, ∃ un eq lt : Bool, un = (isNaN (s.f 1#5) || isNaN (s.f 2#5)) ∧
    (un = true → eq = false ∧ lt = false) ∧
    (un = false → isInf (s.f 1#5) = false → isInf (s.f 2#5) = false →
      (eq = true ↔ fValue (s.f 1#5) = fValue (s.f 2#5)) ∧ (lt = true ↔ fValue (s.f 1#5) < fValue (s.f 2#5))) ∧
    (un = false → (isInf (s.f 1#5) || isInf (s.f 2#5)) = true →
      (eq = true ↔ s.f 1#5 = s.f 2#5) ∧
      (lt = true ↔ s.f 1#5 ≠ s.f 2#5 ∧ ((isInf (s.f 1#5) && fNeg (s.f 1#5)) || (isInf (s.f 2#5) && !fNeg (s.f 2#5))) = true)) := by
  have h1 : (setUp [] [(1#5, 0x3F800000#32), (2#5, 0x40000000#32)] [] []).f 1#5 = 0x3F800000#32 := by decide +kernel
  have h2 : (setUp [] [(1#5, 0x3F800000#32), (2#5, 0x40000000#32)] [] []).f 2#5 = 0x40000000#32 := by decide +kernel
  have n1 : fNeg 0x3F800000#32 = false ∧ fMant 0x3F800000#32 = 8388608 ∧ fPow 0x3F800000#32 = -23 := by decide
  have n2 : fNeg 0x40000000#32 = false ∧ fMant 0x40000000#32 = 8388608 ∧ fPow 0x40000000#32 = -22 := by decide
  have v1 : fValue 0x3F800000#32 = 1 := by unfold fValue; rw [n1.1, n1.2.1, n1.2.2]; norm_num
  have v2 : fValue 0x40000000#32 = 2 := by unfold fValue; rw [n2.1, n2.2.1, n2.2.2]; norm_num
  refine ⟨setUp [] [(1#5, 0x3F800000#32), (2#5, 0x40000000#32)] [] [], false, false, true, ?_⟩
  rw [h1, h2, v1, v2]
  refine ⟨by decide, by decide, fun _ _ _ => by norm_num, fun _ h => absurd h (by decide)⟩

/-- CompareConditions on a NaN, and on an infinity. -/
theorem witness_CompareConditions_special :
    (let s := setUp [] [(1#5, 0x7FC00000#32), (2#5, 0x3F800000#32)] [] []; (isNaN (s.f 1#5) || isNaN (s.f 2#5)) = true) ∧
    (let s := setUp [] [(1#5, 0xFF800000#32), (2#5, 0x7F800000#32)] [] [];
      (isNaN (s.f 1#5) || isNaN (s.f 2#5)) = false ∧ (isInf (s.f 1#5) || isInf (s.f 2#5)) = true ∧ s.f 1#5 ≠ s.f 2#5 ∧
        ((isInf (s.f 1#5) && fNeg (s.f 1#5)) || (isInf (s.f 2#5) && !fNeg (s.f 2#5))) = true) := by
  decide +kernel

/-- A command of a mapped NID. -/
theorem witness_SyscallRunsCommand : (∀ c, c ∈ ([.cpuSuspendIntr, .cpuResumeIntr, .getThreadId] : List Command) →
    lookup (serving c State.reset).cfg.nidMap (serving c State.reset).cpu.pc = some 7#32 ∧
    lookup (serving c State.reset).cfg.kernelNid 7#32 = some c ∧ (serving c State.reset).failure = none ∧
    (serving c State.reset).currentThread?.isSome = true) := by
  decide +kernel

/-- A command that goes on, one that fails and one that is refused. (Whether an external handler is handled is an opaque parameter, so no
state can be shown to meet that hypothesis.) -/
theorem witness_SyscallRunsCommand_ends :
    (∃ u, runCommand .getThreadId ⟨0#32, 0#32, 0#32, 0#32, 0#32, 0#32⟩ (serving .getThreadId State.reset) = .next u ∧ u.failure = none) ∧
    (∃ u, runCommand .waitSema ⟨100#32, 2#32, 4#32, 0#32, 0#32, 0#32⟩ kernelState = .next u ∧ u.failure.isSome = true) ∧
    runCommand .deleteThread ⟨2#32, 0#32, 0#32, 0#32, 0#32, 0#32⟩ threadsState = .refused .unmodelledKernelCase :=
  ⟨exists_of_seen (by decide +kernel), exists_of_seen (by decide +kernel), refused_of_seen (by decide +kernel)⟩

/-- Known and unknown interrupt records, callbacks and alarms, a caller, and UIDs left. -/
theorem witness_SyscallRunsCommand_objects : (let s := eventful .run true [];
      s.intrHandler? 5#32 1#32 = none ∧ (s.intrHandler? 5#32 0#32).isSome = true ∧ s.callback? 301#32 = none ∧
        (s.callback? 300#32).isSome = true ∧ s.currentThread?.isSome = true ∧ s.sched.uids.length < 2 ^ 31 - 1 ∧
        ∀ o, o ∈ s.sched.alarms → o.uid ≠ 400#32) ∧
    (∃ o, o ∈ alarmed.sched.alarms ∧ o.uid = 400#32) ∧ ∃ n, IsCycles Params.default (0xFFFFFFFF#32 : Word).toNat n :=
  ⟨by decide +kernel, ⟨⟨400#32, 1#32, 0#32, 5⟩, by decide +kernel⟩, _, rfl⟩

theorem witness_SystemInstructions : State.reset.failure = none ∧ lookup State.reset.cfg.nidMap State.reset.cpu.pc = none := by decide +kernel

theorem witness_PrefixSettingTransfers : (15#7 : BitVec 7).toNat < 16 ∧ 16 ≤ (16#7 : BitVec 7).toNat ∧
    ∀ k : CReg, vcMask k = if k.val ≤ 1 then some 0x000FFFFF#32 else if k.val = 2 then some 0x00000FFF#32
      else if k.val = 3 then some 0x0000003F#32 else if k.val = 4 then some 0xFFFFFFFF#32 else if k.val ≤ 7 then none
      else some 0x3FFFFFFF#32 := by decide

/-- The last lane of a Quad, and each saturation mode. -/
theorem witness_PrefixRules : 3 < 4 ∧ (∀ i, i < 4 → ((State.reset.setVc CReg.dpfx 0xE4#32).effD .vmov .quad).toNat / 4 ^ i % 4 = i) ∧
    ({ State.reset with cfg := { State.reset.cfg with sat2Policy := .passthrough } } : State).cfg.sat2Policy = .passthrough := by
  decide +kernel

/-- The table of PrefixRules. -/
def overrideTable : List (VfpuOp × List Size × PrefixOverride) := [
  (.vocp, [.single, .pair, .triple, .quad], ⟨0x000F0000#32, 0x000F0000#32, 0x000000FF#32, 0x0000F055#32, 0#32, 0#32⟩),
  (.vcrs, [.triple], ⟨0x0000003F#32, 0x00000009#32, 0x0000003F#32, 0x00000012#32, 0#32, 0#32⟩),
  (.vsocp, [.single, .pair], ⟨0x000F00FF#32, 0x00050050#32, 0x000000FF#32, 0x0000F011#32, 0x000000FF#32, 0x00000055#32⟩),
  (.vbfy1, [.pair, .quad], ⟨0#32, 0x000A0000#32, 0x0000F0FF#32, 0x000000B1#32, 0#32, 0#32⟩),
  (.vbfy2, [.quad], ⟨0#32, 0x000C0000#32, 0x0000F0FF#32, 0x0000004E#32, 0#32, 0#32⟩),
  (.vhdp, [.pair], ⟨0x0000000C#32, 0x00002004#32, 0#32, 0#32, 0#32, 0#32⟩),
  (.vhdp, [.triple], ⟨0x00000030#32, 0x00004010#32, 0#32, 0#32, 0#32, 0#32⟩),
  (.vhdp, [.quad], ⟨0x000000C0#32, 0x00008040#32, 0#32, 0#32, 0#32, 0#32⟩),
  (.vfad, [.single, .pair, .triple, .quad], ⟨0#32, 0#32, 0x000000FF#32, 0x0000F055#32, 0#32, 0#32⟩),
  (.vavg, [.single], ⟨0#32, 0#32, 0x000000FF#32, 0x0000F055#32, 0#32, 0#32⟩),
  (.vavg, [.pair], ⟨0#32, 0#32, 0x000000FF#32, 0x0000F0FF#32, 0#32, 0#32⟩),
  (.vavg, [.triple], ⟨0#32, 0#32, 0x000000FF#32, 0x0000FF55#32, 0#32, 0#32⟩),
  (.vavg, [.quad], ⟨0#32, 0#32, 0x000000FF#32, 0x0000FFAA#32, 0#32, 0#32⟩)]

/-- An instruction with a row, one without, one with an entry of the parameter, and each policy. -/
theorem witness_PrefixRules_entry :
    (State.reset.cfg.prefixOverrides.find? (fun e => e.1 == (VfpuOp.vavg, Size.triple))).isNone = true ∧
    (VfpuOp.vavg, [Size.triple], (⟨0#32, 0#32, 0x000000FF#32, 0x0000FF55#32, 0#32, 0#32⟩ : PrefixOverride)) ∈ overrideTable ∧
    Size.triple ∈ [Size.triple] ∧ (∀ e, e ∈ overrideTable → e.1 ≠ VfpuOp.vmov) ∧
    (overridden State.reset).cfg.prefixOverrides.find? (fun e => e.1 == (VfpuOp.vmov, Size.pair)) =
      some ((.vmov, .pair), ⟨0x00020000#32, 0x00020000#32, 0#32, 0#32, 0#32, 0#32⟩) ∧
    State.reset.cfg.invalidSwizzle.find? (fun e => e.1 == VfpuOp.vmov) = none ∧
    ∀ q : SwizzlePolicy, ([(VfpuOp.vmov, q)].find? fun e => e.1 == VfpuOp.vmov) = some (.vmov, q) :=
  ⟨by decide +kernel, by decide +kernel, by decide +kernel, by decide +kernel, by decide +kernel, by decide +kernel, fun _ => rfl⟩

/-- The sizes that VectorArithmetic, VectorDots, SortButterfly, MatrixInstructions and CrossQuaternionRotate ask for, identity prefixes, and
the table's entry or, for vbfy1, either entry. -/
theorem witness_vectors : State.reset.prefixesIdentity = true ∧ Size.pair ≠ Size.single ∧
    3 < Size.lanes .quad ∧ 3 < 2 * Size.lanes .pair ∧
    (∀ e ∈ ([(.vcrs, .triple), (.vfad, .single), (.vavg, .quad), (.vhdp, .quad), (.vocp, .quad), (.vbfy2, .quad), (.vsocp, .pair)] :
      List (VfpuOp × Size)), State.reset.FollowsTable e.1 e.2) ∧ (overridden State.reset).FollowsTable .vbfy1 .quad ∧
    prefixOverride State.reset.cfg .vbfy1 .quad = ⟨0#32, 0x000A0000#32, 0x000FFFFF#32, 0x000000B1#32, 0#32, 0#32⟩ ∧
    prefixOverride State.reset.cfg .vbfy1 .pair = ⟨0#32, 0x000A0000#32, 0x000FFFFF#32, 0x000000B1#32, 0#32, 0#32⟩ := by
  unfold State.FollowsTable
  decide +kernel

/-- VectorArithmetic: the flushing of a vsbn.s lane with FTZ off and on, and lanes of each of its cases. -/
theorem witness_VectorArithmetic :
    (∀ p : Word, p = if State.reset.cfg.ftz = true ∧ fExp p = 0 then (if fNeg p then 0x80000000#32 else 0#32) else p) ∧
    (∃ fl : Word → Word, ∀ p : Word, fl p =
      if ({ Params.default with ftz := true } : Params).ftz = true ∧ fExp p = 0 then (if fNeg p then 0x80000000#32 else 0#32) else p) ∧
    (isNaN 0xFFC00000#32 = true ∧ isInf 0x7F800000#32 = true ∧ isZero 0x80000000#32 = true ∧ isNaNorInf 0x00000001#32 = false ∧
      isZero 0x00000001#32 = false) ∧ (0x80000000#32 : Word).toInt = -(2 ^ 31) := by
  refine ⟨fun p => ?_, ⟨_, fun _ => rfl⟩, by decide, by decide⟩
  simp [State.reset, State.resetWith, Params.default]

/-- MinMaxCompare: lanes that are NaN, infinite, tied. -/
theorem witness_MinMaxCompare : (let s := setUp [] [] [(1#7, 0x7FC00000#32), (2#7, 0x7F800000#32)] [];
    isNaN (s.sOperand .vscmp .single (some (.single, 0#7)) 1#7 0) = true ∧
    (isNaNorInf (s.sOperand .vmin .single (some (.single, 0#7)) 2#7 0) || isNaNorInf (s.tOperand .vmin .single (some (.single, 0#7)) 3#7 0)) = true) := by
  decide +kernel

theorem witness_VectorCompare : ∃ (a b : Lanes) (c : Nat → Bool), a = State.reset.sOperand .vcmp .quad none 0#7 ∧
    b = State.reset.tOperand .vcmp .quad none 1#7 ∧ ∀ i, c i = fEq (a i) (b i) := ⟨_, _, _, rfl, rfl, fun _ => rfl⟩

/-- The last CC bit of IntegerToFloatAndMoves. -/
theorem witness_IntegerToFloatAndMoves : (5#3 : BitVec 3).toNat < 6 := by decide

/-- VfpuRefusals: a size that no rule lists for each group, and a prefix that is not the identity. -/
theorem witness_VfpuRefusals : Size.pair ∉ ([.single] : List Size) ∧ Size.single ∉ ([.pair, .triple, .quad] : List Size) ∧
    Size.quad ∉ ([.triple] : List Size) ∧ Size.triple ∉ ([.pair] : List Size) ∧ Size.triple ∉ ([.pair, .quad] : List Size) ∧
    Size.quad ∉ ([.single, .pair] : List Size) ∧ Size.single ∉ ([.quad] : List Size) ∧
    (State.reset.setVc CReg.spfx 0x1B#32).prefixesIdentity = false ∧ State.reset.prefixesIdentity = true := by
  decide +kernel

theorem witness_DecodeEncode : (Instr.rotrv 31#5 31#5 31#5 31#5).wellFormed = true ∧
    decode 0x00000006#32 = .ok (.srlv 0#5 0#5 0#5 0#5) := by decide

/-- StepKeepsMemoryCanonical, StepKeepsRegistersWellFormed, TimeNeverDecreases: a store, from a state with both properties. -/
theorem witness_invariants : (placed 0xAC08FFFC).memWf = true ∧ (placed 0xAC08FFFC).regsWf = true ∧ State.reset.memWf = true ∧
    State.reset.regsWf = true ∧ isNext (step (placed 0xAC08FFFC)) = true ∧ isNext (exec (.sync 0#5) State.reset) = true := by
  decide +kernel

theorem witness_FaultsPreciseAndFinal : (∀ code, Instr.brk 0#20 ≠ .syscall code) ∧ State.reset.failure = none ∧
    (∃ t, exec (.brk 0#20) State.reset = .next t ∧ t.failure = some ⟨.brk, 0x08804000#32, 0#32, 0#32⟩) ∧
    (let s : State := { serving .getThreadId State.reset with cfg := { State.reset.cfg with nidMap := [(0x08804000#32, 7#32)] } };
      lookup s.cfg.nidMap s.cpu.pc = some 7#32 ∧ lookup s.cfg.kernelNid 7#32 = none) ∧
    (∃ t, exec (.syscall 0#20) (serving .waitSema (kernelState.setX 4 100#32 |>.setX 5 2#32 |>.setX 6 4#32)) = .next t ∧
      t.failure.isSome = true) ∧
    ({ State.reset with failure := some ⟨.brk, 0#32, 0#32, 0#32⟩ } : State).failure = some ⟨.brk, 0#32, 0#32, 0#32⟩ ∧
    ({ State.reset with refused := some .vfpuBadSize } : State).refused = some .vfpuBadSize ∧ State.reset.refused = none :=
  ⟨fun _ h => Instr.noConfusion h, by decide +kernel, exists_of_seen (by decide +kernel), by decide +kernel,
    exists_of_seen (by decide +kernel), rfl, rfl, rfl⟩

/-- ResetState: the default parameters, and others at the ends of their ranges, with an image in memory. -/
theorem witness_ResetState : Params.default.wf = true ∧
    ({ Params.default with bootPriority := 0x77, cyclesPerInsn := 2, quantumCycles := 1, windows := [] } : Params).wf = true ∧
    ({ Params.default with initialMemory := [(0x08804000, 5#8), (0x09FFFFFF, 1#8)] } : Params).wf = true := by decide +kernel

theorem witness_ReadyQueueOrder : (State.reset.thread? 1#32).isSome = true ∧ State.reset.sched.readyQueue = 1#32 :: [] ∧
    (State.reset.sched.readyQueue.Pairwise fun v w => State.reset.priorityOf v ≤ State.reset.priorityOf w) ∧
    State.reset.sched.readyQueue.length < State.reset.cfg.readyCapacity ∧ kernelState.sched.readyQueue = [] ∧
    ({ State.reset with cfg := { State.reset.cfg with readyCapacity := 1 } } : State).cfg.readyCapacity ≤ State.reset.sched.readyQueue.length := by
  decide +kernel

/-- The level of the caller and another, with a queue that splits at it; the bounds of a priority; a READY thread and one that is not. -/
theorem witness_ReadyQueueOrder_levels : (let s := threadsState;
      (s.currentThread?.map PSPThread.priority) = some 0x20 ∧ s.sched.nested = none ∧
      s.sched.readyQueue = [] ++ 4#32 :: ([5#32] ++ [6#32]) ∧ s.priorityOf 4#32 = 0x30 ∧ s.priorityOf 5#32 = 0x30 ∧
      0x30 < s.priorityOf 6#32 ∧ (s.sched.readyQueue.all fun w => s.priorityOf w != 0x77) = true ∧ s.sched.readyQueue.Nodup ∧
      (s.sched.readyQueue.Pairwise fun v w => s.priorityOf v ≤ s.priorityOf w) ∧
      (s.thread? 4#32).map PSPThread.status = some .ready ∧ (s.thread? 2#32).map PSPThread.status = some .dormant ∧
      s.thread? 99#32 = none) ∧
    (0x77#32 : Word).toNat ≤ 0x77 ∧ ¬((0x78#32 : Word).toNat ≤ 0x77) ∧ ¬(0x08 ≤ (7#32 : Word).toNat) ∧ (99#32 : Word) ≠ 0#32 := by
  decide +kernel

/-- The boot thread in a phase and a status. -/
def phased (p : Phase) (st : ThreadStatus) (del : Bool) : State :=
  (kernelState.updateThread 1#32 fun t => { t with status := st, deletePending := del }).setPhase p

theorem witness_QuantumContextSwitch : (let s := beginCall State.reset;
      s.failure = none ∧ s.refused = none ∧ s.sched.nested = none ∧ s.sched.phase = .frame ∧ s.sched.consumed < s.sched.callCycles ∧
        s.selectReady.isSome = true) ∧
    (State.reset.sched.phase = .host ∧ State.reset.sched.calls = []) ∧
    (let s : State := { State.reset with sched := { State.reset.sched with calls := [-1] } }; s.sched.phase = .host ∧ s.sched.calls = -1 :: []) ∧
    (let s := State.reset.startCall (-1); s.sched.phase = .frame ∧ s.sched.callCycles ≤ s.sched.consumed) ∧
    (let s := phased .run .running false; (s.latchJump 0x08805000#32).pending = true ∧ (s.latchJump 0x08805000#32).sched.phase = .run) ∧
    (let s := phased .run .waiting false; s.pending = false ∧ s.quantumOver = true) ∧
    (let s := (phased .run .running false).setPc Params.default.threadExitAddr;
      s.pending = false ∧ s.quantumOver = false ∧ s.cpu.pc = s.cfg.threadExitAddr ∧ s.currentThread?.isSome = true) := by
  decide +kernel

theorem witness_QuantumContextSwitch_finish : (∀ st, st ∈ [ThreadStatus.running, .waiting, .dormant] → ∀ del, del ∈ [false, true] →
    let s := phased .finish st del
    s.failure = none ∧ s.refused = none ∧ s.sched.nested = none ∧ s.sched.phase = .finish ∧ s.sched.current = some 1#32 ∧
      (s.thread? 1#32).map PSPThread.status = some st ∧ (s.thread? 1#32).map PSPThread.deletePending = some del ∧
      s.sched.readyQueue.length < s.cfg.readyCapacity ∧ (nextOf (step s)).map State.failure = some none) := by
  decide +kernel

theorem witness_HandlersEnterAndReturn : (let s := eventful (.callbacks [300#32]) true [];
      s.failure = none ∧ s.refused = none ∧ s.sched.nested = none ∧ s.sched.phase = .callbacks (300#32 :: []) ∧ (s.callback? 300#32).isSome = true) ∧
    (let s := eventful (.interrupts 1) true [.interrupt 5#32 0#32];
      s.sched.phase = .interrupts (0 + 1) ∧ s.sched.pendingIntr = .interrupt 5#32 0#32 :: [] ∧ s.sched.intrEnabled = true ∧
        (s.intrHandler? 5#32 0#32).map IntrHandler.enabled = some true) ∧
    (let s := eventful (.interrupts 1) true [.interrupt 6#32 0#32]; (s.intrHandler? 6#32 0#32).map IntrHandler.enabled = some false) ∧
    (let s := eventful (.interrupts 1) false [.alarm 0x08900000#32 1#32]; s.sched.intrEnabled = false) ∧
    (let s := eventful (.interrupts 1) true [.alarm 0x08900000#32 1#32]; s.sched.pendingIntr = .alarm 0x08900000#32 1#32 :: []) := by
  decide +kernel

theorem witness_HandlersEnterAndReturn_return :
    (let s := (eventful (.callbacks [300#32]) true []).enterHandler Params.default.handlerReturnAddr 0#32 0#32 0#32;
      s.failure = none ∧ s.refused = none ∧ s.sched.nested.isSome = true ∧ s.cpu.pc = s.cfg.handlerReturnAddr ∧ s.pending = false ∧
        s.sched.phase = .callbacks (300#32 :: []) ∧ (s.callback? 300#32).isSome = true) := by
  decide +kernel

/-- The boot thread waiting, not current, at time 5. -/
def waitingFor (w : Wait) (d : Option Nat) (n : Nat) : State :=
  let s := State.reset.updateThread 1#32 fun t => { t with status := .waiting, wait := w, deadline := d, wakeupCount := n }
  { s with sched := { s.sched with
    threads := s.sched.threads ++ [likeBoot 3#32 .dormant 0x20 .none true], readyQueue := [], waitingList := [1#32], now := 5
    semaphores := [⟨100#32, 2, 5⟩], eventFlags := [⟨200#32, 5#32⟩] } }

/-- Every wait type but the external one (whose condition is an opaque parameter), and deadlines that have passed and have not. -/
theorem witness_WaitReevaluation : (∀ s, s ∈ [waitingFor .sleep none 1, waitingFor .delay (some 5) 0, waitingFor (.sema 100#32 2) none 0,
      waitingFor (.eventFlag 200#32 4#32 0x21#32 0#32) none 0, waitingFor (.threadEnd 3#32) none 0,
      waitingFor (.sema 100#32 3) (some 5) 0, waitingFor (.sema 100#32 3) (some 6) 0] →
    (s.thread? 1#32).isSome = true ∧ s.sched.current ≠ some 1#32 ∧ s.sched.readyQueue.length < s.cfg.readyCapacity ∧ s.failure = none ∧
      s.sema? 100#32 = some ⟨100#32, 2, 5⟩ ∧ s.eventFlag? 200#32 = some ⟨200#32, 5#32⟩ ∧
      (s.thread? 3#32).map PSPThread.status = some .dormant) ∧
    ((waitingFor (.sema 100#32 3) (some 6) 0).thread? 1#32).map (waitingFor (.sema 100#32 3) (some 6) 0).waitDone = some false := by
  refine ⟨?_, by decide +kernel⟩
  simp only [List.forall_mem_cons]
  exact ⟨by decide +kernel, by decide +kernel, by decide +kernel, by decide +kernel, by decide +kernel, by decide +kernel, by decide +kernel,
    by simp⟩

/-- A report address that is good, and one that is not. -/
theorem witness_WaitReevaluation_report : Accessible (waitingFor (.eventFlag 200#32 4#32 0x21#32 0x08C00000#32) none 0) 0x08C00000#32 4 4 ∧
    ¬ Accessible (waitingFor (.eventFlag 200#32 4#32 0x21#32 2#32) none 0) 2#32 4 4 ∧ (2#32 : Word) ≠ 0#32 ∧
    (5#32 &&& 4#32 : Word) ≠ 0#32 := by
  unfold Accessible
  decide +kernel

theorem witness_WaitReevaluation_alarms : alarmed.failure = none ∧ alarmed.refused = none ∧ alarmed.sched.nested = none ∧
    alarmed.sched.phase = .reevaluate ∧ alarmed.sched.waitingList = [] ∧ ∃ t, step alarmed = .next t ∧ t.failure = none :=
  ⟨by decide +kernel, by decide +kernel, by decide +kernel, by decide +kernel, by decide +kernel, exists_of_seen (by decide +kernel)⟩

/-- A timeout argument of 0, and one that names a word. -/
theorem witness_timeouts : TimeoutIs kernelState 0#32 none ∧ ∃ dl, TimeoutIs kernelState 0x08C00000#32 dl := by
  refine ⟨by simp [TimeoutIs], some (kernelState.deadlineAfter (kernelState.loadWord 0x08C00000#32)), ?_⟩
  unfold TimeoutIs
  rw [if_neg (by decide)]
  exact ⟨by unfold Accessible; decide +kernel, _, rfl, rfl⟩

/-- Known and unknown UIDs, legal and illegal counts and modes at their bounds, and each mode's match. -/
theorem witness_SemaphoreAndEventFlagCommands : kernelState.failure = none ∧ kernelState.sema? 5#32 = none ∧ kernelState.eventFlag? 5#32 = none ∧
    kernelState.sema? 101#32 = some ⟨101#32, 0, 5⟩ ∧ kernelState.eventFlag? 200#32 = some ⟨200#32, 5#32⟩ ∧
    kernelState.currentThread?.isSome = true ∧ kernelState.sched.nested = none ∧ kernelState.sched.uids.length < 2 ^ 31 - 1 ∧
    (0 : Int) < (5#32 : Word).toInt ∧ (5#32 : Word).toInt ≤ 5 ∧ 5 < (6#32 : Word).toInt ∧ (0xFFFFFFFF#32 : Word).toInt < 0 ∧
    0 ≤ (5#32 : Word).toInt ∧ (0 : Int) + (5#32 : Word).toInt ≤ 5 ∧ (0#32 : Word).toInt ≤ 0 ∧
    ((0x21#32 : Word) ∈ ([0x00#32, 0x01#32, 0x10#32, 0x11#32, 0x20#32, 0x21#32] : List Word)) ∧
    ¬((0x30#32 : Word) ∈ ([0x00#32, 0x01#32, 0x10#32, 0x11#32, 0x20#32, 0x21#32] : List Word)) ∧
    (5#32 &&& 3#32 : Word) ≠ 0#32 ∧ (5#32 &&& 3#32 : Word) ≠ 3#32 ∧ (5#32 &&& 4#32 : Word) = 4#32 := by
  decide +kernel

/-- Objects with a waiter and without, and report and timeout addresses that are good and bad. -/
theorem witness_SemaphoreAndEventFlagCommands_waiters :
    (∃ th need, th ∈ threadsState.sched.threads ∧ th.status = .waiting ∧ th.wait = .sema 101#32 need) ∧
    (∃ th m mode out, th ∈ threadsState.sched.threads ∧ th.status = .waiting ∧ th.wait = .eventFlag 201#32 m mode out) ∧
    (∀ th need, th ∈ kernelState.sched.threads → th.status = .waiting → th.wait ≠ .sema 100#32 need) ∧
    (∀ th m mode out, th ∈ kernelState.sched.threads → th.status = .waiting → th.wait ≠ .eventFlag 200#32 m mode out) ∧
    Accessible kernelState 0x08C00000#32 4 4 ∧ ¬ Accessible kernelState 4#32 4 4 ∧ (4#32 : Word) ≠ 0#32 :=
  ⟨⟨likeBoot 8#32 .waiting 0x20 (.sema 101#32 2) true, 2, by decide +kernel⟩,
    ⟨likeBoot 9#32 .waiting 0x20 (.eventFlag 201#32 8#32 0#32 0#32) true, 8#32, 0#32, 0#32, by decide +kernel⟩,
    fun th _ hm hs => absurd hs (by revert th; decide +kernel), fun th _ _ _ hm hs => absurd hs (by revert th; decide +kernel),
    by unfold Accessible; decide +kernel, by unfold Accessible; decide +kernel, by decide⟩

/-- Threads in each status that a clause asks for, awaited and not, outside and inside a nested run. (STACK_ALLOC is an opaque parameter: it
answers none or a base, and no state can be shown to meet either.) -/
theorem witness_ThreadCommands : (let s := threadsState;
      s.failure = none ∧ s.sched.nested = none ∧ s.currentThread?.isSome = true ∧ s.thread? 99#32 = none ∧ (99#32 : Word) ≠ 0#32 ∧
      (s.thread? 2#32).map (fun t => (t.status, t.started)) = some (.dormant, false) ∧
      (s.thread? 3#32).map (fun t => (t.status, t.started)) = some (.dormant, true) ∧
      (s.thread? 4#32).map PSPThread.status = some .ready ∧ s.sched.readyQueue.length < s.cfg.readyCapacity ∧
      (∃ w, w ∈ s.sched.threads ∧ w.status = .waiting ∧ w.wait = .threadEnd 2#32) ∧
      (∀ w, w ∈ s.sched.threads → w.status = .waiting → w.wait ≠ .threadEnd 3#32) ∧ s.sched.uids.length < 2 ^ 31 - 1 ∧
      s.currentThread?.map PSPThread.wakeupCount = some 0 ∧
      ((s.updateThread 1#32 fun t => { t with wakeupCount := 1 }).currentThread?.map PSPThread.wakeupCount) = some 1 ∧
      ¬ (accessFault s.cfg 4#32 4 4 = none)) ∧
    (0x08 ≤ (0x77#32 : Word).toNat ∧ (0x77#32 : Word).toNat ≤ 0x77) ∧ ¬((0x78#32 : Word).toNat ≤ 0x77) ∧
    (∃ n, IsCycles Params.default (0#32 : Word).toNat n) ∧
    ({ kernelState with cfg := { kernelState.cfg with readyCapacity := 0 } } : State).cfg.readyCapacity ≤ kernelState.sched.readyQueue.length ∧
    ({ kernelState with sched := { kernelState.sched with nested := some kernelState.cpu } } : State).sched.nested ≠ none := by
  refine ⟨?_, by decide, by decide, ⟨_, rfl⟩, by decide +kernel, by simp⟩
  decide +kernel

theorem witness_Cop1Moves : (30#5 : FReg) ≠ 0#5 ∧ (30#5 : FReg) ≠ 31#5 ∧ (1#5 : FReg) ≠ 0#5 ∧ (1#5 : FReg) ≠ 31#5 := by decide

end Sys2Proof.Tests
end

section
/-! PROOF. Register invariants (10_state.md R32, R35, R38, R41). An instruction, `syscall` and the commands included, is made of few writes
of the state (`KeptByWrites`), and what each of them keeps, `fetchAndExecute` keeps (`KeptByWrites.fetchAndExecute`). Well-formed registers
are kept by these writes and by the scheduler's own actions. -/

namespace Sys2Proof.Machine

open Sys2Proof

/-! ### Results -/

/-- Every next state that a result answers satisfies `P`; a fault and a refusal answer none. -/
def Ensures (P : State → Prop) (r : Result) : Prop := ∀ t, r = .next t → P t

section
variable {P : State → Prop} {s : State} {r : Result}

theorem Ensures.next (h : P s) : Ensures P (.next s) := by
  rintro t ⟨⟩
  exact h

theorem Ensures.fault (e : Fault) : Ensures P (.fault e) := by rintro t ⟨⟩

theorem Ensures.refused (e : Refusal) : Ensures P (.refused e) := by rintro t ⟨⟩

theorem Ensures.refuse (e : Refusal) : Ensures P (refuse e) := .refused e

theorem Ensures.andThen {k : State → Result} (h : Ensures P r) (hk : ∀ t, P t → Ensures P (k t)) : Ensures P (andThen r k) := by
  cases r with
  | next t =>
    have ht : P t := h t rfl
    unfold Machine.andThen
    dsimp only
    split
    · exact .next ht
    · exact hk t ht
  | fault e => exact .fault e
  | refused e => exact .refused e

theorem Ensures.accounted {f : State → State} (h : Ensures P r) (hf : ∀ t, P t → P (f t)) : Ensures P (accounted f r) := by
  cases r with
  | next t => exact .next (hf t (h t rfl))
  | fault e => exact .fault e
  | refused e => exact .refused e

theorem Ensures.ite {c : Prop} [Decidable c] {r' : Result} (h : Ensures P r) (h' : Ensures P r') : Ensures P (if c then r else r') := by
  split
  · exact h
  · exact h'

theorem Ensures.sized {ok : Bool} (h : Ensures P r) : Ensures P (sized ok r) := .ite h (.refuse _)

theorem Ensures.matrixOp {sz : Size} (h : Ensures P r) : Ensures P (matrixOp sz s r) := .ite h.sized (.refuse _)

/-- A branch or jump runs only where no transfer is pending (41_branch.md R287). -/
theorem Ensures.outsideSlot (h : s.pending = false → Ensures P r) : Ensures P (outsideSlot s r) := by
  unfold Machine.outsideSlot
  split
  · exact .refuse _
  · exact h (by simpa using ‹¬ s.pending = true›)

theorem Ensures.outsideNested (h : Ensures P r) : Ensures P (outsideNested s r) := .ite (.refuse _) h

theorem Ensures.onceOnly (exits : Bool) (h : Ensures P r) : Ensures P (onceOnly exits s r) := by
  rcases onceOnly_cases exits s r with e | e <;> rw [e]
  · exact h
  · exact .refuse _

theorem Ensures.withCaller {k : PSPThread → Result} (hk : ∀ c, Ensures P (k c)) : Ensures P (withCaller s k) := by
  unfold Machine.withCaller
  split
  · exact hk _
  · exact .refuse _

end

/-! ### Well-formed registers -/

/-- What 10_state.md R41 asks of the value of one VFPU control register. -/
structure VcFits (k : CReg) (v : Word) : Prop where
  masked : ∀ m, vcMask k = some m → v &&& ~~~m = 0#32
  readOnly : vcMask k = none → v = resetVfpuCtrl[k.val]'k.isLt

theorem VcFits.of_mask {k : CReg} {m v : Word} (hk : vcMask k = some m) (hv : v &&& ~~~m = 0#32) : VcFits k v :=
  ⟨fun n hn => by rwa [Option.some.inj (hn.symm.trans hk)], fun hn => by simp [hk] at hn⟩

theorem VcFits.and_mask {k : CReg} {m : Word} (hk : vcMask k = some m) (v : Word) : VcFits k (v &&& m) :=
  .of_mask hk (by simp [BitVec.and_assoc])

theorem vcWf_iff (v : Vector Word 16) : vcWf v = true ↔ ∀ k : CReg, VcFits k (v[k.val]'k.isLt) := by
  simp only [vcWf, List.all_eq_true, List.mem_finRange, true_imp_iff]
  refine forall_congr' fun k => ?_
  cases hk : vcMask k with
  | some m => exact ⟨fun h => .of_mask hk (by simpa using h), fun h => by simpa using h.masked m hk⟩
  | none => exact ⟨fun h => ⟨fun m hm => by simp [hk] at hm, fun _ => by simpa using h⟩, fun h => by simpa using h.readOnly hk⟩

theorem vcWf_set {v : Vector Word 16} (h : vcWf v = true) (k : CReg) {w : Word} (hw : VcFits k w) :
    vcWf (v.set k.val w k.isLt) = true := by
  rw [vcWf_iff] at h ⊢
  intro j
  by_cases hj : k.val = j.val
  · obtain rfl := Fin.ext hj
    simpa using hw
  · simpa [Vector.getElem_set_ne _ _ hj] using h j

theorem Context.wf_iff (c : Context) :
    c.wf = true ↔ c.gpr[0] = 0#32 ∧ vcWf c.vfpuCtrl = true ∧ c.fcr31 &&& ~~~0x0181FFFF#32 = 0#32 := by
  simp [Context.wf, and_assoc]

theorem ProcessorState.wf_iff (p : ProcessorState) :
    p.wf = true ↔ p.toContext.wf = true ∧ (p.requiredBranching = true → p.requiredJumping = false) := by
  simp only [ProcessorState.wf, Bool.and_eq_true, Bool.not_eq_true', Bool.and_eq_false_imp]

/-- Every thread's saved Context is well formed. -/
def threadsWf (l : List PSPThread) : Prop := ∀ t ∈ l, t.ctx.wf = true

/-- Every register file of the machine is well formed. -/
abbrev RegsWf (s : State) : Prop := s.regsWf = true

theorem regsWf_iff (s : State) : RegsWf s ↔
    s.cpu.wf = true ∧ (∀ p, s.sched.nested = some p → p.wf = true) ∧ threadsWf s.sched.threads := by
  cases h : s.sched.nested <;> simp [RegsWf, State.regsWf, threadsWf, h, and_assoc]

/-! ### What a guest instruction writes -/

/-- What a command does to the scheduler's state: no time passes, the saved run stays, and no thread's Context becomes ill formed. -/
structure CommandWrite (q q' : Scheduler) : Prop where
  threads : threadsWf q.threads → threadsWf q'.threads := by exact id
  nested : q'.nested = q.nested := by rfl
  now : q'.now = q.now := by rfl
  downcount : q'.downcount = q.downcount := by rfl
  idleCycles : q'.idleCycles = q.idleCycles := by rfl

/-- `P` is kept by every write of the state that a guest instruction, or a command it calls, is made of. A live ProcessorState that is
written stays well formed; `restoreCpu` is the return to the registers before the step (60_exceptions.md R704) [log 43]. -/
structure KeptByWrites (P : State → Prop) : Prop where
  cpu : ∀ {s : State} (c : ProcessorState), (s.cpu.wf = true → c.wf = true) → P s → P { s with cpu := c }
  restoreCpu : ∀ {s t : State}, P s → P t → P { t with cpu := s.cpu }
  sched : ∀ {s : State} (q : Scheduler), CommandWrite s.sched q → P s → P { s with sched := q }
  storeByte : ∀ {s : State} (a : Word) (b : Byte), P s → P (s.storeByte a b)
  latchFailure : ∀ {s : State} (c : FatalCause) (word addr : Word), P s → P (s.latchFailure c word addr)
  takeDraws : ∀ {s : State} (n : Nat), P s → P (s.takeDraws n)
  setIr : ∀ {s : State} (w : Word), P s → P { s with ir := w }

/-- A link leaves what is pending. -/
theorem State.setX_pending (s : State) (i : GReg) (v : Word) : (s.setX i v).pending = s.pending := by simp [State.pending]

namespace KeptByWrites

variable {P : State → Prop} (hP : KeptByWrites P) {s : State} (h : P s)
include hP h

/-! ### Registers -/

/-- A write of a general register other than register 0. -/
theorem setGpr (n : Nat) (hn : n < 32) (h0 : n ≠ 0) (v : Word) : P { s with cpu := { s.cpu with gpr := s.cpu.gpr.set n v hn } } := by
  refine hP.cpu _ (fun hw => ?_) h
  simp only [ProcessorState.wf_iff, Context.wf_iff] at hw ⊢
  simpa [Vector.getElem_set_ne _ _ h0] using hw

theorem setX (i : GReg) (v : Word) : P (s.setX i v) := by
  unfold State.setX
  split
  · exact h
  · exact hP.setGpr h i.toNat i.isLt (fun e => ‹¬ i = 0#5› (BitVec.eq_of_toNat_eq e)) v

theorem setF (i : FReg) (v : Word) : P (s.setF i v) := hP.cpu _ id h

theorem setVr (k : VReg) (v : Word) : P (s.setVr k v) := hP.cpu _ id h

theorem setHi (v : Word) : P (s.setHi v) := hP.cpu _ id h

theorem setLo (v : Word) : P (s.setLo v) := hP.cpu _ id h

theorem setHl (v : DWord) : P (s.setHl v) := hP.setLo (hP.setHi h _) _

theorem setPc (v : Word) : P (s.setPc v) := hP.cpu _ id h

theorem advance : P s.advance := hP.setPc h _

theorem setFpcond (b : Bool) : P (s.setFpcond b) := hP.cpu _ id h

theorem setLlBit (b : Bool) : P (s.setLlBit b) := hP.cpu _ id h

/-- `fcr31` keeps its writable bits (10_state.md R38). -/
theorem setFcr31 (v : Word) : P (s.setFcr31 (v &&& 0x0181FFFF#32)) := by
  refine hP.cpu _ (fun hw => ?_) h
  simp only [ProcessorState.wf_iff, Context.wf_iff] at hw ⊢
  obtain ⟨⟨hx, hv, -⟩, hp⟩ := hw
  exact ⟨⟨hx, hv, by simp [BitVec.and_assoc]⟩, hp⟩

theorem setVc (k : CReg) {v : Word} (hv : s.cpu.wf = true → VcFits k v) : P (s.setVc k v) := by
  refine hP.cpu _ (fun hw => ?_) h
  have fits := hv hw
  simp only [ProcessorState.wf_iff, Context.wf_iff] at hw ⊢
  obtain ⟨⟨hx, hc, hf⟩, hp⟩ := hw
  exact ⟨⟨hx, vcWf_set hc k fits, hf⟩, hp⟩

theorem writeVc (k : CReg) (v : Word) : P (s.writeVc k v) := by
  unfold State.writeVc
  split
  · exact hP.setVc h k fun _ => .and_mask ‹_› v
  · exact h

theorem eat : P s.eat :=
  hP.setVc (hP.setVc (hP.setVc h _ fun _ => .of_mask rfl (by decide)) _ fun _ => .of_mask rfl (by decide)) _
    fun _ => .of_mask rfl (by decide)

theorem drawRcx : P s.drawRcx := by
  refine List.foldlRecOn _ _ h fun t ht k hk => hP.setVc ht _ fun _ => .and_mask ?_ _
  have hk8 : k < 8 := List.mem_range.1 hk
  interval_cases k <;> rfl

/-! ### VFPU results -/

theorem writeLane (k : VReg) (i : Nat) (v : Word) : P (s.writeLane k i v) := by
  unfold State.writeLane
  split
  · exact h
  · exact hP.setVr h k v

theorem writeVector (sz : Size) (r : VReg) (d : Lanes) : P (s.writeVector sz r d) :=
  List.foldlRecOn _ _ h fun _ ht _ _ => hP.writeLane ht _ _ _

theorem writeMatrix (sz : Size) (r : VReg) (m : Nat → Lanes) : P (s.writeMatrix sz r m) :=
  List.foldlRecOn _ _ h fun _ ht _ _ => List.foldlRecOn _ _ ht fun _ hu _ _ => hP.writeLane hu _ _ _

/-! ### Memory -/

theorem storeHalf (a : Word) (v : Half) : P (s.storeHalf a v) := hP.storeByte _ _ (hP.storeByte _ _ h)

theorem storeWord (a v : Word) : P (s.storeWord a v) :=
  hP.storeByte _ _ (hP.storeByte _ _ (hP.storeByte _ _ (hP.storeByte _ _ h)))

theorem storeWords (l : List (Word × Word)) : P (storeWords l s) := by
  induction l generalizing s with
  | nil => exact h
  | cons p rest ih => exact ih (hP.storeWord h p.1 p.2)

/-! ### Control transfers -/

/-- A branch is latched where no jump is pending (41_branch.md R287), so that the two are not pending together (10_state.md R35). -/
theorem latchBranch (hp : s.pending = false) (target : Word) : P (s.latchBranch target) := by
  refine hP.cpu _ (fun hw => ?_) h
  rw [ProcessorState.wf_iff] at hw ⊢
  exact ⟨hw.1, fun _ => (Bool.or_eq_false_iff.1 hp).2⟩

theorem latchJump (hp : s.pending = false) (target : Word) : P (s.latchJump target) := by
  refine hP.cpu _ (fun hw => ?_) h
  rw [ProcessorState.wf_iff] at hw ⊢
  exact ⟨hw.1, fun hb => absurd hb (by simp [(Bool.or_eq_false_iff.1 hp).1])⟩

theorem branch (hp : s.pending = false) (likely taken : Bool) (target : Word) : P (branch likely taken target s) := by
  unfold Machine.branch
  split
  · exact hP.latchBranch h hp _
  · split
    · exact hP.setPc h _
    · exact hP.latchBranch h hp _

theorem resolveSlot (target : Word) : P (s.resolveSlot target) := by
  refine hP.cpu _ (fun hw => ?_) h
  rw [ProcessorState.wf_iff] at hw ⊢
  exact ⟨hw.1, nofun⟩

/-! ### The ends of an instruction -/

theorem done : Ensures P (done s) := .next (hP.advance h)

theorem raise (c : FatalCause) (addr : Word) : Ensures P (raise c addr s) := .next (hP.latchFailure c _ addr h)

theorem writeX (rd : GReg) (v : Word) : Ensures P (writeX rd v s) := hP.done (hP.setX h rd v)

theorem writeExact (rd : GReg) (exact : Int) (v : Word) : Ensures P (writeExact rd exact v s) :=
  .ite (hP.raise h _ _) (hP.writeX h rd v)

theorem done_setF (fd : FReg) (v : Word) : Ensures P (Machine.done (s.setF fd v)) := hP.done (hP.setF h fd v)

theorem done_setHl (v : DWord) : Ensures P (Machine.done (s.setHl v)) := hP.done (hP.setHl h v)

theorem writeLoHi (r : Word × Word) : Ensures P (writeLoHi r s) := hP.done (hP.setHi (hP.setLo h _) _)

theorem compareFloat (cond : BitVec 4) (ft fs : FReg) : Ensures P (compareFloat cond ft fs s) := hP.done (hP.setFpcond h _)

theorem vectorEnd (op : VfpuOp) (sz out : Size) (vd : VReg) (d : Lanes) : Ensures P (vectorEnd op sz out vd d s) :=
  hP.done (hP.eat (hP.writeVector h _ _ _))

theorem vectorEndMasked (out : Size) (vd : VReg) (d : Lanes) : Ensures P (vectorEndMasked out vd d s) :=
  hP.done (hP.eat (hP.writeVector h _ _ _))

theorem matrixEnd (sz : Size) (vd : VReg) (m : Nat → Lanes) : Ensures P (matrixEnd sz vd m s) :=
  hP.done (hP.eat (hP.writeMatrix h _ _ _))

theorem transform (sz : Size) (vd vs : VReg) (t : Lanes) : Ensures P (transform sz vd vs t s) :=
  .matrixOp (hP.done (hP.eat (hP.writeVector h _ _ _)))

theorem condMove (op : VfpuOp) (want : Bool) (vd vs : VReg) (imm3 : BitVec 3) (sz : Size) :
    Ensures P (condMove op want vd vs imm3 sz s) := .ite (.refuse _) (hP.vectorEnd h _ _ _ _ _)

theorem relBranch (likely taken : Bool) (imm : Half) : Ensures P (relBranch likely taken imm s) :=
  .outsideSlot fun hp => .next (hP.branch h hp _ _ _)

theorem relBranchLink (likely taken : Bool) (imm : Half) : Ensures P (relBranchLink likely taken imm s) :=
  .outsideSlot fun hp => .next (hP.branch (hP.setX h 31 _) ((State.setX_pending _ _ _).trans hp) _ _ _)

theorem jump (target : Word) : Ensures P (outsideSlot s (.next (s.latchJump target))) :=
  .outsideSlot fun hp => .next (hP.latchJump h hp _)

theorem jumpLink (rd : GReg) (v target : Word) : Ensures P (outsideSlot s (.next ((s.setX rd v).latchJump target))) :=
  .outsideSlot fun hp => .next (hP.latchJump (hP.setX h rd v) ((State.setX_pending _ _ _).trans hp) _)

theorem checked {r : Result} (hr : Ensures P r) (a : Word) (n align : Nat) : Ensures P (checked a n align s r) := by
  unfold Machine.checked
  split
  · exact hP.raise h _ _
  · exact hr

theorem checkedWords {r : Result} (hr : Ensures P r) (l : List Word) : Ensures P (checkedWords l s r) := by
  induction l with
  | nil => exact hr
  | cons a rest ih => exact hP.checked h ih a 4 4

theorem checkedQuad {r : Result} (hr : Ensures P r) (ea : Word) : Ensures P (checkedQuad ea s r) :=
  .ite (hP.raise h _ _) (hP.checkedWords h hr _)

end KeptByWrites

/-! ### Contexts of started threads -/

theorem resetContext_wf (p : Params) (base : Nat) : (resetContext p base).wf = true :=
  (Context.wf_iff _).2 ⟨by simp [resetContext, registerFile], by simp only [resetContext]; decide, by simp [resetContext]⟩

theorem startContext_wf (p : Params) (base : Nat) (entry sp gp argSize argPtr : Word) :
    (startContext p base entry sp gp argSize argPtr).wf = true := by
  have h := (Context.wf_iff _).1 (resetContext_wf p base)
  simp only [startContext, Context.wf_iff]
  simpa using h

theorem State.thread?_mem {s : State} {u : Word} {th : PSPThread} (h : s.thread? u = some th) : th ∈ s.sched.threads :=
  List.mem_of_find?_eq_some h

namespace KeptByWrites

variable {P : State → Prop} (hP : KeptByWrites P) {s : State} (h : P s)
include hP h

/-! ### The scheduler's objects -/

/-- A change of a thread keeps its Context, unless its caller says otherwise. -/
theorem updateThread (u : Word) (f : PSPThread → PSPThread) (hf : ∀ t, t.ctx.wf = true → (f t).ctx.wf = true := by exact fun _ => id) :
    P (s.updateThread u f) := by
  refine hP.sched _ { threads := fun ht t hm => ?_ } h
  obtain ⟨r, hr, rfl⟩ := List.mem_map.1 hm
  split
  · exact hf r (ht r hr)
  · exact ht r hr

theorem destroyThread (u : Word) : P (s.destroyThread u) :=
  hP.sched _ { threads := fun ht t hm => ht t (List.mem_filter.1 hm).1 } h

theorem setSemaCount (u : Word) (n : Int) : P (s.setSemaCount u n) := hP.sched _ {} h

theorem setEventBits (u b : Word) : P (s.setEventBits u b) := hP.sched _ {} h

theorem issueUid (u : Word) : P (s.issueUid u) := hP.takeDraws 1 (hP.sched { s.sched with uids := u :: s.sched.uids } {} h)

theorem enqueueReady (u : Word) : Ensures P (enqueueReady u s) :=
  .ite (.refuse _) (.next (hP.sched _ {} (hP.updateThread h u _)))

theorem exitCurrent (c : PSPThread) (status : Word) (deletePending : Bool) : P (exitCurrent c status deletePending s) :=
  hP.updateThread h _ _

theorem rotateLevel (p : Nat) : P (s.rotateLevel p) := by
  unfold State.rotateLevel
  split
  · exact hP.sched _ {} h
  · exact h

theorem setPriority (th : PSPThread) (p : Nat) : P (s.setPriority th p) := by
  have ht : P (s.updateThread th.uid fun r => { r with priority := p }) := hP.updateThread h _ _
  unfold State.setPriority
  dsimp only
  split
  · exact hP.sched _ {} ht
  · exact ht

/-! ### The shared steps of the commands -/

theorem answer (v : Word) : Ensures P (answer v s) := .next (hP.setX h 2 v)

theorem answerOk : Ensures P (answerOk s) := hP.answer h _

theorem block (c : PSPThread) (w : Wait) (deadline : Option Nat) (cb : Bool) : Ensures P (block c w deadline cb s) :=
  .next (hP.sched _ {} (hP.updateThread h c.uid _))

theorem withFreshUid {k : Word → State → Result} (hk : ∀ u t, P t → Ensures P (k u t)) : Ensures P (withFreshUid s k) := by
  unfold Machine.withFreshUid
  split
  · exact hk _ _ (hP.issueUid h _)
  · exact .refuse _

theorem withThread (u : Word) {k : PSPThread → Result} (hk : ∀ th, Ensures P (k th)) : Ensures P (withThread u s k) := by
  refine .ite (.withCaller hk) ?_
  split
  · exact hk _
  · exact hP.answer h _

theorem withSema (u : Word) {k : Semaphore → Result} (hk : ∀ o, Ensures P (k o)) : Ensures P (withSema u s k) := by
  unfold Machine.withSema
  split
  · exact hk _
  · exact hP.answer h _

theorem withEventFlag (u : Word) {k : EventFlag → Result} (hk : ∀ o, Ensures P (k o)) : Ensures P (withEventFlag u s k) := by
  unfold Machine.withEventFlag
  split
  · exact hk _
  · exact hP.answer h _

theorem withTimeout (addr : Word) {k : Option Nat → Result} (hk : ∀ dl, Ensures P (k dl)) : Ensures P (withTimeout addr s k) := by
  refine .ite (hk none) ?_
  split
  · exact hP.raise h _ _
  · exact hk _

theorem evfReport (word : Word) (o : EventFlag) (pattern mode outAddr : Word) : Ensures P (evfReport word o pattern mode outAddr s) := by
  refine .ite (.next (hP.setEventBits h _ _)) ?_
  split
  · exact .next (hP.latchFailure _ _ _ h)
  · exact .next (hP.setEventBits (hP.storeWord h _ _) _ _)

/-! ### The commands -/

theorem cmdCreateThread (a : CommandArgs) : Ensures P (cmdCreateThread a s) := by
  refine .ite (hP.answer h _) ?_
  split
  · exact hP.answer h _
  · refine hP.withFreshUid h fun u t ht => hP.answer (hP.sched _ { threads := fun hw r hr => ?_ } ht) u
    rcases List.mem_append.1 hr with hr | hr
    · exact hw r hr
    · obtain rfl := List.mem_singleton.1 hr
      exact resetContext_wf _ _

theorem cmdStartThread (a : CommandArgs) : Ensures P (cmdStartThread a s) := by
  unfold Machine.cmdStartThread
  split
  · exact hP.answer h _
  · refine .ite (hP.answer h _) (.ite (.refuse _) (.andThen (hP.enqueueReady (hP.takeDraws _ (hP.updateThread h _ _ ?_)) _) ?_))
    · exact fun _ _ => startContext_wf _ _ _ _ _ _ _
    · exact fun t ht => hP.answerOk ht

theorem cmdDeleteThread (a : CommandArgs) : Ensures P (cmdDeleteThread a s) := by
  refine .outsideNested ?_
  split
  · exact hP.answer h _
  · exact .ite (hP.answer h _) (.ite (.refuse _) (hP.answerOk (hP.destroyThread h _)))

theorem sleepWith (cb : Bool) : Ensures P (sleepWith cb s) :=
  .outsideNested (.withCaller fun _ => .ite (hP.answerOk (hP.updateThread h _ _)) (hP.block h _ _ _ _))

theorem cmdWakeupThread (a : CommandArgs) : Ensures P (cmdWakeupThread a s) :=
  hP.withThread h _ fun _ => .ite (hP.answer h _) (hP.answerOk (hP.updateThread h _ _))

theorem delayWith (cb : Bool) (us : Word) : Ensures P (delayWith cb us s) :=
  .outsideNested (.withCaller fun _ => hP.block h _ _ _ _)

theorem cmdWaitThreadEnd (a : CommandArgs) : Ensures P (cmdWaitThreadEnd a s) :=
  .outsideNested (.withCaller fun _ => hP.withThread h _ fun _ => hP.withTimeout h _ fun _ => .ite (hP.answer h _) (hP.block h _ _ _ _))

theorem rotateTo (p : Nat) : Ensures P (rotateTo p s) := by
  refine .ite (hP.answer h _) ?_
  split
  · exact .ite (.outsideNested (hP.answerOk (hP.sched _ {} h))) (hP.answerOk (hP.rotateLevel h p))
  · exact hP.answerOk (hP.rotateLevel h p)

theorem cmdRotateThreadReadyQueue (a : CommandArgs) : Ensures P (cmdRotateThreadReadyQueue a s) :=
  .ite (.withCaller fun _ => hP.rotateTo h _) (hP.rotateTo h _)

theorem cmdChangeThreadPriority (a : CommandArgs) : Ensures P (cmdChangeThreadPriority a s) :=
  hP.withThread h _ fun _ => .ite (.withCaller fun _ => hP.answerOk (hP.setPriority h _ _))
    (.ite (hP.answer h _) (hP.answerOk (hP.setPriority h _ _)))

theorem cmdCreateSema (a : CommandArgs) : Ensures P (cmdCreateSema a s) :=
  .ite (hP.answer h _) (hP.withFreshUid h fun u _ ht => hP.answer (hP.sched _ {} ht) u)

theorem cmdDeleteSema (a : CommandArgs) : Ensures P (cmdDeleteSema a s) :=
  hP.withSema h _ fun _ => .ite (.refuse _) (hP.answerOk (hP.sched _ {} h))

theorem cmdSignalSema (a : CommandArgs) : Ensures P (cmdSignalSema a s) :=
  hP.withSema h _ fun _ => .ite (hP.answer h _) (.ite (hP.answer h _) (hP.answerOk (hP.setSemaCount h _ _)))

theorem waitSemaWith (cb : Bool) (a : CommandArgs) : Ensures P (waitSemaWith cb a s) :=
  .outsideNested (.withCaller fun _ => hP.withSema h _ fun _ => .ite (hP.answer h _) (hP.withTimeout h _ fun _ =>
    .ite (hP.answerOk (hP.setSemaCount h _ _)) (hP.block h _ _ _ _)))

theorem cmdPollSema (a : CommandArgs) : Ensures P (cmdPollSema a s) :=
  hP.withSema h _ fun _ => .ite (hP.answer h _) (.ite (hP.answerOk (hP.setSemaCount h _ _)) (hP.answer h _))

theorem cmdCreateEventFlag (a : CommandArgs) : Ensures P (cmdCreateEventFlag a s) :=
  hP.withFreshUid h fun u _ ht => hP.answer (hP.sched _ {} ht) u

theorem cmdDeleteEventFlag (a : CommandArgs) : Ensures P (cmdDeleteEventFlag a s) :=
  hP.withEventFlag h _ fun _ => .ite (.refuse _) (hP.answerOk (hP.sched _ {} h))

theorem reportThenOk (word : Word) (o : EventFlag) (pattern mode outAddr : Word) :
    Ensures P (andThen (Machine.evfReport word o pattern mode outAddr s) Machine.answerOk) :=
  (hP.evfReport h _ _ _ _ _).andThen fun _ ht => hP.answerOk ht

theorem waitEventFlagWith (cb : Bool) (a : CommandArgs) : Ensures P (waitEventFlagWith cb a s) :=
  .outsideNested (.withCaller fun _ => hP.withEventFlag h _ fun _ => .ite (hP.answer h _) (hP.withTimeout h _ fun _ =>
    .ite (hP.reportThenOk h _ _ _ _ _) (hP.block h _ _ _ _)))

theorem cmdPollEventFlag (a : CommandArgs) : Ensures P (cmdPollEventFlag a s) :=
  hP.withEventFlag h _ fun _ => .ite (hP.answer h _) (.ite (hP.reportThenOk h _ _ _ _ _) (hP.answer h _))

theorem cmdCreateCallback (a : CommandArgs) : Ensures P (cmdCreateCallback a s) :=
  .withCaller fun _ => hP.withFreshUid h fun u _ ht => hP.answer (hP.takeDraws 1 (hP.sched _ {} ht)) u

theorem cmdDeleteCallback (a : CommandArgs) : Ensures P (cmdDeleteCallback a s) := by
  unfold Machine.cmdDeleteCallback
  split
  · exact hP.answer h _
  · exact hP.answerOk (hP.sched _ {} h)

theorem cmdNotifyCallback (a : CommandArgs) : Ensures P (cmdNotifyCallback a s) := by
  unfold Machine.cmdNotifyCallback
  split
  · exact hP.answer h _
  · exact hP.answerOk (hP.sched _ {} h)

theorem cmdSetAlarm (a : CommandArgs) : Ensures P (cmdSetAlarm a s) :=
  hP.withFreshUid h fun u _ ht => hP.answer (hP.sched _ {} ht) u

theorem cmdCancelAlarm (a : CommandArgs) : Ensures P (cmdCancelAlarm a s) :=
  .ite (hP.answerOk (hP.sched _ {} h)) (hP.answer h _)

theorem cmdReleaseSubIntrHandler (a : CommandArgs) : Ensures P (cmdReleaseSubIntrHandler a s) := by
  unfold Machine.cmdReleaseSubIntrHandler
  split
  · exact hP.answer h _
  · exact hP.answerOk (hP.sched _ {} h)

theorem setSubIntr (on : Bool) (a : CommandArgs) : Ensures P (setSubIntr on a s) := by
  unfold Machine.setSubIntr
  split
  · exact hP.answer h _
  · exact hP.answerOk (hP.sched _ {} h)

/-- Every command of the scheduler (48_scheduler.md R651). -/
theorem runCommand (c : Command) (a : CommandArgs) : Ensures P (runCommand c a s) := by
  cases c with
  | createThread => exact hP.cmdCreateThread h a
  | startThread => exact hP.cmdStartThread h a
  | exitThread | exitDeleteThread => exact .outsideNested (.withCaller fun c => .next (hP.exitCurrent h c _ _))
  | deleteThread => exact hP.cmdDeleteThread h a
  | getThreadId => exact .withCaller fun c => hP.answer h c.uid
  | sleepThread | sleepThreadCB => exact hP.sleepWith h _
  | wakeupThread => exact hP.cmdWakeupThread h a
  | delayThread | delayThreadCB => exact hP.delayWith h _ _
  | waitThreadEnd => exact hP.cmdWaitThreadEnd h a
  | rotateThreadReadyQueue => exact hP.cmdRotateThreadReadyQueue h a
  | changeThreadPriority => exact hP.cmdChangeThreadPriority h a
  | createSema => exact hP.cmdCreateSema h a
  | deleteSema => exact hP.cmdDeleteSema h a
  | signalSema => exact hP.cmdSignalSema h a
  | waitSema | waitSemaCB => exact hP.waitSemaWith h _ a
  | pollSema => exact hP.cmdPollSema h a
  | createEventFlag => exact hP.cmdCreateEventFlag h a
  | setAlarm => exact hP.cmdSetAlarm h a
  | deleteEventFlag => exact hP.cmdDeleteEventFlag h a
  | setEventFlag | clearEventFlag => exact hP.withEventFlag h _ fun o => hP.answerOk (hP.setEventBits h _ _)
  | waitEventFlag | waitEventFlagCB => exact hP.waitEventFlagWith h _ a
  | pollEventFlag => exact hP.cmdPollEventFlag h a
  | createCallback => exact hP.cmdCreateCallback h a
  | deleteCallback => exact hP.cmdDeleteCallback h a
  | notifyCallback => exact hP.cmdNotifyCallback h a
  | checkCallback => exact .withCaller fun c => hP.answerOk (hP.updateThread h _ _)
  | cancelAlarm => exact hP.cmdCancelAlarm h a
  | registerSubIntrHandler | cpuResumeIntr => exact hP.answerOk (hP.sched _ {} h)
  | cpuSuspendIntr => exact hP.answer (hP.sched _ {} h) _
  | releaseSubIntrHandler => exact hP.cmdReleaseSubIntrHandler h a
  | enableSubIntr | disableSubIntr => exact hP.setSubIntr h _ a

/-! ### `syscall` -/

theorem poison : P s.poison := by
  refine hP.cpu _ (fun hw => ?_) h
  simp only [ProcessorState.wf_iff, Context.wf_iff] at hw ⊢
  simpa [registerFile, isPoisoned] using hw

/-- One action of an external handler (44_system.md R401). -/
theorem runAction (act : HandlerAction) : Ensures P (runAction act s) := by
  cases act with
  | setGpr i v => exact .next (hP.setX h i v)
  | setHi v => exact .next (hP.setHi h v)
  | setLo v => exact .next (hP.setLo h v)
  | storeByte a v => exact .next (hP.storeByte a v h)
  | command c a => exact (hP.runCommand h c a).onceOnly _
  | block id deadline => exact (Ensures.outsideNested (.withCaller fun c => hP.block h c _ _ _)).onceOnly _

theorem runActions (l : List HandlerAction) : Ensures P (runActions l s) := by
  induction l generalizing s with
  | nil => exact .next h
  | cons act rest ih => exact (hP.runAction h act).andThen fun t ht => ih ht

theorem dispatch (nid : Word) : ∀ r, dispatch nid s = some r → Ensures P r := by
  intro r hr
  unfold Machine.dispatch at hr
  dsimp only at hr
  split at hr
  · obtain rfl := Option.some.inj hr
    exact hP.runCommand h _ _
  · split at hr
    · obtain rfl := Option.some.inj hr
      exact hP.runActions h _
    · cases hr

theorem afterHandler {r : Result} (hr : Ensures P r) : Ensures P (afterHandler s r) := by
  cases r with
  | next t =>
    have ht := hr t rfl
    refine .next ?_
    split
    · exact hP.restoreCpu h ht
    · exact hP.poison (hP.setPc ht _)
  | fault e => exact .fault e
  | refused e => exact .refused e

theorem execSyscall (code : BitVec 20) : Ensures P (execSyscall code s) := by
  unfold Machine.execSyscall
  split
  · exact hP.raise h _ _
  · split
    · exact hP.raise h _ _
    · exact hP.afterHandler h (hP.dispatch h _ _ ‹_›)

end KeptByWrites

/-! ### The VFPU control registers that an instruction sets -/

/-- A short field, widened, has no bit beyond its width. -/
theorem setWidth_and_not_mask {n : Nat} (v : BitVec n) : v.setWidth 32 &&& ~~~(BitVec.allOnes n).setWidth 32 = 0#32 := by
  ext i
  by_cases hn : i < n
  · simp [hn]
  · simp [BitVec.getLsbD_of_ge v i (Nat.not_lt.1 hn)]

/-- The CC register after `vcmp` holds six bits if it did before (46_vfpu_vector.md R494). -/
theorem vcFits_ccUpdate (n : Nat) (c : Nat → Bool) {old : Word} (h : VcFits CReg.cc old) : VcFits CReg.cc (ccUpdate n c old) := by
  refine .of_mask rfl ?_
  have hold : old &&& ~~~0x0000003F#32 = 0#32 := h.masked _ rfl
  unfold ccUpdate
  dsimp only
  rw [hold, BitVec.zero_or]
  exact setWidth_and_not_mask _

theorem ProcessorState.vcFits {p : ProcessorState} (h : p.wf = true) (k : CReg) : VcFits k (p.vfpuCtrl[k.val]'k.isLt) := by
  simp only [ProcessorState.wf_iff, Context.wf_iff] at h
  obtain ⟨⟨-, hv, -⟩, -⟩ := h
  exact (vcWf_iff _).1 hv k

namespace KeptByWrites

variable {P : State → Prop} (hP : KeptByWrites P) {s : State} (h : P s)
include hP h

theorem execVcmp (vs vt : VReg) (sz : Size) (cond : BitVec 4) : Ensures P (execVcmp vs vt sz cond s) :=
  hP.done (hP.eat (hP.setVc h _ fun hw => vcFits_ccUpdate _ _ (ProcessorState.vcFits hw _)))

/-- SPFX, TPFX and DPFX take a field as wide as their mask (45_vfpu_engine.md R442 to R444). -/
theorem done_setPrefix {n : Nat} (k : CReg) (data : BitVec n) (hk : vcMask k = some ((BitVec.allOnes n).setWidth 32)) :
    Ensures P (Machine.done (s.setVc k (data.setWidth 32))) :=
  hP.done (hP.setVc h k fun _ => .of_mask hk (setWidth_and_not_mask data))

/-! ### The instructions whose end depends on their operands -/

theorem execSc (rs rt : GReg) (imm : Half) : Ensures P (execSc rs rt imm s) :=
  .ite (hP.checked h (hP.done (hP.setX (hP.storeWord h _ _) _ _)) _ _ _) (hP.writeX h _ _)

theorem execMfvc (rt : GReg) (c : BitVec 7) : Ensures P (execMfvc rt c s) := by
  unfold Machine.execMfvc
  split
  · exact hP.writeX h _ _
  · exact hP.done h

theorem execMtvc (rt : GReg) (c : BitVec 7) : Ensures P (execMtvc rt c s) := by
  unfold Machine.execMtvc
  split
  · exact hP.done (hP.writeVc h _ _)
  · exact hP.done h

theorem execVmtvc (vs : VReg) (c : BitVec 7) : Ensures P (execVmtvc vs c s) := by
  unfold Machine.execVmtvc
  split
  · exact hP.done (hP.writeVc h _ _)
  · exact hP.done h

/-! ### Every instruction -/

/-- Every instruction, by how it ends. -/
theorem exec (i : Instr) : Ensures P (exec i s) := by
  cases i with
  | add | sub | addi => exact hP.writeExact h _ _ _
  | addu | subu | addiu | slt | sltu | slti | sltiu | and | or | xor | nor | andi | ori | xori | lui | sll | srl | sra | sllv | srlv | srav
  | rotr | rotrv | clz | clo | max | min | mfhi | mflo | wsbh | wsbw | seb | seh | bitrev | mfc1 | cfc1 | mfv => exact hP.writeX h _ _
  | movz | movn => exact .ite (hP.writeX h _ _) (hP.done h)
  | ext | ins => exact .ite (.refuse _) (hP.writeX h _ _)
  | mult | multu | madd | maddu | msub | msubu => exact hP.done_setHl h _
  | div | divu => exact hP.writeLoHi h _
  | mthi => exact hP.done (hP.setHi h _)
  | mtlo => exact hP.done (hP.setLo h _)
  | beq | bne | blez | bgtz | beql | bnel | blezl | bgtzl | bltz | bgez | bltzl | bgezl | bc1f | bc1t | bc1fl | bc1tl | bvf | bvt | bvfl
  | bvtl => exact hP.relBranch h _ _ _
  | bltzal | bgezal | bltzall | bgezall => exact hP.relBranchLink h _ _ _
  | j | jr => exact hP.jump h _
  | jal | jalr => exact hP.jumpLink h _ _ _
  | syscall code => exact hP.execSyscall h code
  | brk => exact hP.raise h _ _
  | sync | cache | vnop | vsync | vflush => exact hP.done h
  | lb | lbu | lh | lhu | lw | lwl | lwr => exact hP.checked h (hP.writeX h _ _) _ _ _
  | sb => exact hP.checked h (hP.done (hP.storeByte _ _ h)) _ _ _
  | sh => exact hP.checked h (hP.done (hP.storeHalf h _ _)) _ _ _
  | sw | swl | swr | swc1 | svS => exact hP.checked h (hP.done (hP.storeWord h _ _)) _ _ _
  | ll => exact hP.checked h (hP.done (hP.setLlBit (hP.setX h _ _) _)) _ _ _
  | sc => exact hP.execSc h _ _ _
  | lwc1 => exact hP.checked h (hP.done_setF h _ _) _ _ _
  | lvS => exact hP.checked h (hP.done (hP.setVr h _ _)) _ _ _
  | lvQ => exact hP.checkedQuad h (hP.done (hP.writeVector h _ _ _)) _
  | svQ => exact hP.checkedQuad h (hP.done (hP.storeWords h _)) _
  | lvlQ | lvrQ => exact hP.checkedWords h (hP.done (hP.writeVector h _ _ _)) _
  | svlQ | svrQ => exact hP.checkedWords h (hP.done (hP.storeWords h _)) _
  | mtc1 | addS | subS | mulS | divS | sqrtS | absS | movS | negS | roundWS | truncWS | ceilWS | floorWS | cvtWS | cvtSW =>
    exact hP.done_setF h _ _
  | ctc1 => exact .ite (hP.done (hP.setFpcond (hP.setFcr31 h _) _)) (hP.done h)
  | cFS | cUnS | cEqS | cUeqS | cOltS | cUltS | cOleS | cUleS | cSfS | cNgleS | cSeqS | cNglS | cLtS | cNgeS | cLeS | cNgtS =>
    exact hP.compareFloat h _ _ _
  | mfvc => exact hP.execMfvc h _ _
  | mtv | vmfvc => exact hP.done (hP.setVr h _ _)
  | mtvc => exact hP.execMtvc h _ _
  | vmtvc => exact hP.execVmtvc h _ _
  | vadd | vsub | vdiv | vmul | vdot | vmin | vmax | vscmp | vsge | vslt | vmov | vabs | vneg | vsat0 | vsat1 | vzero | vone | vrcp | vrsq
  | vsin | vcos | vexp2 | vlog2 | vsqrt | vasin | vnrcp | vnsin | vrexp2 | vocp | vfad | vavg | vsgn | vcst | vi2f | viimS | vfimS | vcrspT
  | vqmulQ => exact hP.vectorEnd h _ _ _ _ _
  | vsbn | vscl | vhdp | vcrsT | vdetP | vidt | vh2f | vsrt1 | vsrt2 | vsrt3 | vsrt4 | vbfy1 | vbfy2 | vsocp | vrot =>
    exact (hP.vectorEnd h _ _ _ _ _).sized
  | vrndi | vrndf1 | vrndf2 => exact hP.vectorEnd (hP.drawRcx h) _ _ _ _ _
  | vrnds => exact (hP.done (hP.eat (hP.drawRcx h))).sized
  | vf2in | vf2iz | vf2iu | vf2id => exact hP.vectorEndMasked h _ _ _
  | vf2h | vuc2i | vc2i | vus2i | vs2i | vi2uc | vi2c | vi2us | vi2s | vt4444 | vt5551 | vt5650 => exact (hP.vectorEndMasked h _ _ _).sized
  | vcmovt | vcmovf => exact hP.condMove h _ _ _ _ _ _
  | vcmp => exact hP.execVcmp h _ _ _ _
  | vsbz | vlgb | vwbn => exact .refuse _
  | vpfxs | vpfxt | vpfxd => exact hP.done_setPrefix h _ _ rfl
  | vmmul | vmscl | vmmov | vmidt | vmzero | vmone => exact (hP.matrixEnd h _ _ _).matrixOp
  | vtfm2P | vhtfm2P | vtfm3T | vhtfm3T | vtfm4Q | vhtfm4Q => exact hP.transform h _ _ _ _

/-! ### Fetch and execution -/

theorem settle (slot : Bool) (target : Word) : P (settle slot target s) := by
  have zeroed : P s.zeroX0 := by
    refine hP.cpu _ (fun hw => ?_) h
    simp only [ProcessorState.wf_iff, Context.wf_iff] at hw ⊢
    obtain ⟨⟨-, hc⟩, hp⟩ := hw
    exact ⟨⟨by simp, hc⟩, hp⟩
  unfold Machine.settle
  dsimp only
  split
  · exact hP.resolveSlot (hP.takeDraws _ zeroed) _
  · exact hP.takeDraws _ zeroed

theorem executeInstr (i : Instr) : Ensures P (executeInstr i s) := by
  have hi := hP.exec h i
  unfold Machine.executeInstr
  split
  · have ht := hi _ ‹_›
    split
    · exact .next ht
    · exact .next (hP.settle ht _ _)
  · exact .fault _
  · exact .refused _

theorem executeWord (w : Word) : Ensures P (executeWord w s) := by
  unfold Machine.executeWord
  dsimp only
  split
  · exact hP.executeInstr (hP.setIr w h) _
  · exact hP.raise (hP.setIr w h) _ _

/-- Every guest instruction, fetched and executed, keeps what all its writes keep. -/
theorem fetchAndExecute : Ensures P (fetchAndExecute s) := by
  have ht := hP.setIr 0#32 h
  unfold Machine.fetchAndExecute
  dsimp only
  split
  · exact hP.raise ht _ _
  · split
    · exact hP.executeWord ht _
    · exact hP.raise ht _ _

end KeptByWrites

/-! ### The registers of every thread -/

/-- Well-formed registers are kept by every write of an instruction. -/
theorem keptByWrites_regsWf : KeptByWrites RegsWf where
  cpu c hc h := by
    rw [regsWf_iff] at h ⊢
    exact ⟨hc h.1, h.2⟩
  restoreCpu hs ht := by
    rw [regsWf_iff] at hs ht ⊢
    exact ⟨hs.1, ht.2⟩
  sched q hq h := by
    rw [regsWf_iff] at h ⊢
    obtain ⟨hc, hn, ht⟩ := h
    exact ⟨hc, hq.nested ▸ hn, hq.threads ht⟩
  storeByte a b h := by
    rw [regsWf_iff] at h ⊢
    simpa using h
  latchFailure c word addr h := by
    unfold State.latchFailure
    split <;> exact h
  takeDraws n h := h
  setIr w h := h

section
variable {s : State} (h : RegsWf s)
include h

theorem State.setPhase_regsWf (p : Phase) : RegsWf (s.setPhase p) := h

/-! ### Contexts that change hands -/

theorem State.thread?_ctx_wf {u : Word} {th : PSPThread} (hu : s.thread? u = some th) : th.ctx.wf = true := by
  obtain ⟨-, -, ht⟩ := (regsWf_iff s).1 h
  exact ht th (State.thread?_mem hu)

/-- Step 2 (48_scheduler.md R633): a saved Context becomes live, with no transfer pending. -/
theorem State.loadThread_regsWf {th : PSPThread} (hth : th.ctx.wf = true) : RegsWf (s.loadThread th) := by
  obtain ⟨-, rest⟩ := (regsWf_iff _).1 (keptByWrites_regsWf.updateThread h th.uid fun r => { r with status := .running })
  exact (regsWf_iff _).2 ⟨(ProcessorState.wf_iff _).2 ⟨hth, nofun⟩, rest⟩

/-- Step 7 (48_scheduler.md R639): the live Context is saved. -/
theorem State.saveThread_regsWf (u : Word) : RegsWf (s.saveThread u) := by
  obtain ⟨hcpu, -, -⟩ := (regsWf_iff s).1 h
  obtain ⟨hc, -⟩ := (ProcessorState.wf_iff _).1 hcpu
  exact keptByWrites_regsWf.updateThread h u (fun r => { r with ctx := s.cpu.toContext }) fun _ _ => hc

/-- `setResult` writes `x[2]`, live or saved (48_scheduler.md R626). -/
theorem State.setResult_regsWf (u v : Word) : RegsWf (s.setResult u v) := by
  unfold State.setResult
  split
  · exact keptByWrites_regsWf.setX h _ _
  · refine keptByWrites_regsWf.updateThread h _ _ fun t ht => ?_
    rw [Context.wf_iff] at ht ⊢
    simpa using ht

/-- The entry of a handler saves the live ProcessorState and leaves no transfer pending (48_scheduler.md R637). -/
theorem State.enterHandler_regsWf (handler a0 a1 a2 : Word) : RegsWf (s.enterHandler handler a0 a1 a2) := by
  have hK := keptByWrites_regsWf
  obtain ⟨saved, -, -⟩ := (regsWf_iff s).1 h
  obtain ⟨entered, -, threads⟩ := (regsWf_iff _).1 (hK.resolveSlot (hK.setX (hK.setX (hK.setX (hK.setX (hK.poison h) 4 a0) 5 a1) 6 a2) 31
    s.cfg.handlerReturnAddr) handler)
  exact (regsWf_iff _).2 ⟨entered, fun p hp => Option.some.inj hp ▸ saved, threads⟩

/-- The return from a handler restores the ProcessorState that its entry saved (48_scheduler.md R637). -/
theorem State.leaveHandler_regsWf {saved : ProcessorState} (hn : s.sched.nested = some saved) :
    RegsWf (s.leaveHandler saved) := by
  obtain ⟨-, hsaved, ht⟩ := (regsWf_iff s).1 h
  exact (regsWf_iff _).2 ⟨hsaved saved hn, nofun, ht⟩

/-! ### The phases of the scheduler -/

theorem beginCall_regsWf : RegsWf (beginCall s) := by
  unfold beginCall
  split <;> exact h

theorem frameStep_regsWf : RegsWf (frameStep s) := by
  unfold frameStep
  dsimp only
  split
  · exact h
  · split
    · rename_i th hth
      refine State.setPhase_regsWf (State.loadThread_regsWf h ?_) .run
      unfold State.selectReady at hth
      split at hth
      · exact State.thread?_ctx_wf h hth
      · cases hth
    · exact h

theorem endRunLoop_regsWf : RegsWf (endRunLoop s) := by
  unfold endRunLoop
  dsimp only
  split <;> exact h

theorem runStep_regsWf : Ensures RegsWf (runStep s) := by
  unfold runStep
  split
  · exact (keptByWrites_regsWf.fetchAndExecute h).accounted fun _ ht => ht
  · split
    · exact .next (endRunLoop_regsWf h)
    · split
      · split
        · exact .next (endRunLoop_regsWf (keptByWrites_regsWf.exitCurrent h _ _ _))
        · exact .next (endRunLoop_regsWf h)
      · exact (keptByWrites_regsWf.fetchAndExecute h).accounted fun _ ht => ht

theorem afterNested_regsWf : RegsWf (afterNested s) := by
  unfold afterNested
  split <;> exact h

theorem nestedStep_regsWf {saved : ProcessorState} (hn : s.sched.nested = some saved) :
    Ensures RegsWf (nestedStep saved s) := by
  unfold nestedStep
  split
  · exact .next (afterNested_regsWf (State.leaveHandler_regsWf h hn))
  · split
    · exact .refuse _
    · exact (keptByWrites_regsWf.fetchAndExecute h).accounted fun _ ht => ht

theorem endCallbacks_regsWf : RegsWf (endCallbacks s) := by
  have cleared : ∀ c : PSPThread, RegsWf (s.updateThread c.uid fun r => { r with callbackPending := false }) :=
    fun c => keptByWrites_regsWf.updateThread h _ _
  unfold endCallbacks
  split
  · split
    · exact h
    · exact cleared _
  · exact h

theorem callbackStep_regsWf (todo : List Word) : RegsWf (callbackStep todo s) := by
  unfold callbackStep
  split
  · exact endCallbacks_regsWf h
  · split
    · exact State.enterHandler_regsWf h _ _ _ _
    · exact h

theorem interruptStep_regsWf (left : Nat) : RegsWf (interruptStep left s) := by
  unfold interruptStep
  split
  · rename_i n e rest _
    split
    · have popped : RegsWf { s with sched := { s.sched with pendingIntr := rest, phase := .interrupts n } } := h
      dsimp only
      split
      · split
        · split
          · exact State.enterHandler_regsWf popped _ _ _ _
          · exact popped
        · exact popped
      · exact State.enterHandler_regsWf popped _ _ _ _
    · exact h
  · exact h

theorem waitEffect_regsWf (th : PSPThread) : Ensures RegsWf (waitEffect th s) := by
  unfold waitEffect
  cases th.wait with
  | sleep => exact .next (keptByWrites_regsWf.updateThread h _ _)
  | sema u need =>
    dsimp only
    split <;> exact .next h
  | eventFlag u pattern mode outAddr =>
    dsimp only
    split
    · exact keptByWrites_regsWf.evfReport h _ _ _ _ _
    · exact .next h
  | none | delay | threadEnd | external => exact .next h

theorem release_regsWf (u : Word) : Ensures RegsWf (release u s) := by
  have ht : RegsWf (s.updateThread u fun r => { r with callbackPending := false, wait := .none, deadline := none }) :=
    keptByWrites_regsWf.updateThread h _ _
  unfold release
  dsimp only
  refine keptByWrites_regsWf.enqueueReady ?_ u
  exact ht

theorem reevaluateOne_regsWf (u : Word) : Ensures RegsWf (reevaluateOne u s) := by
  unfold reevaluateOne
  split
  · exact .next h
  · split
    · exact (waitEffect_regsWf h _).andThen fun t ht => release_regsWf (State.setResult_regsWf ht _ _) _
    · split
      · exact release_regsWf (State.setResult_regsWf h _ _) _
      · exact .next h

theorem reevaluateAll_regsWf (l : List Word) : Ensures RegsWf (reevaluateAll l s) := by
  induction l generalizing s with
  | nil => exact .next h
  | cons u rest ih => exact (reevaluateOne_regsWf h u).andThen fun t ht => ih ht

theorem reevaluateStep_regsWf : Ensures RegsWf (reevaluateStep s) :=
  (reevaluateAll_regsWf h _).andThen fun _ ht => .next ht

theorem requeueOrDelete_regsWf (u : Word) : Ensures RegsWf (requeueOrDelete u s) := by
  unfold requeueOrDelete
  split
  · split
    · exact keptByWrites_regsWf.enqueueReady h u
    · split
      · exact .next (keptByWrites_regsWf.destroyThread h u)
      · exact .next h
  · exact .next h

theorem State.displayStep_regsWf : RegsWf s.displayStep := by
  unfold State.displayStep
  split
  · exact h
  · exact List.foldlRecOn (motive := RegsWf) _ _ h fun t ht c _ => keptByWrites_regsWf.storeByte c.1 c.2 ht

theorem finishStep_regsWf : Ensures RegsWf (finishStep s) := by
  have toFrame : ∀ t, RegsWf t → Ensures RegsWf (.next (t.creditIdle.displayStep.setPhase .frame)) :=
    fun t ht => .next (State.displayStep_regsWf (s := t.creditIdle) ht)
  unfold finishStep
  dsimp only
  split
  · exact (requeueOrDelete_regsWf (State.saveThread_regsWf h _) _).andThen toFrame
  · exact (Ensures.next h).andThen toFrame

theorem phaseStep_regsWf : Ensures RegsWf (phaseStep s) := by
  unfold phaseStep
  cases s.sched.phase with
  | host => exact .next (beginCall_regsWf h)
  | frame => exact .next (frameStep_regsWf h)
  | run => exact runStep_regsWf h
  | callbacks todo => exact .next (callbackStep_regsWf h todo)
  | interrupts left => exact .next (interruptStep_regsWf h left)
  | reevaluate => exact reevaluateStep_regsWf h
  | finish => exact finishStep_regsWf h

theorem liveStep_regsWf : Ensures RegsWf (liveStep s) := by
  unfold liveStep
  split
  · exact nestedStep_regsWf h ‹_›
  · exact phaseStep_regsWf h

end

/-- Settles O50: a step is one instruction, whose writes keep well-formed registers (`keptByWrites_regsWf`), or an action of the scheduler,
which saves, loads and restores whole register files. -/
theorem stepKeepsRegistersWellFormed : Obligations.StepKeepsRegistersWellFormed := by
  unfold Obligations.StepKeepsRegistersWellFormed
  intro s t h hst
  unfold step at hst
  split at hst
  · cases hst
  · cases hst
  · exact liveStep_regsWf h t hst

end Sys2Proof.Machine
end

section
/-! PROOF. The canonical memory (20_memory.md R83, R91, R98): memory changes by stores of bytes alone, which keep it canonical and inside the
windows, and no step changes the parameters. -/

namespace Sys2Proof.Machine

open Sys2Proof

/-! ### The scheduler's actions that are made of the writes of an instruction -/

namespace KeptByWrites

variable {P : State → Prop} (hP : KeptByWrites P) {s : State} (h : P s)
include hP h

/-- `setResult` writes `x[2]`, live or saved (48_scheduler.md R626). -/
theorem setResult (u v : Word) : P (s.setResult u v) := by
  unfold State.setResult
  split
  · exact hP.setX h _ _
  · refine hP.updateThread h _ _ fun t ht => ?_
    rw [Context.wf_iff] at ht ⊢
    simpa using ht

theorem waitEffect (th : PSPThread) : Ensures P (waitEffect th s) := by
  unfold Machine.waitEffect
  cases th.wait with
  | sleep => exact .next (hP.updateThread h _ _)
  | sema u need =>
    dsimp only
    split
    · exact .next (hP.setSemaCount h _ _)
    · exact .next h
  | eventFlag u pattern mode outAddr =>
    dsimp only
    split
    · exact hP.evfReport h _ _ _ _ _
    · exact .next h
  | none | delay | threadEnd | external => exact .next h

theorem release (u : Word) : Ensures P (release u s) :=
  hP.enqueueReady (hP.sched _ {} (hP.updateThread h u _)) u

theorem reevaluateOne (u : Word) : Ensures P (reevaluateOne u s) := by
  unfold Machine.reevaluateOne
  split
  · exact .next h
  · exact .ite ((hP.waitEffect h _).andThen fun t ht => hP.release (hP.setResult ht _ _) u)
      (.ite (hP.release (hP.setResult h _ _) u) (.next h))

theorem reevaluateAll (l : List Word) : Ensures P (reevaluateAll l s) := by
  induction l generalizing s with
  | nil => exact .next h
  | cons u rest ih => exact (hP.reevaluateOne h u).andThen fun t ht => ih ht

theorem requeueOrDelete (u : Word) : Ensures P (requeueOrDelete u s) := by
  unfold Machine.requeueOrDelete
  split
  · exact .ite (hP.enqueueReady h u) (.ite (.next (hP.destroyThread h u)) (.next h))
  · exact .next h

/-- The display list writes bytes, or nothing (48_scheduler.md R629). -/
theorem displayStep : P s.displayStep := by
  unfold State.displayStep
  split
  · exact h
  · exact hP.takeDraws 1 (List.foldlRecOn _ _ h fun t ht c _ => hP.storeByte c.1 c.2 ht)

end KeptByWrites

/-! ### Canonical memory under fixed parameters -/

/-- Memory is canonical and inside the windows, and the parameters are `p`. -/
structure MemCanonical (p : Params) (s : State) : Prop where
  memWf : s.memWf = true
  cfg : s.cfg = p

/-- Only memory and the parameters count. -/
theorem MemCanonical.congr {p : Params} {s t : State} (h : MemCanonical p s) (hm : t.mem = s.mem := by rfl) (hc : t.cfg = s.cfg := by rfl) :
    MemCanonical p t :=
  ⟨by simpa only [State.memWf, hm, hc] using h.memWf, hc.trans h.cfg⟩

/-- Of the writes of an instruction only a stored byte changes memory (20_memory.md R91). -/
theorem keptByWrites_memCanonical (p : Params) : KeptByWrites (MemCanonical p) where
  cpu _ _ h := h.congr
  restoreCpu _ ht := ht.congr
  sched _ _ h := h.congr
  storeByte a b h := ⟨State.storeByte_memWf _ a b h.memWf, by simpa using h.cfg⟩
  latchFailure _ _ _ h := by
    unfold State.latchFailure
    split
    · exact h
    · exact h.congr
  takeDraws _ h := h.congr
  setIr _ h := h.congr

section
variable {p : Params} {s : State} (h : MemCanonical p s)
include h

theorem State.enterHandler_memCanonical (handler a0 a1 a2 : Word) : MemCanonical p (s.enterHandler handler a0 a1 a2) := by
  have hK := keptByWrites_memCanonical p
  exact (hK.resolveSlot (hK.setX (hK.setX (hK.setX (hK.setX (hK.poison h) 4 a0) 5 a1) 6 a2) 31 s.cfg.handlerReturnAddr) handler).congr

/-- An instruction with its accounting, of the run loop or of a nested run (48_scheduler.md R641). -/
theorem accounted_memCanonical {count : State → State} (hm : ∀ t, (count t).mem = t.mem := by exact fun _ => rfl)
    (hc : ∀ t, (count t).cfg = t.cfg := by exact fun _ => rfl) : Ensures (MemCanonical p) (accounted count (fetchAndExecute s)) :=
  ((keptByWrites_memCanonical p).fetchAndExecute h).accounted fun t ht => ht.congr (hm t) (hc t)

/-! ### The phases of the scheduler -/

theorem beginCall_memCanonical : MemCanonical p (beginCall s) := by
  unfold beginCall
  split <;> exact h.congr

theorem frameStep_memCanonical : MemCanonical p (frameStep s) := by
  unfold frameStep
  dsimp only
  split
  · exact h.congr
  · split <;> exact h.congr

theorem endRunLoop_memCanonical : MemCanonical p (endRunLoop s) := by
  unfold endRunLoop
  dsimp only
  split <;> exact h.congr

theorem runStep_memCanonical : Ensures (MemCanonical p) (runStep s) := by
  unfold runStep
  refine .ite (accounted_memCanonical h) (.ite (.next (endRunLoop_memCanonical h)) (.ite ?_ (accounted_memCanonical h)))
  split
  · exact .next (endRunLoop_memCanonical ((keptByWrites_memCanonical p).exitCurrent h _ _ _))
  · exact .next (endRunLoop_memCanonical h)

theorem afterNested_memCanonical : MemCanonical p (afterNested s) := by
  unfold afterNested
  split
  · exact h.congr
  · exact h

theorem nestedStep_memCanonical (saved : ProcessorState) : Ensures (MemCanonical p) (nestedStep saved s) :=
  .ite (.next (afterNested_memCanonical (s := s.leaveHandler saved) h.congr)) (.ite (.refuse _) (accounted_memCanonical h))

theorem endCallbacks_memCanonical : MemCanonical p (endCallbacks s) := by
  unfold endCallbacks
  split
  · split <;> exact h.congr
  · exact h.congr

theorem callbackStep_memCanonical (todo : List Word) : MemCanonical p (callbackStep todo s) := by
  unfold callbackStep
  split
  · exact endCallbacks_memCanonical h
  · split
    · exact State.enterHandler_memCanonical h _ _ _ _
    · exact h.congr

theorem interruptStep_memCanonical (left : Nat) : MemCanonical p (interruptStep left s) := by
  unfold interruptStep
  split
  · rename_i n e rest _
    split
    · have popped : MemCanonical p { s with sched := { s.sched with pendingIntr := rest, phase := .interrupts n } } := h.congr
      dsimp only
      split
      · split
        · split
          · exact State.enterHandler_memCanonical popped _ _ _ _
          · exact popped
        · exact popped
      · exact State.enterHandler_memCanonical popped _ _ _ _
    · exact h.congr
  · exact h.congr

theorem reevaluateStep_memCanonical : Ensures (MemCanonical p) (reevaluateStep s) :=
  ((keptByWrites_memCanonical p).reevaluateAll h _).andThen fun _ ht => .next ht.congr

theorem finishStep_memCanonical : Ensures (MemCanonical p) (finishStep s) := by
  have hK := keptByWrites_memCanonical p
  have toFrame : ∀ t, MemCanonical p t → Ensures (MemCanonical p) (.next (t.creditIdle.displayStep.setPhase .frame)) :=
    fun t ht => .next (hK.displayStep (s := t.creditIdle) ht.congr).congr
  unfold finishStep
  dsimp only
  split
  · exact (hK.requeueOrDelete (s := s.saveThread _) h.congr _).andThen toFrame
  · exact (Ensures.next h).andThen toFrame

theorem phaseStep_memCanonical : Ensures (MemCanonical p) (phaseStep s) := by
  unfold phaseStep
  cases s.sched.phase with
  | host => exact .next (beginCall_memCanonical h)
  | frame => exact .next (frameStep_memCanonical h)
  | run => exact runStep_memCanonical h
  | callbacks todo => exact .next (callbackStep_memCanonical h todo)
  | interrupts left => exact .next (interruptStep_memCanonical h left)
  | reevaluate => exact reevaluateStep_memCanonical h
  | finish => exact finishStep_memCanonical h

theorem liveStep_memCanonical : Ensures (MemCanonical p) (liveStep s) := by
  unfold liveStep
  split
  · exact nestedStep_memCanonical h _
  · exact phaseStep_memCanonical h

theorem step_memCanonical : Ensures (MemCanonical p) (step s) := by
  unfold step
  split
  · exact .fault _
  · exact .refused _
  · exact liveStep_memCanonical h

end

/-- Settles O49: memory changes by stores of bytes alone, of an instruction, a command or the display list (`keptByWrites_memCanonical`), and
each keeps the canonical form. -/
theorem stepKeepsMemoryCanonical : Obligations.StepKeepsMemoryCanonical := by
  unfold Obligations.StepKeepsMemoryCanonical
  intro s t h hst
  obtain ⟨hmem, hcfg⟩ := step_memCanonical ⟨h, rfl⟩ t hst
  exact ⟨hmem, hcfg⟩

end Sys2Proof.Machine
end

section
/-! PROOF. Reading back what was stored (20_memory.md R82, R98): the two aliases of a byte, and the stored word by its bytes. -/

namespace Sys2Proof.Machine

open Sys2Proof

/-! ### The mirror (20_memory.md R82) -/

theorem windowContains_iff {w : Window} {a : Nat} : windowContains w a = true ↔ w.base ≤ a ∧ a < w.base + w.size := by
  simp [windowContains]

/-- Well-formed parameters keep every window below the mirror offset [log 44]. -/
theorem Params.lt_mirror_of_wf {p : Params} (h : p.wf = true) {w : Window} (hw : w ∈ p.windows) {a : Nat} (ha : windowContains w a = true) :
    a < Config.uncachedMirror := by
  simp only [Params.wf, Bool.and_eq_true, List.all_eq_true, decide_eq_true_eq] at h
  obtain ⟨⟨⟨⟨⟨⟨⟨⟨hwin, -⟩, -⟩, -⟩, -⟩, -⟩, -⟩, -⟩, -⟩ := h
  have hend := (hwin w hw).1
  have hin := (windowContains_iff.1 ha).2
  omega

theorem exists_window_of_any {p : Params} {a : Nat} (ha : (p.windows.any fun w => windowContains w a) = true) :
    ∃ w, p.windows.find? (fun w => windowContains w a) = some w ∧ w ∈ p.windows ∧ windowContains w a = true := by
  obtain ⟨w, hw⟩ := Option.isSome_iff_exists.1 (List.find?_isSome.2 (List.any_eq_true.1 ha))
  exact ⟨w, hw, List.mem_of_find?_eq_some hw, by simpa using List.find?_some hw⟩

theorem toNat_mirror {a : Word} (h : a.toNat < Config.uncachedMirror) : (a + 0x40000000#32).toNat = a.toNat + Config.uncachedMirror := by
  have hoffset : (0x40000000#32 : Word).toNat = Config.uncachedMirror := by decide
  have hfits : a.toNat + Config.uncachedMirror < 2 ^ 32 := by
    unfold Config.uncachedMirror at h ⊢
    omega
  rw [BitVec.toNat_add, hoffset, Nat.mod_eq_of_lt hfits]

/-- The mirror of an address in a window names that address. -/
theorem byteKey_mirror {p : Params} (h : p.wf = true) {a : Word} (ha : (p.windows.any fun w => windowContains w a.toNat) = true) :
    byteKey p (a + 0x40000000#32) = byteKey p a := by
  obtain ⟨w, hfind, hw, hwa⟩ := exists_window_of_any ha
  have hlt : a.toNat < Config.uncachedMirror := Params.lt_mirror_of_wf h hw hwa
  have hsum := toNat_mirror hlt
  have outside : p.windows.find? (fun w => windowContains w (a.toNat + Config.uncachedMirror)) = none :=
    List.find?_eq_none.2 fun v hv hc => by
      have := Params.lt_mirror_of_wf h hv hc
      omega
  simp [byteKey, resolve, hsum, outside, hfind]

/-- What an access of a byte does depends on the address by its key alone. -/
theorem State.loadByte_congr_key {s : State} {a b : Word} (h : byteKey s.cfg a = byteKey s.cfg b) : s.loadByte a = s.loadByte b := by
  simp [State.loadByte, h]

theorem State.storeByte_congr_key {s : State} {a b : Word} (h : byteKey s.cfg a = byteKey s.cfg b) (v : Byte) :
    s.storeByte a v = s.storeByte b v := by
  simp [State.storeByte, h]

/-- Two addresses that name one byte are equal, or one is the mirror of the other. -/
theorem eq_or_mirror_of_byteKey_eq {p : Params} {a b : Word} (ha : byteKey p a ≠ none) (h : byteKey p b = byteKey p a) :
    b = a ∨ b = a + 0x40000000#32 ∨ a = b + 0x40000000#32 := by
  obtain ⟨k, hk⟩ := Option.ne_none_iff_exists'.1 ha
  have ca := byteKey_cases hk
  have cb := byteKey_cases (h.trans hk)
  simp only [Config.uncachedMirror] at ca cb
  bv_omega

/-! ### A stored word by its parts -/

/-- The low byte. -/
theorem State.storeWord_loadByte_low (s : State) (a v : Word) (h : s.mem.wf = true) (hacc : Accessible s a 4 4) :
    (s.storeWord a v).loadByte a = v.extractLsb' 0 8 := by
  simpa using State.storeWord_loadByte_self s a v h hacc 0 (by decide)

/-- The high half. -/
theorem State.storeWord_loadHalf_high (s : State) (a v : Word) (h : s.mem.wf = true) (hacc : Accessible s a 4 4) :
    (s.storeWord a v).loadHalf (a + 2#32) = v.extractLsb' 16 16 := by
  have byte := State.storeWord_loadByte_self s a v h hacc
  have hadd : a + 2#32 + 1#32 = a + 3#32 := by rw [BitVec.add_assoc]; rfl
  rw [State.loadHalf, hadd, byte 2 (by decide), byte 3 (by decide)]
  apply BitVec.eq_of_getLsbD_eq
  intro i hi
  rw [BitVec.getLsbD_append]
  interval_cases i <;> simp

/-- Settles O1: the mirror of a byte has the byte's own key (`byteKey_mirror`), and the bytes of one access have different keys
(`byteKey_ne`), so that each reads back as it was stored. -/
theorem storeThenLoad : Obligations.StoreThenLoad := by
  unfold Obligations.StoreThenLoad
  intro s a h
  refine ⟨fun hwf ha => ?_, fun b => eq_or_mirror_of_byteKey_eq, fun v => State.storeByte_loadByte_self s a v h,
    fun v => State.storeHalf_loadHalf s a v h, fun v hacc => ?_, fun v b => State.storeByte_loadByte_of_outside s a b v h,
    fun v b => State.storeHalf_loadByte_of_outside s a b v h, fun v b => State.storeWord_loadByte_of_outside s a b v h⟩
  · have hkey := byteKey_mirror hwf ha
    exact ⟨State.loadByte_congr_key hkey, State.storeByte_congr_key hkey⟩
  · exact ⟨State.storeWord_loadWord s a v h hacc, State.storeWord_loadByte_low s a v h hacc, State.storeWord_loadHalf_high s a v h hacc⟩

end Sys2Proof.Machine
end

section
/-! PROOF. The step that runs an instruction (20_memory.md R95, 48_scheduler.md R634, R637, R641): where the next step is an instruction, it
is the fetch and the execution of one, accounted. -/

namespace Sys2Proof.Machine

open Sys2Proof

/-- The accounting of an instruction step: of a nested run if there is one, else of the run loop (48_scheduler.md R641). -/
def State.accounting (s : State) : State → State := if s.sched.nested.isSome then State.accountNested else State.account

/-- Accounting changes the scheduler alone. -/
theorem State.accounting_frame (s t : State) :
    (s.accounting t).cpu = t.cpu ∧ (s.accounting t).mem = t.mem ∧ (s.accounting t).failure = t.failure := by
  unfold State.accounting
  split <;> exact ⟨rfl, rfl, rfl⟩

theorem safe_of_runsNext {s : State} (h : s.runsNext = true) : s.failure = none ∧ s.refused = none := by
  simp only [State.runsNext, Bool.and_eq_true, Option.isNone_iff_eq_none] at h
  exact h.1

/-- A live step goes on with the machine where its scheduler stands. -/
theorem step_eq_liveStep {s : State} (hf : s.failure = none) (hr : s.refused = none) : step s = liveStep s := by
  simp [step, hf, hr]

theorem step_of_runsNext {s : State} (h : s.runsNext = true) : step s = accounted s.accounting (fetchAndExecute s) := by
  obtain ⟨hf, hr⟩ := safe_of_runsNext h
  rw [step_eq_liveStep hf hr]
  cases hn : s.sched.nested with
  | some saved =>
    obtain ⟨hexit, hret⟩ : s.cpu.pc ≠ s.cfg.threadExitAddr ∧ (s.pending = true ∨ s.cpu.pc ≠ s.cfg.handlerReturnAddr) := by
      simpa [State.runsNext, hf, hr, hn] using h
    have hstay : ¬ (s.cpu.pc = s.cfg.handlerReturnAddr ∧ s.pending = false) := by
      rintro ⟨hpc, hp⟩
      simp [hpc, hp] at hret
    simp [liveStep, hn, nestedStep, hstay, hexit, State.accounting]
  | none =>
    obtain ⟨hphase, hgo⟩ : s.sched.phase = .run ∧ (s.pending = true ∨ s.quantumOver = false ∧ s.cpu.pc ≠ s.cfg.threadExitAddr) := by
      simpa [State.runsNext, hf, hr, hn] using h
    rcases hgo with hp | ⟨hq, hexit⟩
    · simp [liveStep, hn, phaseStep, hphase, runStep, hp, State.accounting]
    · simp [liveStep, hn, phaseStep, hphase, runStep, hq, hexit, State.accounting]

/-! ### The fetch -/

section
variable {s : State}

theorem fetchAndExecute_misaligned (h : s.cpu.pc.toNat % 4 ≠ 0) :
    fetchAndExecute s = raise .fetchAlign s.cpu.pc { s with ir := 0#32 } := by
  simp [fetchAndExecute, h]

theorem fetchAndExecute_unresolved (h : s.cpu.pc.toNat % 4 = 0) (hr : bytesResolve s.cfg s.cpu.pc 4 = false) :
    fetchAndExecute s = raise .fetchAddress s.cpu.pc { s with ir := 0#32 } := by
  simp [fetchAndExecute, h, hr]

/-- The word at a pc that is aligned and resolves is decoded, with the word in `ir`. -/
theorem fetchAndExecute_word (h : s.cpu.pc.toNat % 4 = 0) (hr : bytesResolve s.cfg s.cpu.pc 4 = true) :
    fetchAndExecute s = executeWord (s.loadWord s.cpu.pc) s := by
  simp [fetchAndExecute, h, hr, executeWord]

theorem executeWord_ok {w : Word} {i : Instr} (h : decode w = .ok i) : executeWord w s = executeInstr i { s with ir := w } := by
  simp [executeWord, h]

theorem executeWord_error {w : Word} {e : DecodeError} (h : decode w = .error e) :
    executeWord w s = raise (DecodeError.cause e) 0#32 { s with ir := w } := by
  simp [executeWord, h]

/-- A step whose fetch raises a fatal failure sets the latch; registers and memory stay as they are. -/
theorem step_of_fetch_raise {c : FatalCause} {addr w : Word} (h : s.runsNext = true)
    (hraise : fetchAndExecute s = raise c addr { s with ir := w }) :
    ∃ t, step s = .next t ∧ t.failure = some ⟨c, s.cpu.pc, w, addr⟩ ∧ t.cpu = s.cpu ∧ t.mem = s.mem := by
  obtain ⟨hf, -⟩ := safe_of_runsNext h
  rw [step_of_runsNext h, hraise, raise_spec c addr { s with ir := w } hf]
  obtain ⟨hcpu, hmem, hfail⟩ := s.accounting_frame { s with ir := w, failure := some ⟨c, s.cpu.pc, w, addr⟩ }
  exact ⟨_, rfl, hfail, hcpu, hmem⟩

end

/-- Settles O16: each failure is raised at the fetch (`step_of_fetch_raise`). -/
theorem fetchFailures : Obligations.FetchFailures := by
  unfold Obligations.FetchFailures
  intro s h
  refine ⟨fun hmis => ?_, fun hal hunres => ?_, fun hal hres e hdec => ?_⟩
  · exact step_of_fetch_raise h (fetchAndExecute_misaligned hmis)
  · exact step_of_fetch_raise h (fetchAndExecute_unresolved hal hunres)
  · exact step_of_fetch_raise h ((fetchAndExecute_word hal hres).trans (executeWord_error hdec))

/-- Settles O15: the step is the accounted execution of the word at the pc (`step_of_runsNext`). -/
theorem stepRunsDecodedInstruction : Obligations.StepRunsDecodedInstruction := by
  unfold Obligations.StepRunsDecodedInstruction
  intro s i h hal hres hdec count hcount
  have hstep : step s = accounted count (executeInstr i { s with ir := s.loadWord s.cpu.pc }) := by
    rw [step_of_runsNext h, fetchAndExecute_word hal hres, executeWord_ok hdec, hcount, State.accounting]
  rw [hstep, executeInstr]
  refine ⟨fun t hex hf => ?_, fun t hex hf => ?_, fun r hex => ?_⟩
  · simp [hex, hf, accounted, State.pending]
  · simp [hex, hf, accounted]
  · simp [hex, accounted]

end Sys2Proof.Machine
end

section
/-! PROOF. Faults of loads and stores (20_memory.md R90, R93, R94): a failing access sets the latch with its cause and its own address, and
changes nothing else; the words of a quad transfer are checked in order. -/

namespace Sys2Proof.Machine

open Sys2Proof

section
variable {s : State} (hf : s.failure = none)
include hf

/-! ### One access -/

theorem checked_fatalOnly {a : Word} {n al : Nat} (r : Result) {c : FatalCause} (h : accessFault s.cfg a n al = some c) :
    ∃ t, checked a n al s r = .next t ∧ FatalOnly c a s t := by
  rw [checked_fault r h]
  exact raise_fatalOnly c a s hf

/-- The two faults of an access of `n` bytes, each under its own condition. -/
theorem checked_faults (a : Word) (n al : Nat) (r : Result) :
    (a.toNat % al ≠ 0 → ∃ t, checked a n al s r = .next t ∧ FatalOnly .misalignedData a s t) ∧
    (a.toNat % al = 0 → bytesResolve s.cfg a n = false → ∃ t, checked a n al s r = .next t ∧ FatalOnly .dataAddress a s t) :=
  ⟨fun h => checked_fatalOnly hf r (accessFault_misaligned _ _ _ _ h),
    fun h hr => checked_fatalOnly hf r (accessFault_unresolved _ _ _ _ h hr)⟩

/-! ### A sequence of words -/

/-- Of `n` words at `f 0`, `f 1` and so on, the first that fails counts. -/
theorem checkedWords_range_fatalOnly {f : Nat → Word} {n j : Nat} (r : Result) {c : FatalCause} (hj : j < n)
    (hacc : ∀ m, m < j → Accessible s (f m) 4 4) (h : accessFault s.cfg (f j) 4 4 = some c) :
    ∃ t, checkedWords ((List.range n).map f) s r = .next t ∧ FatalOnly c (f j) s t := by
  obtain ⟨d, rfl⟩ := Nat.exists_eq_add_of_lt hj
  have hsplit : (List.range (j + d + 1)).map f =
      (List.range j).map f ++ f j :: (List.range d).map (fun x => f (j + (x + 1))) := by
    rw [Nat.add_assoc, List.range_add, List.map_append, List.range_succ_eq_map]
    simp
  have hpre : ∀ b, b ∈ (List.range j).map f → Accessible s b 4 4 := by
    intro b hb
    obtain ⟨m, hm, rfl⟩ := List.mem_map.1 hb
    exact hacc m (List.mem_range.1 hm)
  rw [hsplit, checkedWords_fault r hpre h]
  exact raise_fatalOnly c (f j) s hf

/-- The faults of the words of one quad transfer that are checked one by one from `ea`, each at a multiple of 4 from it. -/
theorem checkedWords_range_faults (f : Nat → Word) {ea : Word} (n : Nat) (r : Result) (h0 : f 0 = ea)
    (hal : ∀ j, (f j).toNat % 4 = ea.toNat % 4) :
    (ea.toNat % 4 ≠ 0 → 0 < n → ∃ t, checkedWords ((List.range n).map f) s r = .next t ∧ FatalOnly .misalignedData ea s t) ∧
    (ea.toNat % 4 = 0 → ∀ j, j < n → (∀ m, m < j → Accessible s (f m) 4 4) → bytesResolve s.cfg (f j) 4 = false →
      ∃ t, checkedWords ((List.range n).map f) s r = .next t ∧ FatalOnly .dataAddress (f j) s t) := by
  subst h0
  exact ⟨fun h hn => checkedWords_range_fatalOnly hf r hn nofun (accessFault_misaligned _ _ _ _ h),
    fun h j hj hacc hr => checkedWords_range_fatalOnly hf r hj hacc (accessFault_unresolved _ _ _ _ ((hal j).trans h) hr)⟩

end

/-- A word above or below another is aligned as that one is. -/
theorem wordUp_mod_four (ea : Word) (i : Nat) : (wordUp ea i).toNat % 4 = ea.toNat % 4 := by
  simp only [wordUp, BitVec.toNat_add, BitVec.toNat_ofNat]
  omega

theorem wordDown_mod_four (ea : Word) (i : Nat) : (wordDown ea i).toNat % 4 = ea.toNat % 4 := by
  simp only [wordDown, BitVec.toNat_sub, BitVec.toNat_ofNat]
  omega

theorem alignWord_mod_four (a : Word) : (alignWord a).toNat % 4 = 0 := by
  have := a.isLt
  rw [alignWord_eq, BitVec.toNat_sub, BitVec.toNat_ofNat]
  omega

section
variable {s : State} (hf : s.failure = none)
include hf

theorem checkedWords_down_faults (ea : Word) (r : Result) :
    (ea.toNat % 4 ≠ 0 → ∃ t, checkedWords ((List.range (quadIndex ea + 1)).map (wordDown ea)) s r = .next t ∧
      FatalOnly .misalignedData ea s t) ∧
    (ea.toNat % 4 = 0 → ∀ j, j ≤ quadIndex ea → (∀ m, m < j → Accessible s (wordDown ea m) 4 4) →
      bytesResolve s.cfg (wordDown ea j) 4 = false →
      ∃ t, checkedWords ((List.range (quadIndex ea + 1)).map (wordDown ea)) s r = .next t ∧
        FatalOnly .dataAddress (wordDown ea j) s t) := by
  obtain ⟨mis, unres⟩ := checkedWords_range_faults hf (wordDown ea) (quadIndex ea + 1) r (by simp [wordDown]) (wordDown_mod_four ea)
  exact ⟨fun h => mis h (by omega), fun h j hj => unres h j (by omega)⟩

theorem checkedWords_up_faults (ea : Word) (r : Result) :
    (ea.toNat % 4 ≠ 0 → ∃ t, checkedWords ((List.range (4 - quadIndex ea)).map (wordUp ea)) s r = .next t ∧
      FatalOnly .misalignedData ea s t) ∧
    (ea.toNat % 4 = 0 → ∀ j, j ≤ 3 - quadIndex ea → (∀ m, m < j → Accessible s (wordUp ea m) 4 4) →
      bytesResolve s.cfg (wordUp ea j) 4 = false →
      ∃ t, checkedWords ((List.range (4 - quadIndex ea)).map (wordUp ea)) s r = .next t ∧
        FatalOnly .dataAddress (wordUp ea j) s t) := by
  have hk : quadIndex ea < 4 := by
    rw [quadIndex_eq]
    omega
  obtain ⟨mis, unres⟩ := checkedWords_range_faults hf (wordUp ea) (4 - quadIndex ea) r (by simp [wordUp]) (wordUp_mod_four ea)
  exact ⟨fun h => mis h (by omega), fun h j hj => unres h j (by omega)⟩

theorem checkedQuad_faults (ea : Word) (r : Result) :
    (ea.toNat % 16 ≠ 0 → ∃ t, checkedQuad ea s r = .next t ∧ FatalOnly .misalignedData ea s t) ∧
    (ea.toNat % 16 = 0 → ∀ j, j < 4 → (∀ m, m < j → Accessible s (wordUp ea m) 4 4) → bytesResolve s.cfg (wordUp ea j) 4 = false →
      ∃ t, checkedQuad ea s r = .next t ∧ FatalOnly .dataAddress (wordUp ea j) s t) := by
  refine ⟨fun h => ?_, fun h j hj hacc hr => ?_⟩
  · rw [checkedQuad, if_pos h]
    exact raise_fatalOnly _ _ _ hf
  · rw [checkedQuad, if_neg (not_not.2 h)]
    have hword : (wordUp ea j).toNat % 4 = 0 := by
      rw [wordUp_mod_four]
      omega
    exact checkedWords_range_fatalOnly hf r hj hacc (accessFault_unresolved _ _ _ _ hword hr)

theorem exec_sc_faults (rs rt : GReg) (imm : Half) (hll : s.cpu.llBit = true) :
    ((s.ea rs imm).toNat % 4 ≠ 0 → ∃ t, exec (.sc rs rt imm) s = .next t ∧ FatalOnly .misalignedData (s.ea rs imm) s t) ∧
    ((s.ea rs imm).toNat % 4 = 0 → bytesResolve s.cfg (s.ea rs imm) 4 = false →
      ∃ t, exec (.sc rs rt imm) s = .next t ∧ FatalOnly .dataAddress (s.ea rs imm) s t) := by
  have hsc : exec (.sc rs rt imm) s =
      checked (s.ea rs imm) 4 4 s (done ((s.storeWord (s.ea rs imm) (s.x rt)).setX rt 1#32)) := if_pos hll
  rw [hsc]
  exact checked_faults hf _ _ _ _

end

/-- Settles O23: every load and store is an access, or a sequence of words, that is checked before it is made (`checked_faults`,
`checkedQuad_faults`, `checkedWords_down_faults`, `checkedWords_up_faults`). -/
theorem accessFaults : Obligations.AccessFaults := by
  unfold Obligations.AccessFaults
  intro s rs rt imm off vhi hi wb ea va wa k hea hva hwa hk hf
  obtain rfl : ea = s.ea rs imm := hea
  obtain rfl : va = s.vea rs off := hva.trans (s.vea_eq rs off).symm
  obtain rfl : wa = alignWord (s.ea rs imm) := hwa.trans (alignWord_eq _).symm
  obtain rfl : k = quadIndex (s.vea rs off) := hk.trans (quadIndex_eq _).symm
  simp only [List.forall_mem_cons, List.not_mem_nil, false_implies, implies_true, and_true]
  have byte := fun r => (checked_faults hf (s.ea rs imm) 1 1 r).2 (Nat.mod_one _)
  have half := checked_faults hf (s.ea rs imm) 2 2
  have word := checked_faults hf (s.ea rs imm) 4 4
  have aligned := fun r => (checked_faults hf (alignWord (s.ea rs imm)) 4 4 r).2 (alignWord_mod_four _)
  have vword := checked_faults hf (s.vea rs off) 4 4
  have quad := checkedQuad_faults hf (s.vea rs off)
  have down := checkedWords_down_faults hf (s.vea rs off)
  have up := checkedWords_up_faults hf (s.vea rs off)
  exact ⟨⟨byte _, byte _, byte _⟩, ⟨half _, half _, half _⟩, exec_sc_faults hf rs rt imm, ⟨word _, word _, word _, word _, word _⟩,
    ⟨aligned _, aligned _, aligned _, aligned _⟩, ⟨vword _, vword _⟩, ⟨quad _, quad _⟩, ⟨down _, down _⟩, up _, up _⟩

end Sys2Proof.Machine
end

section
/-! PROOF. Decoding and encoding (30_encoding.md R120 to R142): the decoder reads the fields of an encoded word back (Laws/Encode.lean), and
an instruction it answers is well formed. -/

namespace Sys2Proof

open BitVec (extractLsb'_append_eq_left extractLsb'_append_eq_right)

/-! ### Fields inside fields -/

/-- A field of a field is a field of the word. -/
theorem extractLsb'_extractLsb'_of_add_le {v : Nat} (w : BitVec v) (s l k n : Nat) (h : k + n ≤ l) :
    (w.extractLsb' s l).extractLsb' k n = w.extractLsb' (s + k) n := by
  ext i hi
  simp [← Nat.add_assoc]
  omega

/-- A field of one bit is 0 when its bit is. -/
theorem extractLsb'_one_eq_zero_iff {n : Nat} (x : BitVec n) (i : Nat) : x.extractLsb' i 1 = 0#1 ↔ x.getLsbD i = false := by
  simp [BitVec.eq_of_getLsbD_eq_iff]

theorem fBit6_eq_fSa (w : Word) : fBit6 w = (fSa w).extractLsb' 0 1 :=
  (extractLsb'_extractLsb'_of_add_le w 6 5 0 1 (by decide)).symm

theorem fBit7_eq_fIdx (w : Word) : fBit7 w = (fIdx w).extractLsb' 7 1 :=
  (extractLsb'_extractLsb'_of_add_le w 0 8 7 1 (by decide)).symm

theorem fSub2_eq_fRs (w : Word) : fSub2 w = (fRs w).extractLsb' 3 2 :=
  (extractLsb'_extractLsb'_of_add_le w 21 5 3 2 (by decide)).symm

theorem fSub2_eq_fSub3 (w : Word) : fSub2 w = (fSub3 w).extractLsb' 1 2 :=
  (extractLsb'_extractLsb'_of_add_le w 23 3 1 2 (by decide)).symm

theorem fRs_ne_of_fSub2 {w : Word} {j : BitVec 5} (h : fSub2 w ≠ j.extractLsb' 3 2) : fRs w ≠ j := by
  rintro rfl
  exact h (fSub2_eq_fRs w)

theorem fSub3_ne_of_fSub2 {w : Word} {k : BitVec 3} (h : fSub2 w ≠ k.extractLsb' 1 2) : fSub3 w ≠ k := by
  rintro rfl
  exact h (fSub2_eq_fSub3 w)

/-! ### Decoding an encoded instruction -/

/-- No other `j` of VFPU4 has `w[25:24] = 3` (30_encoding.md R137). -/
theorem decodeVfpu4_wbn {w : Word} (h : fSub2 w = 3#2) : decodeVfpu4 w = .ok (.vwbn (fVd w) (fVs w) (fImm8 w) (fSize w)) := by
  simp [decodeVfpu4, fRs_ne_of_fSub2, h]

/-- The prefixes have `w[25:24]` below 3, `viim.s` and `vfim.s` have 3 (30_encoding.md R141). -/
theorem decodeVfpu5_pfx {w : Word} (h : fSub2 w ≠ 3#2) : decodeVfpu5 w =
    if fSub2 w = 0#2 then .ok (.vpfxs (fData20 w)) else if fSub2 w = 1#2 then .ok (.vpfxt (fData20 w)) else .ok (.vpfxd (fData12 w)) := by
  simp [decodeVfpu5, fSub3_ne_of_fSub2, h]

/-- The cases stand in the groups of the decoder's maps: the fields of an encoded word choose the map, then the row, and are its operands.
Only the rows told apart by a bit of an operand need that the instruction is well formed. -/
theorem decode_encode (i : Instr) (h : i.wellFormed = true) : decode (encode i) = .ok i := by
  cases i with
  | sll | sra | sllv | srav | jr | jalr | movz | movn | syscall | brk | sync | mfhi | mthi | mflo | mtlo | clz | clo | mult | multu | div
  | divu | madd | maddu | add | addu | sub | subu | and | or | xor | nor | slt | sltu | max | min | msub | msubu | srl | rotr =>
    simp [encode, decode, decodeSpecial]
  | srlv | rotrv => simpa [encode, decode, decodeSpecial, extractLsb'_one_eq_zero_iff, Instr.wellFormed] using h
  | bltz | bgez | bltzl | bgezl | bltzal | bgezal | bltzall | bgezall => simp [encode, decode, decodeRegimm]
  | j | jal | beq | bne | blez | bgtz | addi | addiu | slti | sltiu | andi | ori | xori | lui | beql | bnel | blezl | bgtzl | lb | lh | lwl
  | lw | lbu | lhu | lwr | sb | sh | swl | sw | swr | cache | ll | lwc1 | sc | swc1 => simp [encode, decode]
  | ext | ins => simp [encode, decode, decodeSpecial3]
  | wsbh | wsbw | seb | bitrev | seh => simp [encode, decode, decodeSpecial3, decodeBshfl]
  | mfc1 | cfc1 | mtc1 | ctc1 | cvtSW => simp [encode, decode, decodeCop1]
  | bc1f | bc1t | bc1fl | bc1tl => simp [encode, decode, decodeCop1, decodeBc1]
  | addS | subS | mulS | divS | sqrtS | absS | movS | negS | roundWS | truncWS | ceilWS | floorWS | cvtWS | cFS | cUnS | cEqS | cUeqS
  | cOltS | cUltS | cOleS | cUleS | cSfS | cNgleS | cSeqS | cNglS | cLtS | cNgeS | cLeS | cNgtS =>
    simp [encode, decode, decodeCop1, decodeCop1S]
  | mfv | mtv => simpa [encode, decode, decodeCop2, extractLsb'_one_eq_zero_iff, Instr.wellFormed] using h
  | mfvc | mtvc =>
    simp [encode, decode, decodeCop2, extractLsb'_append_eq_left (w := 1) (w' := 7), extractLsb'_append_eq_right (w := 1) (w' := 7)]
  | bvf | bvt | bvfl | bvtl => simp [encode, decode, decodeCop2, decodeBv]
  | vadd | vsub | vsbn | vdiv => simp [encode, decode, decodeVfpu0, fSize]
  | vmul | vdot | vscl | vhdp | vcrsT | vdetP => simp [encode, decode, decodeVfpu1, fSize]
  | vcmp => simp [encode, decode, decodeVfpu3, fSize, extractLsb'_append_eq_right (w := 3) (w' := 4)]
  | vmin | vmax | vscmp | vsge | vslt => simp [encode, decode, decodeVfpu3, fSize]
  | vmov | vabs | vneg | vidt | vsat0 | vsat1 | vzero | vone | vrcp | vrsq | vsin | vcos | vexp2 | vlog2 | vsqrt | vasin | vnrcp | vnsin
  | vrexp2 => simp [encode, decode, decodeVfpu4, decodeVfpu4One, fSize]
  | vrnds | vrndi | vrndf1 | vrndf2 | vf2h | vh2f | vsbz | vlgb | vuc2i | vc2i | vus2i | vs2i | vi2uc | vi2c | vi2us | vi2s =>
    simp [encode, decode, decodeVfpu4, decodeVfpu4Conv, fSize]
  | vsrt1 | vsrt2 | vbfy1 | vbfy2 | vocp | vsocp | vfad | vavg | vsrt3 | vsrt4 | vsgn | vt4444 | vt5551 | vt5650 | vmfvc | vmtvc =>
    simp [encode, decode, decodeVfpu4, decodeVfpu4Misc, fSize]
  | vcst | vf2in | vf2iz | vf2iu | vf2id | vi2f | vcmovt | vcmovf => simp [encode, decode, decodeVfpu4, fSize]
  | vwbn => simp [encode, decode, decodeVfpu4_wbn, fSize]
  | vpfxs | vpfxt => simp [encode, decode, decodeVfpu5_pfx]
  | vpfxd => simp [encode, decode, decodeVfpu5_pfx, extractLsb'_append_eq_right (w := 8) (w' := 12)]
  | viimS | vfimS => simp [encode, decode, decodeVfpu5]
  | vmmul | vmscl | vrot => simp [encode, decode, decodeVfpu6, fSize]
  | vtfm2P | vhtfm2P | vtfm3T | vhtfm3T | vtfm4Q | vhtfm4Q | vcrspT | vqmulQ => simp [encode, decode, decodeVfpu6, fSize, Size.ofBits]
  | vmmov | vmidt | vmzero | vmone => simp [encode, decode, decodeVfpu6, decodeMatrixSet, fSize]
  | vnop | vsync | vflush => rfl
  | lvS | svS => simp [encode, decode]
  | lvQ | svQ | lvlQ | lvrQ | svlQ | svrQ =>
    simp [encode, decode, extractLsb'_append_eq_left (w := 1) (w' := 1), extractLsb'_append_eq_right (w := 1) (w' := 1)]

/-! ### Words given as numbers -/

theorem decodeBytes_bytesOfWord {w : Word} {i : Instr} (h : decode w = .ok i) : decodeBytes (bytesOfWord w) = .ok (i, []) := by
  simp [bytesOfWord, decodeBytes, Machine.wordOfBytes_eq, h]

theorem decodeTableWord_toNat {w : Word} {i : Instr} (h : decode w = .ok i) : decodeTableWord 32 w.toNat = some i := by
  rw [decodeTableWord, Nat.mod_eq_of_lt w.isLt, BitVec.ofNat_toNat, BitVec.setWidth_eq, decodeBytes_bytesOfWord h]

/-! ### What decodes is well formed -/

/-- Every instruction that a decoder's result answers is well formed. -/
def AnswersWellFormed (r : Except DecodeError Instr) : Prop := ∀ i, r = .ok i → i.wellFormed = true

@[simp] theorem answersWellFormed_ok (i : Instr) : AnswersWellFormed (.ok i) ↔ i.wellFormed = true := by
  simp [AnswersWellFormed]

@[simp] theorem answersWellFormed_error (e : DecodeError) : AnswersWellFormed (.error e) := by
  simp [AnswersWellFormed]

@[simp] theorem answersWellFormed_ite (c : Prop) [Decidable c] (a b : Except DecodeError Instr) :
    AnswersWellFormed (if c then a else b) ↔ (c → AnswersWellFormed a) ∧ (¬ c → AnswersWellFormed b) := by
  split <;> simp [*]

/-- `srlv` and `rotrv` are told apart by a bit of `sa` (30_encoding.md R131). -/
theorem decodeSpecial_answersWellFormed (w : Word) : AnswersWellFormed (decodeSpecial w) := by
  simp [decodeSpecial, Instr.wellFormed, fBit6_eq_fSa, extractLsb'_one_eq_zero_iff]

/-- `mfv` and `mtv` are told from `mfvc` and `mtvc` by a bit of the index (30_encoding.md R135). -/
theorem decodeCop2_answersWellFormed (w : Word) : AnswersWellFormed (decodeCop2 w) := by
  simp [decodeCop2, decodeBv, Instr.wellFormed, fBit7_eq_fIdx, extractLsb'_one_eq_zero_iff]

/-- The rows of every other map fix no bit inside an operand. -/
theorem decode_answersWellFormed (w : Word) : AnswersWellFormed (decode w) := by
  simp [decode, decodeSpecial_answersWellFormed, decodeCop2_answersWellFormed, Instr.wellFormed, decodeRegimm, decodeSpecial3, decodeBshfl,
    decodeCop1, decodeBc1, decodeCop1S, decodeVfpu0, decodeVfpu1, decodeVfpu3, decodeVfpu4, decodeVfpu4One, decodeVfpu4Conv, decodeVfpu4Misc,
    decodeVfpu5, decodeVfpu6, decodeMatrixSet, decodeVfpu7]

/-! ### The statements -/

/-- Settles O48, by `decode_encode` through both decoders and `decode_answersWellFormed`. -/
theorem decodeEncode : Obligations.DecodeEncode := by
  unfold Obligations.DecodeEncode
  refine ⟨fun i h => ?_, decode_answersWellFormed⟩
  have hdec := decode_encode i h
  exact ⟨hdec, decodeTableWord_toNat hdec⟩

/-- Settles O54, by running the decoder on the twenty words. -/
theorem decodeSampleWords : Obligations.DecodeSampleWords := by
  unfold Obligations.DecodeSampleWords
  and_intros <;> rfl

end Sys2Proof
end

section
/-! PROOF. The integer ALU (40_alu.md R210 to R260): an instruction ends in one of few writes (`writeX`, `writeExact`, `writeLoHi`, a write of
`HL`), and the value its meaning writes is the sum, shift, product, quotient or field of its rule. -/

namespace Sys2Proof.Machine

open Sys2Proof

/-! ### The shared endings -/

/-- An instruction whose value is the value of its rule. -/
theorem writeX_writesX {v w : Word} (rd : GReg) (s : State) (h : v = w) : ∃ t, writeX rd v s = .next t ∧ WritesX rd w s t :=
  ⟨_, rfl, h ▸ writesX_done rd v s⟩

/-- An instruction whose value has the bits of its rule. -/
theorem writeX_bits {v : Word} {bit : Nat → Bool} (rd : GReg) (s : State) (h : ∀ j, j < 32 → v.getLsbD j = bit j) :
    ∃ t w, writeX rd v s = .next t ∧ WritesX rd w s t ∧ ∀ j, j < 32 → w.getLsbD j = bit j :=
  ⟨_, v, rfl, writesX_done rd v s, h⟩

/-- An instruction whose value is the value of its rule, in `HL`. -/
theorem done_setHl_onlyHiLo {v w : DWord} (s : State) (h : v = w) :
    ∃ t, done (s.setHl v) = .next t ∧ t.hl = w ∧ OnlyHiLo s t :=
  ⟨_, rfl, h ▸ onlyHiLo_done_setHl v s⟩

/-! ### Add, subtract, compare (40_alu.md R210 to R219) -/

/-- The integers that 32 signed bits hold. -/
theorem toInt_ofInt_eq_iff (e : Int) : (BitVec.ofInt 32 e).toInt = e ↔ -(2 ^ 31) ≤ e ∧ e < 2 ^ 31 :=
  ⟨fun h => h ▸ ⟨BitVec.le_toInt _, BitVec.toInt_lt⟩, fun h => BitVec.toInt_ofInt_eq_self (by decide) h.1 h.2⟩

theorem ofInt_sub {n : Nat} (x y : Int) : BitVec.ofInt n (x - y) = BitVec.ofInt n x - BitVec.ofInt n y := by
  rw [Int.sub_eq_add_neg, BitVec.ofInt_add, BitVec.ofInt_neg, BitVec.sub_eq_add_neg]

/-- A sum or difference is written unless it traps (R210, R212, R214). -/
theorem writeExact_ofInt (rd : GReg) (e : Int) (s : State) : writeExact rd e (BitVec.ofInt 32 e) s =
    if s.cfg.overflowTraps = true ∧ ¬(-(2 ^ 31) ≤ e ∧ e < 2 ^ 31) then raise .unmodelled 0#32 s
    else writeX rd (BitVec.ofInt 32 e) s := by
  simp only [writeExact, Bool.and_eq_true, decide_eq_true_eq, ne_eq, toInt_ofInt_eq_iff]

section
variable {rd : GReg} {e : Int} {v : Word} {s : State} (hv : v = BitVec.ofInt 32 e)
include hv

theorem writeExact_writesX (h : s.cfg.overflowTraps = false ∨ (-(2 ^ 31) ≤ e ∧ e < 2 ^ 31)) :
    ∃ t, writeExact rd e v s = .next t ∧ WritesX rd (BitVec.ofInt 32 e) s t := by
  rw [hv, writeExact_ofInt, if_neg (by simpa [or_iff_not_imp_left] using h)]
  exact writeX_writesX rd s rfl

theorem writeExact_fatalOnly (ht : s.cfg.overflowTraps = true) (hf : s.failure = none) (h : ¬(-(2 ^ 31) ≤ e ∧ e < 2 ^ 31)) :
    ∃ t, writeExact rd e v s = .next t ∧ FatalOnly .unmodelled 0#32 s t := by
  rw [hv, writeExact_ofInt, if_pos ⟨ht, h⟩]
  exact raise_fatalOnly _ _ s hf

end

theorem sext16_toInt (imm : Half) : (sext16 imm).toInt = imm.toInt := BitVec.toInt_signExtend_of_le (by decide)

theorem add_eq_ofInt (a b : Word) : a + b = BitVec.ofInt 32 (a.toInt + b.toInt) := by
  simp only [BitVec.ofInt_add, BitVec.ofInt_toInt]

theorem add_eq_ofNat (a b : Word) : a + b = BitVec.ofNat 32 (a.toNat + b.toNat) := by
  simp only [BitVec.ofNat_add, BitVec.ofNat_toNat, BitVec.setWidth_eq]

theorem sub_eq_ofInt (a b : Word) : a - b = BitVec.ofInt 32 (a.toInt - b.toInt) := by
  simp only [ofInt_sub, BitVec.ofInt_toInt]

theorem boolWord_slt (a b : Word) : boolWord (a.slt b) = if a.toInt < b.toInt then 1#32 else 0#32 := by
  simp only [boolWord, BitVec.slt_iff_toInt_lt]

theorem boolWord_ult (a b : Word) : boolWord (a.ult b) = if a.toNat < b.toNat then 1#32 else 0#32 := by
  simp only [boolWord, BitVec.ult_iff_toNat_lt]

/-- Settles O2: a trapping sum or difference is written where it fits (`writeExact_writesX`) and fails where it does not
(`writeExact_fatalOnly`). -/
theorem addSubtractCompare : Obligations.AddSubtractCompare := by
  unfold Obligations.AddSubtractCompare
  intro s rs rt rd sa imm
  have hadd := add_eq_ofInt (s.x rs) (s.x rt)
  have hsub := sub_eq_ofInt (s.x rs) (s.x rt)
  have haddi := add_eq_ofInt (s.x rs) (sext16 imm)
  rw [← sext16_toInt]
  exact ⟨writeExact_writesX hadd, writeExact_fatalOnly hadd, writeExact_writesX hsub, writeExact_fatalOnly hsub,
    writeExact_writesX haddi, writeExact_fatalOnly haddi, writeX_writesX _ _ (add_eq_ofNat _ _), writeX_writesX _ _ hsub,
    writeX_writesX _ _ haddi, writeX_writesX _ _ (boolWord_slt _ _), writeX_writesX _ _ (boolWord_ult _ _),
    writeX_writesX _ _ (boolWord_slt _ _), writeX_writesX _ _ (boolWord_ult _ _)⟩

/-! ### Logical (40_alu.md R220 to R227) -/

theorem zext16_bit (imm : Half) (j : Nat) (hj : j < 32) : (zext16 imm).getLsbD j = imm.getLsbD j := by
  simp [zext16, hj]

theorem lui_bit (imm : Half) (j : Nat) (hj : j < 32) :
    (zext16 imm <<< 16).getLsbD j = (decide (16 ≤ j) && imm.getLsbD (j - 16)) := by
  simp only [BitVec.getLsbD_shiftLeft, zext16_bit imm _ (show j - 16 < 32 by omega), hj, decide_true, Bool.true_and, ← decide_not,
    Nat.not_lt]

/-- Settles O3, bit by bit; an immediate has its own bits and then zeros (`zext16_bit`). -/
theorem logicalBits : Obligations.LogicalBits := by
  unfold Obligations.LogicalBits
  intro s rs rt rd sa imm
  have zext := zext16_bit imm
  exact ⟨writeX_bits _ _ fun j _ => BitVec.getLsbD_and, writeX_bits _ _ fun j _ => BitVec.getLsbD_or,
    writeX_bits _ _ fun j _ => BitVec.getLsbD_xor, writeX_bits _ _ fun j hj => by simp [hj],
    writeX_bits _ _ fun j hj => by rw [BitVec.getLsbD_and, zext j hj], writeX_bits _ _ fun j hj => by rw [BitVec.getLsbD_or, zext j hj],
    writeX_bits _ _ fun j hj => by rw [BitVec.getLsbD_xor, zext j hj], writeX_bits _ _ (lui_bit imm)⟩

/-! ### Shifts and rotates (40_alu.md R228 to R235) -/

theorem shiftLeft_eq_ofNat (a : Word) (n : Nat) : a <<< n = BitVec.ofNat 32 (a.toNat * 2 ^ n) :=
  BitVec.eq_of_toNat_eq (by simp [Nat.shiftLeft_eq])

theorem ushiftRight_eq_ofNat (a : Word) (n : Nat) : a >>> n = BitVec.ofNat 32 (a.toNat / 2 ^ n) := by
  rw [← Nat.shiftRight_eq_div_pow, ← BitVec.toNat_ushiftRight, BitVec.ofNat_toNat, BitVec.setWidth_eq]

theorem sshiftRight_eq_ofInt (a : Word) (n : Nat) : a.sshiftRight n = BitVec.ofInt 32 (a.toInt / 2 ^ n) := by
  rw [BitVec.sshiftRight, Int.shiftRight_eq_div_pow]
  simp

theorem shiftAmount_eq (v : Word) : shiftAmount v = v.toNat % 32 := by simp [shiftAmount]

theorem rotateRight_eq (v : Word) {n : Nat} (h : n < 32) : rotateRight v n = v.rotateRight n := by
  rw [BitVec.rotateRight_def, Nat.mod_eq_of_lt h, rotateRight]

/-- Settles O4: the shifts of words as arithmetic (`shiftLeft_eq_ofNat`, `ushiftRight_eq_ofNat`, `sshiftRight_eq_ofInt`). -/
theorem shiftRotate : Obligations.ShiftRotate := by
  unfold Obligations.ShiftRotate
  intro s rs rt rd sa
  simp only [← shiftAmount_eq]
  have hlt : shiftAmount (s.x rs) < 32 := BitVec.isLt _
  exact ⟨writeX_writesX _ _ (shiftLeft_eq_ofNat _ _), writeX_writesX _ _ (ushiftRight_eq_ofNat _ _),
    writeX_writesX _ _ (sshiftRight_eq_ofInt _ _), writeX_writesX _ _ (shiftLeft_eq_ofNat _ _),
    writeX_writesX _ _ (ushiftRight_eq_ofNat _ _), writeX_writesX _ _ (sshiftRight_eq_ofInt _ _),
    writeX_writesX _ _ (rotateRight_eq _ sa.isLt), writeX_writesX _ _ (rotateRight_eq _ hlt)⟩

/-! ### Conditional move, count, min/max (40_alu.md R236 to R241) -/

/-- The run of bits `b` below bit `k`, up to the first other one. -/
theorem countLeading_spec (b : Bool) (v : Word) (k : Nat) : countLeading b v k ≤ k ∧
    (∀ j, k - countLeading b v k ≤ j → j < k → v.getLsbD j = b) ∧
    (countLeading b v k < k → v.getLsbD (k - 1 - countLeading b v k) = !b) := by
  induction k with
  | zero => simp [countLeading]
  | succ k ih =>
    obtain ⟨hle, hrun, hend⟩ := ih
    rw [countLeading]
    split
    · next h =>
      refine ⟨by omega, fun j hj hjk => ?_, fun hlt => ?_⟩
      · by_cases hk : j = k
        · rw [hk, h]
        · exact hrun j (by omega) (by omega)
      · rw [← hend (by omega)]
        congr 1
        omega
    · next h => exact ⟨by omega, by omega, fun _ => Bool.eq_not_of_ne h⟩

theorem writeX_countLeading (b : Bool) (v : Word) (rd : GReg) (s : State) :
    ∃ t n, writeX rd (BitVec.ofNat 32 (countLeading b v 32)) s = .next t ∧ n ≤ 32 ∧ WritesX rd (BitVec.ofNat 32 n) s t ∧
      (∀ j, 32 - n ≤ j → j < 32 → v.getLsbD j = b) ∧ (n < 32 → v.getLsbD (31 - n) = !b) := by
  obtain ⟨hle, hrun, hend⟩ := countLeading_spec b v 32
  exact ⟨_, _, rfl, hle, writesX_done _ _ s, hrun, hend⟩

/-- Settles O5: the count is the length of the run of equal bits (`countLeading_spec`). -/
theorem moveCountMinMax : Obligations.MoveCountMinMax := by
  unfold Obligations.MoveCountMinMax
  intro s rs rt rd sa
  refine ⟨?movz, ?movn, writeX_countLeading false _ rd s, writeX_countLeading true _ rd s,
    writeX_writesX _ _ ?max, writeX_writesX _ _ ?min⟩
  case movz =>
    simp only [exec, execMovz]
    split
    · exact ⟨_, rfl, writesX_done _ _ s⟩
    · exact ⟨_, rfl, onlyPc_done s⟩
  case movn =>
    simp only [exec, execMovn, ne_eq, ite_not]
    split
    · exact ⟨_, rfl, onlyPc_done s⟩
    · exact ⟨_, rfl, writesX_done _ _ s⟩
  case max => simp only [BitVec.slt_iff_toInt_lt, gt_iff_lt]
  case min => simp only [BitVec.slt_iff_toInt_lt]

/-! ### Multiply, accumulate, hi/lo (40_alu.md R242, R243, R246 to R253) -/

theorem mulSigned_eq (a b : Word) : mulSigned a b = BitVec.ofInt 64 (a.toInt * b.toInt) := (BitVec.ofInt_mul _ _).symm

theorem mulUnsigned_eq (a b : Word) : mulUnsigned a b = BitVec.ofNat 64 (a.toNat * b.toNat) := by
  simp only [mulUnsigned, BitVec.ofNat_mul, BitVec.ofNat_toNat]

/-- Settles O6: the 64-bit product is the exact one modulo 2^64 (`mulSigned_eq`, `mulUnsigned_eq`). -/
theorem multiplyAccumulate : Obligations.MultiplyAccumulate := by
  unfold Obligations.MultiplyAccumulate
  intro s rs rt rd
  have signed := mulSigned_eq (s.x rs) (s.x rt)
  have unsigned := mulUnsigned_eq (s.x rs) (s.x rt)
  exact ⟨done_setHl_onlyHiLo s signed, done_setHl_onlyHiLo s unsigned,
    done_setHl_onlyHiLo s (by rw [signed, BitVec.ofInt_add, BitVec.ofInt_toInt]),
    done_setHl_onlyHiLo s (by rw [unsigned, BitVec.ofNat_add, BitVec.ofNat_toNat, BitVec.setWidth_eq]),
    done_setHl_onlyHiLo s (by rw [signed, ofInt_sub, BitVec.ofInt_toInt]),
    done_setHl_onlyHiLo s (by rw [unsigned, ofInt_sub, BitVec.ofInt_natCast, BitVec.ofInt_natCast, BitVec.ofNat_toNat, BitVec.setWidth_eq]),
    writeX_writesX _ _ rfl, writeX_writesX _ _ rfl,
    ⟨_, rfl, rfl, rfl, onlyHiLo_done_setHi _ s⟩, ⟨_, rfl, rfl, rfl, onlyHiLo_done_setLo _ s⟩⟩

/-! ### Divide (40_alu.md R244, R245) -/

theorem toInt_eq_min_iff (a : Word) : a.toInt = -(2 ^ 31) ↔ a = 0x80000000#32 := BitVec.toInt_inj (y := 0x80000000#32)

theorem toInt_eq_neg_one_iff (a : Word) : a.toInt = -1 ↔ a = 0xFFFFFFFF#32 := BitVec.toInt_inj (y := 0xFFFFFFFF#32)

/-- A remainder that is not 0 has the sign of the dividend. -/
theorem tmod_eq_zero_or_neg_iff (a b : Int) : a.tmod b = 0 ∨ (a.tmod b < 0 ↔ a < 0) := by
  by_cases h : b ∣ a
  · exact .inl (Int.tmod_eq_zero_of_dvd h)
  · have hs := Int.sign_tmod a b
    rw [if_neg h] at hs
    rw [← Int.sign_eq_neg_one_iff_neg, ← Int.sign_eq_neg_one_iff_neg, hs]
    exact .inr .rfl

theorem divSigned_zero (a : Word) : divSigned a 0#32 = (if a.toInt < 0 then 1#32 else 0xFFFFFFFF#32, a) := by
  simp [divSigned, BitVec.slt]

theorem divSigned_min_neg_one : divSigned 0x80000000#32 0xFFFFFFFF#32 = (0x80000000#32, 0xFFFFFFFF#32) := by decide

/-- Outside the two special cases the quotient fits 32 signed bits. -/
theorem divSigned_spec {a b : Word} (hb : b ≠ 0#32) (h : ¬(a.toInt = -(2 ^ 31) ∧ b.toInt = -1)) :
    a.toInt = b.toInt * (divSigned a b).1.toInt + (divSigned a b).2.toInt ∧ (divSigned a b).2.toInt.natAbs < b.toInt.natAbs ∧
      ((divSigned a b).2.toInt = 0 ∨ ((divSigned a b).2.toInt < 0 ↔ a.toInt < 0)) := by
  rw [toInt_eq_min_iff, toInt_eq_neg_one_iff] at h
  have hq : (a.sdiv b).toInt = a.toInt.tdiv b.toInt := BitVec.toInt_sdiv_of_ne_or_ne _ _ (not_and_or.1 h)
  have heq : divSigned a b = (a.sdiv b, a.srem b) := by
    rw [divSigned, if_neg hb, if_neg h, ← Int.tmod_def, ← hq, ← BitVec.toInt_srem, BitVec.ofInt_toInt, BitVec.ofInt_toInt]
  have hpos : 0 < b.toInt.natAbs := Int.natAbs_pos.2 fun h0 => hb (BitVec.toInt_inj.1 h0)
  simp only [heq, hq, BitVec.toInt_srem]
  exact ⟨(Int.mul_tdiv_add_tmod _ _).symm, Int.natAbs_tmod _ _ ▸ Nat.mod_lt _ hpos, tmod_eq_zero_or_neg_iff _ _⟩

theorem divUnsigned_zero (l a : Word) : divUnsigned l a 0#32 = (if a.toNat > 0xFFFF then 0xFFFFFFFF#32 else l, a) := rfl

theorem divUnsigned_spec (l a : Word) {b : Word} (hb : b ≠ 0#32) :
    a.toNat = b.toNat * (divUnsigned l a b).1.toNat + (divUnsigned l a b).2.toNat ∧ (divUnsigned l a b).2.toNat < b.toNat := by
  have heq : divUnsigned l a b = (a / b, a % b) := by
    simp only [divUnsigned, if_neg hb, ← BitVec.toNat_udiv, ← BitVec.toNat_umod, BitVec.ofNat_toNat, BitVec.setWidth_eq]
  have hpos : 0 < b.toNat := Nat.pos_of_ne_zero fun h0 => hb (BitVec.toNat_inj.1 h0)
  simp only [heq, BitVec.toNat_udiv, BitVec.toNat_umod]
  exact ⟨(Nat.div_add_mod _ _).symm, Nat.mod_lt _ hpos⟩

/-- Settles O7: the two special cases by their values, every other by the quotient and the remainder (`divSigned_spec`,
`divUnsigned_spec`). -/
theorem divideQuotientRemainder : Obligations.DivideQuotientRemainder := by
  unfold Obligations.DivideQuotientRemainder
  intro s rs rt
  refine ⟨⟨_, rfl, onlyHiLo_done _ _ s, fun hzero => ?_, fun hmin hone => ?_, divSigned_spec⟩,
    _, rfl, onlyHiLo_done _ _ s, fun hzero => ?_, divUnsigned_spec _ _⟩
  · rw [hzero, divSigned_zero]
    exact ⟨rfl, rfl⟩
  · rw [(toInt_eq_min_iff _).1 hmin, (toInt_eq_neg_one_iff _).1 hone, divSigned_min_neg_one]
    exact ⟨rfl, rfl⟩
  · rw [hzero, divUnsigned_zero]
    exact ⟨rfl, rfl⟩

/-! ### Bit manipulation (40_alu.md R254 to R260) -/

theorem lowMask_bit (n j : Nat) (hj : j < 32) : (lowMask n).getLsbD j = decide (j < n) := by
  simp only [lowMask, BitVec.getLsbD_ofNat, hj, decide_true, Bool.true_and, Nat.testBit_two_pow_sub_one]

theorem ext_bit (v : Word) (m l j : Nat) (hj : j < 32) :
    ((v >>> l) &&& lowMask (m + 1)).getLsbD j = (decide (j ≤ m) && v.getLsbD (j + l)) := by
  rw [BitVec.getLsbD_and, lowMask_bit _ _ hj, BitVec.getLsbD_ushiftRight, Bool.and_comm, Nat.add_comm l]
  simp only [Nat.lt_succ_iff]

/-- The bits of the field from `l` to `m`. -/
theorem fieldMask_bit {m l : Nat} (h : l ≤ m) (j : Nat) (hj : j < 32) :
    (lowMask (m - l + 1) <<< l).getLsbD j = decide (l ≤ j ∧ j ≤ m) := by
  rw [BitVec.getLsbD_shiftLeft, lowMask_bit _ _ (by omega)]
  simp only [hj, decide_true, Bool.true_and, ← decide_not, ← Bool.decide_and, decide_eq_decide]
  omega

theorem ins_bit (old v : Word) {m l : Nat} (h : l ≤ m) (j : Nat) (hj : j < 32) :
    ((old &&& ~~~(lowMask (m - l + 1) <<< l)) ||| ((v <<< l) &&& (lowMask (m - l + 1) <<< l))).getLsbD j =
      if l ≤ j ∧ j ≤ m then v.getLsbD (j - l) else old.getLsbD j := by
  rw [BitVec.getLsbD_or, BitVec.getLsbD_and, BitVec.getLsbD_and, BitVec.getLsbD_not, fieldMask_bit h j hj]
  split
  · next hf => simp [hf, hj, Nat.not_lt.2 hf.1, -BitVec.getLsbD_eq_getElem]
  · next hf => simp [hf, hj]

/-- The mask of the low byte of each half. -/
theorem lowBytes_bit : ∀ j, j < 32 → (0x00FF00FF#32).getLsbD j = decide (j / 8 % 2 = 0) := by decide

theorem wsbh_bit (v : Word) (j : Nat) (hj : j < 32) :
    (((v &&& 0x00FF00FF#32) <<< 8) ||| ((v >>> 8) &&& 0x00FF00FF#32)).getLsbD j =
      v.getLsbD (if j / 8 % 2 = 0 then j + 8 else j - 8) := by
  rw [BitVec.getLsbD_or, BitVec.getLsbD_shiftLeft, BitVec.getLsbD_and, BitVec.getLsbD_and, BitVec.getLsbD_ushiftRight,
    lowBytes_bit _ (by omega), lowBytes_bit j hj, Nat.add_comm 8]
  split
  · next h =>
    have hprev : j < 8 ∨ (j - 8) / 8 % 2 ≠ 0 := by omega
    rcases hprev with hlt | hodd
    · simp [h, hlt]
    · simp [h, hodd]
  · next h =>
    have hge : ¬ j < 8 := by omega
    have heven : (j - 8) / 8 % 2 = 0 := by omega
    simp [h, hj, hge, heven]

theorem wsbw_bit (v : Word) (j : Nat) (hj : j < 32) :
    (v.extractLsb' 0 8 ++ v.extractLsb' 8 8 ++ v.extractLsb' 16 8 ++ v.extractLsb' 24 8).getLsbD j =
      v.getLsbD (8 * (3 - j / 8) + j % 8) := by
  simp only [BitVec.getLsbD_append, BitVec.getLsbD_extractLsb']
  split_ifs with h₀ h₁ h₂
  all_goals
    rw [decide_eq_true (by omega), Bool.true_and]
    congr 1
    omega

theorem bitrev_bit (v : Word) (j : Nat) (hj : j < 32) : v.reverse.getLsbD j = v.getLsbD (31 - j) := by
  simp only [BitVec.getLsbD_reverse, BitVec.getMsbD_eq_getLsbD, hj, decide_true, Bool.true_and]

/-- Settles O8, bit by bit (`ext_bit`, `ins_bit`, `wsbh_bit`, `wsbw_bit`, `bitrev_bit`). -/
theorem bitFields : Obligations.BitFields := by
  unfold Obligations.BitFields
  intro s rs rt rd m l
  simp only [exec, execExt, execIns]
  refine ⟨fun h => ?ext, fun h => if_pos h, fun h => ?ins, fun h => if_pos h, writeX_bits _ _ (wsbh_bit _), writeX_bits _ _ (wsbw_bit _),
    writeX_writesX _ _ rfl, writeX_writesX _ _ rfl, writeX_bits _ _ (bitrev_bit _)⟩
  case ext =>
    rw [if_neg (Nat.not_lt.2 h)]
    exact writeX_bits _ _ (ext_bit _ _ _)
  case ins =>
    rw [if_neg (Nat.not_lt.2 h)]
    exact writeX_bits _ _ (ins_bit _ _ h)

end Sys2Proof.Machine
end

section
/-! PROOF. Branches, jumps and the delay slot (41_branch.md R280 to R310): outside a slot a transfer ends as a branch (`relBranch_spec`) or
latches its target (`jump_spec`); a linking one does so from the state in which the link is written. In a slot it is refused, as no other
instruction is. -/

namespace Sys2Proof.Machine

open Sys2Proof

/-! ### Conditions (R291 to R306) -/

/-- A branch whose condition is the one of its rule. -/
theorem relBranch_ends {likely c c' : Bool} {imm : Half} {s : State} (h : s.pending = false) (hc : c = c') :
    ∃ t, relBranch likely c imm s = .next t ∧ BranchEnds likely c' imm s t ∧ OnlyTransfer (fun _ => False) s t :=
  hc ▸ relBranch_spec likely c imm s h

theorem bne_eq_decide_ne (a b : Word) : (a != b) = decide (a ≠ b) := by rw [bne, beq_eq_decide, decide_not]

theorem isNegative_eq (v : Word) : isNegative v = decide (v.toInt < 0) := BitVec.slt_eq_decide

theorem not_isNegative_eq (v : Word) : (!isNegative v) = decide (v.toInt ≥ 0) := by
  rw [isNegative_eq, ← decide_not]
  exact decide_eq_decide.2 Int.not_lt

theorem isNonPositive_eq (v : Word) : isNonPositive v = decide (v.toInt ≤ 0) := BitVec.sle_eq_decide

theorem not_isNonPositive_eq (v : Word) : (!isNonPositive v) = decide (v.toInt > 0) := by
  rw [isNonPositive_eq, ← decide_not]
  exact decide_eq_decide.2 Int.not_le

/-- Settles O9: the condition that each branch tests is the one of its rule. -/
theorem conditionalBranches : Obligations.ConditionalBranches := by
  unfold Obligations.ConditionalBranches
  intro s rs rt imm h
  have eq := beq_eq_decide (s.x rs) (s.x rt)
  have ne := bne_eq_decide_ne (s.x rs) (s.x rt)
  have lez := isNonPositive_eq (s.x rs)
  have gtz := not_isNonPositive_eq (s.x rs)
  have ltz := isNegative_eq (s.x rs)
  have gez := not_isNegative_eq (s.x rs)
  exact ⟨relBranch_ends h eq, relBranch_ends h ne, relBranch_ends h lez, relBranch_ends h gtz, relBranch_ends h eq, relBranch_ends h ne,
    relBranch_ends h lez, relBranch_ends h gtz, relBranch_ends h ltz, relBranch_ends h gez, relBranch_ends h ltz, relBranch_ends h gez⟩

/-! ### Links (R288) -/

section
variable {s t : State} {rd : GReg} {v : Word}

theorem outsideSlot_setX (s : State) (rd : GReg) (v : Word) (r : Result) : outsideSlot (s.setX rd v) r = outsideSlot s r := by
  rw [outsideSlot, State.setX_pending, outsideSlot]

/-- What is latched does not depend on the link. -/
theorem Latched.of_setX {jump : Bool} {target : Word} (h : Latched jump target (s.setX rd v) t) : Latched jump target s t :=
  ⟨by simpa using h.pc, h.branchPC, by simpa using h.branching, by simpa using h.jumping⟩

theorem Skipped.of_setX (h : Skipped (s.setX rd v) t) : Skipped s t := by
  obtain ⟨hpc, htr⟩ := h
  exact ⟨by simpa using hpc, htr.branchPC.trans (by simp), htr.branching.trans (by simp), htr.jumping.trans (by simp)⟩

theorem BranchEnds.of_setX {likely taken : Bool} {imm : Half} (h : BranchEnds likely taken imm (s.setX rd v) t) :
    BranchEnds likely taken imm s t := by
  rw [BranchEnds, State.setX_pc] at h
  rw [BranchEnds]
  split_ifs at h ⊢
  · exact h.of_setX
  · exact h.of_setX
  · exact h.of_setX

variable (h : OnlyTransfer (fun _ => False) (s.setX rd v) t)
include h

/-- A transfer from the state in which the link is written changes nothing but the link. -/
theorem OnlyTransfer.of_setX : OnlyTransfer (fun r => r = rd) s t where
  gpr r hr := (h.gpr r id).trans (State.setX_x_of_ne s v hr)
  fpr r := (h.fpr r).trans (by simp)
  vpr k := (h.vpr k).trans (by simp)
  vc k := (h.vc k).trans (by simp)
  hiLo := ⟨h.hiLo.hi.trans (by simp), h.hiLo.lo.trans (by simp)⟩
  flags := ⟨h.flags.fcr31.trans (by simp), h.flags.fpcond.trans (by simp), h.flags.llBit.trans (by simp)⟩
  mem a := (h.mem a).trans (MemSame.of_eq (by simp) (by simp) a)
  rest := ⟨h.rest.failure.trans (by simp), h.rest.refused.trans (by simp), h.rest.sched.trans (by simp), h.rest.cfg.trans (by simp),
    h.rest.ir.trans (by simp), h.rest.drawCount.trans (by simp)⟩

theorem OnlyTransfer.link_x : t.x rd = if rd = 0#5 then 0#32 else v := (h.gpr rd id).trans (State.setX_x_self s rd v)

end

/-! ### Linking branches (R303 to R306) -/

theorem relBranchLink_eq (likely taken : Bool) (imm : Half) (s : State) :
    relBranchLink likely taken imm s = relBranch likely taken imm (s.setX 31 (s.cpu.pc + 8#32)) := by
  rw [relBranch, outsideSlot_setX, State.setX_pc, relBranchLink]

theorem relBranchLink_ends {likely c c' : Bool} {imm : Half} {s : State} (h : s.pending = false) (hc : c = c') :
    ∃ t, relBranchLink likely c imm s = .next t ∧ t.x 31#5 = s.cpu.pc + 8#32 ∧ BranchEnds likely c' imm s t ∧
      OnlyTransfer (fun r => r = 31#5) s t := by
  have hp : (s.setX 31 (s.cpu.pc + 8#32)).pending = false := (State.setX_pending _ _ _).trans h
  obtain ⟨t, hnext, hends, honly⟩ := relBranch_ends (likely := likely) (imm := imm) hp hc
  exact ⟨t, (relBranchLink_eq _ _ _ _).trans hnext, honly.link_x, hends.of_setX, honly.of_setX⟩

/-- Settles O10: the condition is that of the old register, and the branch ends as one from the linked state. -/
theorem linkingBranches : Obligations.LinkingBranches := by
  unfold Obligations.LinkingBranches
  intro s rs imm h
  have ltz := isNegative_eq (s.x rs)
  have gez := not_isNegative_eq (s.x rs)
  exact ⟨relBranchLink_ends h ltz, relBranchLink_ends h gez, relBranchLink_ends h ltz, relBranchLink_ends h gez⟩

/-! ### Jumps (R307 to R310) -/

theorem latched_latchJump (target : Word) (s : State) : Latched true target s (s.latchJump target) := ⟨rfl, rfl, rfl, rfl⟩

theorem onlyTransfer_latchJump (target : Word) (s : State) : OnlyTransfer (fun _ => False) s (s.latchJump target) :=
  ⟨fun _ _ => rfl, fun _ => rfl, fun _ => rfl, fun _ => rfl, ⟨rfl, rfl⟩, ⟨rfl, rfl, rfl⟩, MemSame.of_eq rfl rfl,
    ⟨rfl, rfl, rfl, rfl, rfl, rfl⟩⟩

theorem outsideSlot_of_not_pending {s : State} (h : s.pending = false) (r : Result) : outsideSlot s r = r := by
  simp [outsideSlot, h]

theorem jump_spec {s : State} (h : s.pending = false) {target target' : Word} (ht : target = target') :
    ∃ t, outsideSlot s (.next (s.latchJump target)) = .next t ∧ Latched true target' s t ∧ OnlyTransfer (fun _ => False) s t :=
  ⟨_, outsideSlot_of_not_pending h _, ht ▸ latched_latchJump _ _, onlyTransfer_latchJump _ _⟩

theorem jumpLink_spec {s : State} (h : s.pending = false) (rd : GReg) (v : Word) {target target' : Word} (ht : target = target') :
    ∃ t, outsideSlot s (.next ((s.setX rd v).latchJump target)) = .next t ∧ t.x rd = (if rd = 0#5 then 0#32 else v) ∧
      Latched true target' s t ∧ OnlyTransfer (fun r => r = rd) s t := by
  obtain ⟨t, hnext, hlatched, honly⟩ := jump_spec ((State.setX_pending s rd v).trans h) ht
  exact ⟨t, (outsideSlot_setX _ _ _ _).symm.trans hnext, honly.link_x, hlatched.of_setX, honly.of_setX⟩

/-- The 256 MiB region of the delay slot, and a word in it (R286). -/
theorem jumpTarget_eq (pc : Word) (target : BitVec 26) :
    jumpTarget pc target = BitVec.ofNat 32 ((pc + 4#32).toNat / 2 ^ 28 * 2 ^ 28 + target.toNat * 4) := by
  apply BitVec.eq_of_toNat_eq
  have hpc := (pc + 4#32).isLt
  have ht := target.isLt
  rw [jumpTarget, BitVec.toNat_append, BitVec.toNat_append, ← Nat.shiftLeft_add_eq_or_of_lt (0#2).isLt,
    ← Nat.shiftLeft_add_eq_or_of_lt ht, BitVec.extractLsb'_toNat, BitVec.toNat_ofNat, BitVec.toNat_ofNat]
  simp only [Nat.shiftLeft_eq, Nat.shiftRight_eq_div_pow]
  omega

/-- Settles O11: a jump latches its target as it was before the link is written (`jump_spec`, `jumpLink_spec`). -/
theorem jumpsLatchTarget : Obligations.JumpsLatchTarget := by
  unfold Obligations.JumpsLatchTarget
  intro s rs rd target h
  have region := jumpTarget_eq s.cpu.pc target
  exact ⟨jump_spec h region, jumpLink_spec h 31 _ region, jump_spec h rfl, jumpLink_spec h rd _ rfl⟩

/-! ### Transfers in a delay slot (R287) -/

/-- The branches and jumps on given operands. -/
def transfers (rs rt rd : GReg) (imm : Half) (target : BitVec 26) (cc : BitVec 3) : List Instr := [
  .beq rs rt imm, .bne rs rt imm, .blez rs rt imm, .bgtz rs rt imm, .beql rs rt imm, .bnel rs rt imm, .blezl rs rt imm,
  .bgtzl rs rt imm, .bltz rs imm, .bgez rs imm, .bltzl rs imm, .bgezl rs imm, .bltzal rs imm, .bgezal rs imm,
  .bltzall rs imm, .bgezall rs imm, .j target, .jal target, .jr rs, .jalr rs rd, .bc1f imm, .bc1t imm, .bc1fl imm,
  .bc1tl imm, .bvf cc imm, .bvt cc imm, .bvfl cc imm, .bvtl cc imm]

/-- A branch or jump. -/
def IsTransfer (i : Instr) : Prop := ∃ rs rt rd imm target cc, i ∈ transfers rs rt rd imm target cc

/-- Every branch and jump is guarded, and completes where the guard lets it run. -/
theorem IsTransfer.exec_eq_outsideSlot {i : Instr} (h : IsTransfer i) (s : State) : ∃ t, exec i s = outsideSlot s (.next t) := by
  obtain ⟨rs, rt, rd, imm, target, cc, hi⟩ := h
  revert i
  simp only [transfers, List.forall_mem_cons, List.not_mem_nil, false_implies, implies_true, and_true]
  and_intros <;> exact ⟨_, rfl⟩

theorem IsTransfer.exec_refused_iff {i : Instr} (h : IsTransfer i) (s : State) :
    exec i s = .refused .ctiInDelaySlot ↔ s.pending = true := by
  obtain ⟨t, ht⟩ := h.exec_eq_outsideSlot s
  rw [ht]
  cases hp : s.pending <;> simp [outsideSlot, hp, refuse]

/-! ### The refusals of the other instructions -/

/-- The refusals that an instruction has on its operands or prefixes (60_exceptions.md R703). -/
def operandRefusals : List Refusal := [.extInsRange, .vfpuBadSize, .vfpuBadField, .prefixOnMatrixOp, .unmodelledVfpuOp]

/-- A result that, if it is a refusal, is one of these. -/
def RefusesOnlyOperands (r : Result) : Prop := ∀ e, r = .refused e → e ∈ operandRefusals

section
variable {s : State} {r r' : Result}

theorem RefusesOnlyOperands.next (t : State) : RefusesOnlyOperands (.next t) := by rintro e ⟨⟩

theorem RefusesOnlyOperands.refuse {e : Refusal} (h : e ∈ operandRefusals) : RefusesOnlyOperands (refuse e) := by
  rintro e' ⟨⟩
  exact h

theorem RefusesOnlyOperands.ite {c : Prop} [Decidable c] (h : RefusesOnlyOperands r) (h' : RefusesOnlyOperands r') :
    RefusesOnlyOperands (if c then r else r') := by
  split
  · exact h
  · exact h'

theorem RefusesOnlyOperands.sized {ok : Bool} (h : RefusesOnlyOperands r) : RefusesOnlyOperands (sized ok r) :=
  .ite h (.refuse (by decide))

theorem RefusesOnlyOperands.matrixOp {sz : Size} (h : RefusesOnlyOperands r) : RefusesOnlyOperands (matrixOp sz s r) :=
  .ite h.sized (.refuse (by decide))

theorem RefusesOnlyOperands.checked (h : RefusesOnlyOperands r) (a : Word) (n align : Nat) :
    RefusesOnlyOperands (checked a n align s r) := by
  unfold Machine.checked
  split
  · exact .next _
  · exact h

theorem RefusesOnlyOperands.checkedWords (h : RefusesOnlyOperands r) (l : List Word) : RefusesOnlyOperands (checkedWords l s r) := by
  induction l with
  | nil => exact h
  | cons a rest ih => exact ih.checked a 4 4

theorem RefusesOnlyOperands.checkedQuad (h : RefusesOnlyOperands r) (ea : Word) : RefusesOnlyOperands (checkedQuad ea s r) :=
  .ite (.next _) (h.checkedWords _)

end

/-- Every instruction but `syscall` and the transfers, by how it ends; those not named complete or raise on every operand. -/
theorem exec_refusesOnlyOperands {i : Instr} (hsys : ∀ code, i ≠ .syscall code) (htr : ¬ IsTransfer i) (s : State) :
    RefusesOnlyOperands (exec i s) := by
  cases i with
  | syscall code => exact absurd rfl (hsys code)
  | beq | bne | blez | bgtz | beql | bnel | blezl | bgtzl | bltz | bgez | bltzl | bgezl | bltzal | bgezal | bltzall | bgezall | j | jal | jr
  | jalr | bc1f | bc1t | bc1fl | bc1tl | bvf | bvt | bvfl | bvtl => simp [IsTransfer, transfers] at htr
  | add | sub | addi | movz | movn | ctc1 => exact .ite (.next _) (.next _)
  | ext | ins => exact .ite (.refuse (by decide)) (.next _)
  | lb | lbu | lh | lhu | lw | lwl | lwr | sb | sh | sw | swl | swr | ll | lwc1 | swc1 | lvS | svS => exact .checked (.next _) _ _ _
  | sc => exact .ite (.checked (.next _) _ _ _) (.next _)
  | lvQ | svQ => exact .checkedQuad (.next _) _
  | lvlQ | lvrQ | svlQ | svrQ => exact .checkedWords (.next _) _
  | mfvc | mtvc | vmtvc =>
    simp only [exec, execMfvc, execMtvc, execVmtvc]
    split <;> exact .next _
  | vsbn | vscl | vhdp | vcrsT | vdetP | vidt | vh2f | vsrt1 | vsrt2 | vsrt3 | vsrt4 | vbfy1 | vbfy2 | vsocp | vrot | vrnds | vf2h | vuc2i
  | vc2i | vus2i | vs2i | vi2uc | vi2c | vi2us | vi2s | vt4444 | vt5551 | vt5650 => exact .sized (.next _)
  | vcmovt | vcmovf => exact .ite (.refuse (by decide)) (.next _)
  | vsbz | vlgb | vwbn => exact .refuse (by decide)
  | vmmul | vmscl | vmmov | vmidt | vmzero | vmone | vtfm2P | vhtfm2P | vtfm3T | vhtfm3T | vtfm4Q | vhtfm4Q => exact .matrixOp (.next _)
  | _ => exact .next _

/-- Settles O12: a transfer is refused where one is pending (`IsTransfer.exec_refused_iff`), and no other refusal is this one
(`exec_refusesOnlyOperands`). -/
theorem transferInSlotRefused : Obligations.TransferInSlotRefused := by
  unfold Obligations.TransferInSlotRefused
  intro s i l hl
  obtain rfl : l = transfers := by
    funext rs rt rd imm target cc
    exact hl rs rt rd imm target cc
  refine ⟨fun hp (htr : IsTransfer i) => (htr.exec_refused_iff s).2 hp, fun hsys href => ?_⟩
  have htr : IsTransfer i := by
    by_contra htr
    exact absurd (exec_refusesOnlyOperands hsys htr s _ href) (by decide)
  exact ⟨(htr.exec_refused_iff s).1 href, htr⟩

/-! ### The end of the delay slot (R280) -/

section
variable (slot : Bool) (target : Word) (s : State)

theorem settle_gpr_zero : (settle slot target s).cpu.gpr[0] = 0#32 := by
  cases slot <;> simp [settle, State.zeroX0, State.takeDraws, State.resolveSlot]

theorem settle_hiLo : HiLoSame s (settle slot target s) := by cases slot <;> exact ⟨rfl, rfl⟩

theorem settle_flags : FlagsSame s (settle slot target s) := by cases slot <;> exact ⟨rfl, rfl, rfl⟩

theorem settle_true_pending : (settle true target s).pending = false := rfl

theorem settle_false_transfer : TransferSame s (settle false target s) := ⟨rfl, rfl, rfl⟩

end

theorem executeInstr_of_completed {i : Instr} {s u : State} (h : exec i s = .next u) (hf : u.failure = none) :
    executeInstr i s = .next (settle s.pending s.cpu.branchPC u) := by
  simp [executeInstr, h, hf]

/-- Settles O14: an instruction that completes is settled (`executeInstr_of_completed`), by whether a transfer was pending when it
began. -/
theorem delaySlotThenTarget : Obligations.DelaySlotThenTarget := by
  unfold Obligations.DelaySlotThenTarget
  intro s u i hex hf
  refine ⟨_, executeInstr_of_completed hex hf, settle_gpr_zero _ _ u, fun hp => ?_, fun hp => ?_, fun r => settle_x _ _ u r,
    fun r => settle_f _ _ u r, fun k => settle_vr _ _ u k, fun k => settle_vc _ _ u k, settle_hiLo _ _ u, settle_flags _ _ u,
    MemSame.of_eq (settle_mem _ _ u) (settle_cfg _ _ u), (settle_failure _ _ u).trans hf, settle_refused _ _ u, settle_sched _ _ u,
    settle_cfg _ _ u⟩
  · rw [hp]
    exact ⟨rfl, settle_true_pending _ u⟩
  · rw [hp]
    exact ⟨rfl, settle_false_transfer _ u⟩

end Sys2Proof.Machine
end

section
/-! PROOF. Loads and stores (42_loadstore.md R321 to R345): an instruction is one access, or a sequence of words, whose check passes
(`checked_ok`, `checkedWords_range_ok`), and then one write: of a register, or of memory alone (`onlyMem_done`). What a byte or a word reads
as after a store is a matter of keys: an unaligned store writes back the bytes that it keeps (`State.storeWord_loadByte_of_kept`), and the
words of one block do not meet (`wordsApart_wordUp`). -/

namespace Sys2Proof.Machine

open Sys2Proof

/-! ### Loads (R321 to R325, R336, R338) -/

/-- A load into `x[rt]` whose value is the value of its rule. -/
theorem checked_writesX {s : State} {a : Word} {n al : Nat} {v w : Word} (rt : GReg) (h : v = w) (ha : Accessible s a n al) :
    ∃ t, checked a n al s (done (s.setX rt v)) = .next t ∧ WritesX rt w s t :=
  ⟨_, checked_ok _ ha, h ▸ writesX_done rt v s⟩

/-- Settles O17: an accessible load writes its register (`checked_writesX`) with the byte, halfword or word there, extended. -/
theorem loadsWriteTheirRegister : Obligations.LoadsWriteTheirRegister := by
  unfold Obligations.LoadsWriteTheirRegister
  intro s rs rt imm off hi ea va hea hva
  obtain rfl : ea = s.ea rs imm := hea
  obtain rfl : va = s.vea rs off := hva.trans (s.vea_eq rs off).symm
  refine ⟨checked_writesX rt rfl, checked_writesX rt (BitVec.ofNat_toNat 32 _).symm, checked_writesX rt rfl,
    checked_writesX rt (BitVec.ofNat_toNat 32 _).symm, checked_writesX rt rfl,
    fun ha => ⟨_, checked_ok _ ha, writesF_done rt _ s⟩, fun ha => ⟨_, checked_ok _ ha, onlyVpr_done _ _ s, fun k => ?_⟩⟩
  rw [State.advance_vr, State.setVr_vr, singleReg_eq]

/-! ### Stores (R328 to R330, R337, R339) -/

theorem onlyMem_storeByte (s : State) (a : Word) (v : Byte) : OnlyMem s (s.storeByte a v).advance :=
  have ⟨hcpu, hrest⟩ := State.storeByte_rest s a v
  onlyMem_done hcpu hrest

theorem onlyMem_storeHalf (s : State) (a : Word) (v : Half) : OnlyMem s (s.storeHalf a v).advance :=
  have ⟨hcpu, hrest⟩ := State.storeHalf_rest s a v
  onlyMem_done hcpu hrest

theorem onlyMem_storeWord (s : State) (a v : Word) : OnlyMem s (s.storeWord a v).advance :=
  have ⟨hcpu, hrest⟩ := State.storeWord_rest s a v
  onlyMem_done hcpu hrest

/-- A store of a word: it reads back, and no byte outside it changes. -/
theorem checked_storeWord {s : State} {a v w : Word} (h : s.mem.wf = true) (hv : v = w) (ha : Accessible s a 4 4) :
    ∃ t, checked a 4 4 s (done (s.storeWord a v)) = .next t ∧ t.loadWord a = w ∧
      (∀ b, OutsideBytes s.cfg a 4 b → t.loadByte b = s.loadByte b) ∧ OnlyMem s t :=
  ⟨_, checked_ok _ ha, hv ▸ State.storeWord_loadWord s a v h ha, fun b => State.storeWord_loadByte_of_outside s a b v h,
    onlyMem_storeWord s a v⟩

/-- Settles O18: an accessible store is the store of its bytes, which read back and leave the bytes outside them. -/
theorem storesWriteTheirBytes : Obligations.StoresWriteTheirBytes := by
  unfold Obligations.StoresWriteTheirBytes
  intro s rs rt imm off hi ea va hea hva h
  obtain rfl : ea = s.ea rs imm := hea
  obtain rfl : va = s.vea rs off := hva.trans (s.vea_eq rs off).symm
  refine ⟨fun ha => ⟨_, checked_ok _ ha, ?byte, fun b => ?byteFrame, onlyMem_storeByte s _ _⟩,
    fun ha => ⟨_, checked_ok _ ha, ?half, fun b => ?halfFrame, onlyMem_storeHalf s _ _⟩,
    checked_storeWord h rfl, checked_storeWord h rfl, checked_storeWord h (by rw [singleReg_eq])⟩
  case byte => exact State.storeByte_loadByte_self s _ _ h ha
  case byteFrame => exact State.storeByte_loadByte_of_outside s _ b _ h
  case half => exact State.storeHalf_loadHalf s _ _ h ha
  case halfFrame => exact State.storeHalf_loadByte_of_outside s _ b _ h

/-! ### Unaligned loads and stores (R326, R327, R331, R332)

Below, `ea.toNat % 4` is the place of `ea` in its aligned word. -/

/-- The byte that `lwl` loads from `ea - j`, or keeps. -/
theorem lwlMerge_loadWord_byte (s : State) (ea old : Word) (j : Nat) (hj : j < 4) :
    (lwlMerge old (s.loadWord (alignWord ea)) (byteShift ea)).extractLsb' (8 * (3 - j)) 8 =
      if j ≤ ea.toNat % 4 then s.loadByte (ea - BitVec.ofNat 32 j) else old.extractLsb' (8 * (3 - j)) 8 := by
  have hflip : 3 - (3 - j) = j := by omega
  rw [byteShift_eq, lwlMerge_byte _ _ _ _ (by omega) (by omega), hflip]
  split
  · next hle => rw [State.loadWord_byte _ _ _ (by omega), ea_sub_eq ea j hle]
  · rfl

/-- The byte that `lwr` loads from `ea + j`, or keeps. -/
theorem lwrMerge_loadWord_byte (s : State) (ea old : Word) (j : Nat) (hj : j < 4) :
    (lwrMerge old (s.loadWord (alignWord ea)) (byteShift ea)).extractLsb' (8 * j) 8 =
      if j ≤ 3 - ea.toNat % 4 then s.loadByte (ea + BitVec.ofNat 32 j) else old.extractLsb' (8 * j) 8 := by
  rw [byteShift_eq, lwrMerge_byte _ _ _ _ (by omega) hj]
  split
  · rw [State.loadWord_byte _ _ _ (by omega), ea_add_eq ea j]
  · rfl

/-- A store of a word keeps a byte where every byte of the word that has its key is stored as it was. -/
theorem State.storeWord_loadByte_of_kept {s : State} {a b v : Word} (h : s.mem.wf = true) (ha : Accessible s a 4 4)
    (keep : ∀ m, m < 4 → byteKey s.cfg b = byteKey s.cfg (a + BitVec.ofNat 32 m) →
      v.extractLsb' (8 * m) 8 = (s.loadWord a).extractLsb' (8 * m) 8) :
    (s.storeWord a v).loadByte b = s.loadByte b := by
  by_cases hout : OutsideBytes s.cfg a 4 b
  · exact State.storeWord_loadByte_of_outside s a b v h hout
  · obtain ⟨m, hm, hkey⟩ : ∃ m, m < 4 ∧ byteKey s.cfg b = byteKey s.cfg (a + BitVec.ofNat 32 m) := by
      simpa [OutsideBytes] using hout
    have hkey' : byteKey (s.storeWord a v).cfg b = byteKey (s.storeWord a v).cfg (a + BitVec.ofNat 32 m) := by
      rwa [State.storeWord_cfg]
    calc (s.storeWord a v).loadByte b
        = (s.storeWord a v).loadByte (a + BitVec.ofNat 32 m) := State.loadByte_congr_key hkey'
      _ = v.extractLsb' (8 * m) 8 := State.storeWord_loadByte_self s a v h ha m hm
      _ = (s.loadWord a).extractLsb' (8 * m) 8 := keep m hm hkey
      _ = s.loadByte (a + BitVec.ofNat 32 m) := State.loadWord_byte s a m hm
      _ = s.loadByte b := (State.loadByte_congr_key hkey).symm

section
variable {s : State} {ea : Word} (h : s.mem.wf = true) (ha : Accessible s (alignWord ea) 4 4) (v : Word)
include h ha

/-- What `swl` stores. -/
theorem storeWord_swlMerge_loadByte {j : Nat} (hj : j ≤ ea.toNat % 4) :
    (s.storeWord (alignWord ea) (swlMerge (s.loadWord (alignWord ea)) v (byteShift ea))).loadByte (ea - BitVec.ofNat 32 j) =
      v.extractLsb' (8 * (3 - j)) 8 := by
  have hflip : ea.toNat % 4 - (ea.toNat % 4 - j) = j := by omega
  rw [ea_sub_eq ea j hj, State.storeWord_loadByte_self s _ _ h ha _ (by omega), byteShift_eq,
    swlMerge_byte _ _ _ _ (by omega) (by omega), if_pos (by omega), hflip]

/-- What `swr` stores. -/
theorem storeWord_swrMerge_loadByte {j : Nat} (hj : j ≤ 3 - ea.toNat % 4) :
    (s.storeWord (alignWord ea) (swrMerge (s.loadWord (alignWord ea)) v (byteShift ea))).loadByte (ea + BitVec.ofNat 32 j) =
      v.extractLsb' (8 * j) 8 := by
  rw [ea_add_eq ea j, State.storeWord_loadByte_self s _ _ h ha _ (by omega), byteShift_eq,
    swrMerge_byte _ _ _ _ (by omega) (by omega), if_pos (by omega), Nat.add_sub_cancel_left]

/-- What `swl` keeps: of the aligned word, the bytes above `ea`. -/
theorem storeWord_swlMerge_frame {b : Word}
    (hb : ∀ j, j ≤ ea.toNat % 4 → byteKey s.cfg b ≠ byteKey s.cfg (ea - BitVec.ofNat 32 j)) :
    (s.storeWord (alignWord ea) (swlMerge (s.loadWord (alignWord ea)) v (byteShift ea))).loadByte b = s.loadByte b := by
  refine State.storeWord_loadByte_of_kept h ha fun m hm hkey => ?_
  have habove : ¬ m ≤ ea.toNat % 4 := fun hle => by
    refine hb (ea.toNat % 4 - m) (by omega) ?_
    rw [hkey, ea_sub_eq ea _ (by omega), Nat.sub_sub_self hle]
  rw [byteShift_eq, swlMerge_byte _ _ _ _ (by omega) hm, if_neg habove]

/-- What `swr` keeps: of the aligned word, the bytes below `ea`. -/
theorem storeWord_swrMerge_frame {b : Word}
    (hb : ∀ j, j ≤ 3 - ea.toNat % 4 → byteKey s.cfg b ≠ byteKey s.cfg (ea + BitVec.ofNat 32 j)) :
    (s.storeWord (alignWord ea) (swrMerge (s.loadWord (alignWord ea)) v (byteShift ea))).loadByte b = s.loadByte b := by
  refine State.storeWord_loadByte_of_kept h ha fun m hm hkey => ?_
  have hbelow : ¬ ea.toNat % 4 ≤ m := fun hle => by
    refine hb (m - ea.toNat % 4) (by omega) ?_
    rw [hkey, ea_add_eq ea, Nat.add_sub_cancel' hle]
  rw [byteShift_eq, swrMerge_byte _ _ _ _ (by omega) hm, if_neg hbelow]

end

/-- Settles O19: the merged word holds each byte of its rule, and the bytes that a store keeps are written back. -/
theorem unalignedLoadsStores : Obligations.UnalignedLoadsStores := by
  unfold Obligations.UnalignedLoadsStores
  intro s rs rt imm ea hea ha
  obtain rfl : ea = s.ea rs imm := hea
  rw [← alignWord_eq] at ha
  refine ⟨⟨_, _, checked_ok _ ha, writesX_done rt _ s, lwlMerge_loadWord_byte s _ _⟩,
    ⟨_, _, checked_ok _ ha, writesX_done rt _ s, lwrMerge_loadWord_byte s _ _⟩,
    fun h => ⟨_, checked_ok _ ha, onlyMem_storeWord s _ _, fun j hj => ?swl, fun b hb => ?swlFrame⟩,
    fun h => ⟨_, checked_ok _ ha, onlyMem_storeWord s _ _, fun j hj => ?swr, fun b hb => ?swrFrame⟩⟩
  case swl => rw [State.advance_loadByte, storeWord_swlMerge_loadByte h ha _ hj]
  case swlFrame => rw [State.advance_loadByte, storeWord_swlMerge_frame h ha _ hb]
  case swr => rw [State.advance_loadByte, storeWord_swrMerge_loadByte h ha _ hj]
  case swrFrame => rw [State.advance_loadByte, storeWord_swrMerge_frame h ha _ hb]

/-! ### `ll` and `sc` (R334, R335) -/

/-- But for the reservation, `ll` ends as `lw` does. -/
theorem advance_setLlBit_restored (s : State) (rt : GReg) (v : Word) (b : Bool) :
    { ((s.setX rt v).setLlBit b).advance with cpu := { ((s.setX rt v).setLlBit b).advance.cpu with llBit := s.cpu.llBit } } =
      (s.setX rt v).advance := by
  unfold State.setX
  split <;> rfl

/-- Stores change memory alone. -/
theorem State.storeByte_withMem (s : State) (a : Word) (v : Byte) (m : Memory) :
    { s.storeByte a v with mem := m } = { s with mem := m } := by
  unfold State.storeByte
  split <;> rfl

theorem State.storeWord_withMem (s : State) (a v : Word) (m : Memory) : { s.storeWord a v with mem := m } = { s with mem := m } := by
  simp only [State.storeWord, State.storeByte_withMem]

/-- But for memory, a store that also writes `x[rt]` ends as the write of `x[rt]` alone. -/
theorem storeWord_setX_withMem (s : State) (a w : Word) (rt : GReg) (v : Word) :
    { ((s.storeWord a w).setX rt v).advance with mem := s.mem } = (s.setX rt v).advance := by
  have hset (u : State) : { (u.setX rt v).advance with mem := s.mem } = (State.setX { u with mem := s.mem } rt v).advance := by
    unfold State.setX
    split <;> rfl
  rw [hset, State.storeWord_withMem]

/-- Memory reads the same after a write of `x[rt]`. -/
theorem setX_advance_loadByte (s : State) (rt : GReg) (v b : Word) : (s.setX rt v).advance.loadByte b = s.loadByte b :=
  State.loadByte_congr (State.setX_mem s rt v) (State.setX_cfg s rt v) b

theorem setX_advance_loadWord (s : State) (rt : GReg) (v a : Word) : (s.setX rt v).advance.loadWord a = s.loadWord a := by
  simp only [State.loadWord, setX_advance_loadByte]

/-- Settles O20: `ll` is `lw` but for the reservation (`advance_setLlBit_restored`); `sc` is `sw` and a write of `x[rt]` with it
(`storeWord_setX_withMem`), the write alone without it. -/
theorem loadLinkedStoreConditional : Obligations.LoadLinkedStoreConditional := by
  unfold Obligations.LoadLinkedStoreConditional
  intro s rs rt imm ea hea
  obtain rfl : ea = s.ea rs imm := hea
  refine ⟨fun ha => ⟨_, checked_ok _ ha, rfl, ?load⟩,
    fun hll ha h => ⟨_, (if_pos hll).trans (checked_ok _ ha), ?stored, ?success, fun b hb => ?frame, ?only⟩,
    fun hll => ⟨_, if_neg (by simp [hll]), writesX_done rt _ s⟩⟩
  case load =>
    rw [advance_setLlBit_restored]
    exact writesX_done rt _ s
  case stored => rw [setX_advance_loadWord, State.storeWord_loadWord s _ _ h ha]
  case success => rw [State.advance_x, State.setX_x_self]
  case frame => rw [setX_advance_loadByte, State.storeWord_loadByte_of_outside s _ b _ h hb]
  case only =>
    rw [storeWord_setX_withMem]
    exact onlyX_done rt _ s

/-! ### Quad loads (R340, R342, R343) -/

/-- Accessible words `f 0`, `f 1` and so on pass their checks. -/
theorem checkedWords_range_ok {s : State} {f : Nat → Word} {n : Nat} (r : Result) (ha : ∀ i, i < n → Accessible s (f i) 4 4) :
    checkedWords ((List.range n).map f) s r = r :=
  checkedWords_ok r (by simpa using ha)

theorem onlyVpr_of_onlySlots {s t : State} (h : OnlySlots s t) : OnlyVpr s t.advance := by
  unfold OnlySlots at h
  generalize t.cpu.vpr = slots at h
  subst h
  exact ⟨rfl, fun _ => rfl, fun _ => rfl, fun _ => rfl, ⟨rfl, rfl⟩, ⟨rfl, rfl, rfl⟩, ⟨rfl, rfl, rfl⟩, fun _ => rfl,
    ⟨rfl, rfl, rfl, rfl, rfl, rfl⟩⟩

/-- A quad load whose lanes are the lanes of its rule. -/
theorem checkedWords_writeVector {s : State} {f : Nat → Word} {n : Nat} {d e : Lanes} {q r : VReg} (hq : q = r) (hd : d = e)
    (ha : ∀ i, i < n → Accessible s (f i) 4 4) :
    ∃ t, checkedWords ((List.range n).map f) s (done (s.writeVector .quad q d)) = .next t ∧ OnlyVpr s t ∧
      VectorWritten .quad r e s t := by
  subst hq hd
  obtain ⟨hslots, hlanes, hothers⟩ := writeVector_spec s .quad q d
  exact ⟨_, checkedWords_range_ok _ ha, onlyVpr_of_onlySlots hslots, hlanes, hothers⟩

/-- Settles O21: the words of each transfer pass their checks, and the lanes are written under the mask alone
(`checkedWords_writeVector`). -/
theorem quadLoads : Obligations.QuadLoads := by
  unfold Obligations.QuadLoads
  intro s rs vt off hi ea r k hea hr hk
  obtain rfl : ea = s.vea rs off := hea.trans (s.vea_eq rs off).symm
  obtain rfl : k = quadIndex (s.vea rs off) := hk.trans (quadIndex_eq _).symm
  have hreg : quadReg vt hi = r := (quadReg_eq vt hi).trans hr.symm
  refine ⟨fun hal ha => ?quad, fun ha => ?left, fun ha => ?right⟩
  case quad =>
    obtain ⟨t, hnext, ht⟩ := checkedWords_writeVector hreg rfl ha
    exact ⟨t, (if_neg (not_not.2 hal)).trans hnext, ht⟩
  case left =>
    refine checkedWords_writeVector hreg (funext fun i => ?_) fun i hi => ha i (by omega)
    have hlane : 3 - i ≤ quadIndex (s.vea rs off) ↔ 3 - quadIndex (s.vea rs off) ≤ i := by omega
    simp only [hlane, hreg]
    rfl
  case right =>
    refine checkedWords_writeVector hreg (funext fun i => ?_) fun i hi => ha i (by omega)
    rw [hreg]
    rfl

/-! ### Quad stores (R341, R344, R345) -/

/-- No byte of the word at `a` is a byte of the word at `b`. -/
def WordsApart (p : Params) (a b : Word) : Prop :=
  ∀ i j, i < 4 → j < 4 → byteKey p (a + BitVec.ofNat 32 i) ≠ byteKey p (b + BitVec.ofNat 32 j)

theorem WordsApart.symm {p : Params} {a b : Word} (h : WordsApart p a b) : WordsApart p b a :=
  fun i j hi hj => (h j i hj hi).symm

theorem wordUp_byte (a : Word) (d j : Nat) : wordUp a d + BitVec.ofNat 32 j = a + BitVec.ofNat 32 (4 * d + j) := by
  rw [wordUp, BitVec.add_assoc, BitVec.ofNat_add]

/-- Accessible words of one block are apart: the distance of two of their bytes does not reach a mirror. -/
theorem wordsApart_wordUp {s : State} {a : Word} {d : Nat} (hd : 0 < d) (hd4 : d < 4) (ha : Accessible s a 4 4)
    (hb : Accessible s (wordUp a d) 4 4) : WordsApart s.cfg a (wordUp a d) := by
  intro i j hi hj hkey
  obtain ⟨k, hk⟩ := byteKey_of_accessFault ha hi
  obtain ⟨l, hl⟩ := byteKey_of_accessFault hb hj
  rw [hk, hl] at hkey
  rw [wordUp_byte] at hl
  exact byteKey_ne (by omega) (by omega) (by omega) hk hl (Option.some.inj hkey)

theorem wordUp_wordUp {a : Word} {i j : Nat} (h : i ≤ j) : wordUp (wordUp a i) (j - i) = wordUp a j := by
  have hsum : 4 * i + 4 * (j - i) = 4 * j := by omega
  rw [wordUp, wordUp_byte, hsum, wordUp]

theorem wordUp_wordDown {a : Word} {i j : Nat} (h : i ≤ j) : wordUp (wordDown a j) (j - i) = wordDown a i := by
  simp only [wordUp, wordDown]
  apply BitVec.eq_of_toNat_eq
  simp only [BitVec.toNat_sub, BitVec.toNat_add, BitVec.toNat_ofNat]
  omega

theorem State.loadWord_congr_bytes {s t : State} {a : Word}
    (h : ∀ i, i < 4 → t.loadByte (a + BitVec.ofNat 32 i) = s.loadByte (a + BitVec.ofNat 32 i)) : t.loadWord a = s.loadWord a := by
  have h0 := h 0 (by decide)
  rw [BitVec.add_zero] at h0
  rw [State.loadWord, State.loadWord, h0, h 1 (by decide), h 2 (by decide), h 3 (by decide)]

/-- Stored words that are apart all read back. -/
theorem storeWords_loadWord {l : List (Word × Word)} {s : State} (h : s.mem.wf = true) (ha : ∀ p, p ∈ l → Accessible s p.1 4 4)
    (hapart : l.Pairwise fun p q => WordsApart s.cfg p.1 q.1) : ∀ p, p ∈ l → (storeWords l s).loadWord p.1 = p.2 := by
  induction l generalizing s with
  | nil => exact nofun
  | cons q rest ih =>
    obtain ⟨hq, hrest⟩ := List.pairwise_cons.1 hapart
    have hwf : (s.storeWord q.1 q.2).mem.wf = true := State.storeWord_wf s _ _ h
    have hcfg : (s.storeWord q.1 q.2).cfg = s.cfg := State.storeWord_cfg s _ _
    intro p hp
    rw [storeWords]
    rcases List.mem_cons.1 hp with rfl | hp
    · have hkept : ∀ i, i < 4 → (storeWords rest (s.storeWord p.1 p.2)).loadByte (p.1 + BitVec.ofNat 32 i) =
          (s.storeWord p.1 p.2).loadByte (p.1 + BitVec.ofNat 32 i) := fun i hi =>
        storeWords_loadByte_of_outside rest _ _ hwf fun r hr j hj => hcfg ▸ hq r hr i j hi hj
      rw [State.loadWord_congr_bytes hkept, State.storeWord_loadWord s _ _ h (ha p (by simp))]
    · refine ih hwf (fun r hr => ?_) (hcfg.symm ▸ hrest) p hp
      rw [Accessible, hcfg]
      exact ha r (List.mem_cons_of_mem _ hr)

/-- A quad store of the words `g 0`, `g 1` and so on at `f 0`, `f 1` and so on. -/
theorem checkedWords_storeWords {s : State} {f : Nat → Word} {g : Nat → Word} {n : Nat} (h : s.mem.wf = true)
    (ha : ∀ i, i < n → Accessible s (f i) 4 4) (hapart : ∀ i j, i < j → j < n → WordsApart s.cfg (f i) (f j)) :
    ∃ t, checkedWords ((List.range n).map f) s (done (storeWords ((List.range n).map fun i => (f i, g i)) s)) = .next t ∧
      OnlyMem s t ∧ (∀ i, i < n → t.loadWord (f i) = g i) ∧
      ∀ b, (∀ i, i < n → OutsideBytes s.cfg (f i) 4 b) → t.loadByte b = s.loadByte b := by
  obtain ⟨hcpu, hrest⟩ := storeWords_rest ((List.range n).map fun i => (f i, g i)) s
  refine ⟨_, checkedWords_range_ok _ ha, onlyMem_done hcpu hrest, fun i hi => ?read, fun b hb => ?frame⟩
  case read =>
    refine storeWords_loadWord h (by simpa using ha) ?_ (f i, g i) (List.mem_map.2 ⟨i, List.mem_range.2 hi, rfl⟩)
    rw [List.pairwise_map]
    exact List.Pairwise.imp_of_mem (fun _ hj hij => hapart _ _ hij (List.mem_range.1 hj)) List.pairwise_lt_range
  case frame => exact storeWords_loadByte_of_outside _ s b h (by simpa using hb)

/-- Words upward in one block are apart. -/
theorem wordsApart_up {s : State} {ea : Word} {n : Nat} (hn : n ≤ 4) (ha : ∀ i, i < n → Accessible s (wordUp ea i) 4 4) (i j : Nat)
    (hij : i < j) (hj : j < n) : WordsApart s.cfg (wordUp ea i) (wordUp ea j) := by
  rw [← wordUp_wordUp hij.le]
  refine wordsApart_wordUp (by omega) (by omega) (ha i (by omega)) ?_
  rw [wordUp_wordUp hij.le]
  exact ha j hj

/-- Words downward in one block are apart. -/
theorem wordsApart_down {s : State} {ea : Word} {n : Nat} (hn : n ≤ 4) (ha : ∀ i, i < n → Accessible s (wordDown ea i) 4 4) (i j : Nat)
    (hij : i < j) (hj : j < n) : WordsApart s.cfg (wordDown ea i) (wordDown ea j) := by
  rw [← wordUp_wordDown hij.le]
  refine (wordsApart_wordUp (by omega) (by omega) (ha j hj) ?_).symm
  rw [wordUp_wordDown hij.le]
  exact ha i (by omega)

theorem quadIndex_lt (ea : Word) : quadIndex ea < 4 := by
  rw [quadIndex_eq]
  omega

/-- Settles O22: the words of each transfer pass their checks and are apart (`wordsApart_up`, `wordsApart_down`), so that all of them read
back (`checkedWords_storeWords`). -/
theorem quadStores : Obligations.QuadStores := by
  unfold Obligations.QuadStores
  intro s rs vt off hi wb ea r k hea hr hk h
  obtain rfl : ea = s.vea rs off := hea.trans (s.vea_eq rs off).symm
  obtain rfl : k = quadIndex (s.vea rs off) := hk.trans (quadIndex_eq _).symm
  obtain rfl : r = quadReg vt hi := hr.trans (quadReg_eq vt hi).symm
  have hk4 := quadIndex_lt (s.vea rs off)
  refine ⟨fun hal ha => ?quad, fun ha => ?left, fun ha => ?right⟩
  case quad =>
    obtain ⟨t, hnext, ht⟩ := checkedWords_storeWords h ha (wordsApart_up (by decide) ha)
    exact ⟨t, (if_neg (not_not.2 hal)).trans hnext, ht⟩
  case left =>
    simp only [← Nat.lt_add_one_iff] at ha ⊢
    exact checkedWords_storeWords h ha (wordsApart_down (by omega) ha)
  case right =>
    have hlt (i : Nat) : i ≤ 3 - quadIndex (s.vea rs off) ↔ i < 4 - quadIndex (s.vea rs off) := by omega
    simp only [hlt] at ha ⊢
    exact checkedWords_storeWords h ha (wordsApart_up (by omega) ha)

end Sys2Proof.Machine
end

section
/-! PROOF. COP1 moves and coprocessor branches (43_cop1.md R362 to R365, R371 to R373, R397 to R400; 45_vfpu_engine.md R447 to R450): a
move writes one register with bits of another, a branch tests the bit of its rule. -/

namespace Sys2Proof.Machine

open Sys2Proof

/-- Settles O13: the condition that each branch tests is the one of its rule. -/
theorem coprocessorBranches : Obligations.CoprocessorBranches := by
  unfold Obligations.CoprocessorBranches
  intro s cc imm h
  exact ⟨relBranch_ends h rfl, relBranch_ends h rfl, relBranch_ends h rfl, relBranch_ends h rfl, relBranch_ends h rfl,
    relBranch_ends h rfl, relBranch_ends h rfl, relBranch_ends h rfl⟩

/-! ### Moves (R362 to R365, R371 to R373) -/

/-- A write of `f[fd]` whose pattern has the bits of its rule. -/
theorem done_setF_bits {v : Word} {bit : Nat → Bool} (fd : FReg) (s : State) (h : ∀ j, j < 32 → v.getLsbD j = bit j) :
    ∃ t, done (s.setF fd v) = .next t ∧ ∃ w, WritesF fd w s t ∧ ∀ j, j < 32 → w.getLsbD j = bit j :=
  ⟨_, rfl, v, writesF_done fd v s, h⟩

theorem allBitsBut_bit {k : Nat} (hk : k < 32) (j : Nat) : (~~~(BitVec.twoPow 32 k)).getLsbD j = (decide (j < 32) && decide (j ≠ k)) := by
  rw [BitVec.getLsbD_not, BitVec.getLsbD_twoPow, decide_eq_true hk, Bool.true_and]
  simp only [ne_eq, decide_not, eq_comm]

theorem signBit_bit (j : Nat) : signBit.getLsbD j = decide (j = 31) := by
  rw [show signBit = BitVec.twoPow 32 31 from rfl, BitVec.getLsbD_twoPow]
  simp [eq_comm]

theorem abs_bit (v : Word) (j : Nat) (hj : j < 32) : (v &&& 0x7FFFFFFF#32).getLsbD j = (decide (j ≠ 31) && v.getLsbD j) := by
  rw [show 0x7FFFFFFF#32 = ~~~(BitVec.twoPow 32 31) from rfl, BitVec.getLsbD_and, allBitsBut_bit (by decide), decide_eq_true hj,
    Bool.true_and, Bool.and_comm]

theorem neg_bit (v : Word) (j : Nat) : (v ^^^ signBit).getLsbD j = (v.getLsbD j != decide (j = 31)) := by
  rw [BitVec.getLsbD_xor, signBit_bit]

/-- What `cfc1` reads for 31: `fpcond` stands in bit 23 (R364). -/
theorem State.fcr31View_bit (s : State) (j : Nat) (hj : j < 32) :
    s.fcr31View.getLsbD j = if j = 23 then s.cpu.fpcond else s.cpu.fcr31.getLsbD j := by
  have hc : (if s.cpu.fpcond then 0x00800000#32 else 0#32).getLsbD j = (s.cpu.fpcond && decide (j = 23)) := by
    cases s.cpu.fpcond
    · simp
    · rw [if_pos rfl, show 0x00800000#32 = BitVec.twoPow 32 23 from rfl, BitVec.getLsbD_twoPow]
      simp [eq_comm]
  rw [State.fcr31View, show ~~~0x00800000#32 = ~~~(BitVec.twoPow 32 23) from rfl, BitVec.getLsbD_or, BitVec.getLsbD_and,
    allBitsBut_bit (by decide), hc]
  by_cases h : j = 23 <;> simp [h, hj]

/-- Writing the COP1 control register and the condition. -/
theorem onlyCop1Control_done_setFcr31 (v : Word) (b : Bool) (s : State) : OnlyCop1Control s ((s.setFcr31 v).setFpcond b).advance := by
  exact ⟨rfl, fun _ => rfl, fun _ => rfl, fun _ => rfl, fun _ => rfl, ⟨rfl, rfl⟩, rfl, ⟨rfl, rfl, rfl⟩, fun _ => rfl,
    ⟨rfl, rfl, rfl, rfl, rfl, rfl⟩⟩

/-- Settles O24: each instruction is one write (`writesX_done`, `writesF_done`, `onlyCop1Control_done_setFcr31`) of the bits of its rule. -/
theorem cop1Moves : Obligations.Cop1Moves := by
  unfold Obligations.Cop1Moves
  intro s rt fs fd
  refine ⟨⟨_, rfl, writesX_done rt _ s⟩, ⟨_, rfl, writesF_done fs _ s⟩, ⟨_, rfl, writesX_done rt _ s⟩,
    ⟨_, rfl, s.fcr31View, writesX_done rt _ s, ?cond, ?others⟩, ?none, ⟨_, rfl, onlyCop1Control_done_setFcr31 _ _ s, rfl, rfl⟩, ?ignored,
    done_setF_bits fd s (abs_bit _), ⟨_, rfl, writesF_done fd _ s⟩, done_setF_bits fd s fun j _ => neg_bit _ j⟩
  case cond => rw [s.fcr31View_bit 23 (by decide), if_pos rfl]
  case others => exact fun j hj h => by rw [s.fcr31View_bit j hj, if_neg h]
  case none =>
    intro h0 h31
    refine ⟨_, rfl, ?_⟩
    rw [if_neg h0, if_neg h31]
    exact writesX_done rt _ s
  case ignored => exact fun h => ⟨_, if_neg h, onlyPc_done s⟩

end Sys2Proof.Machine
end

section
/-! PROOF. Binary32 patterns (00_scope.md R14) and their order (43_cop1.md R361). A pattern is a sign and a magnitude of 31 bits; the class
of a pattern is a range of its magnitude, and the value of a finite one is a strictly monotone function `magValue` of it. -/

namespace Sys2Proof.Machine

open Sys2Proof

/-! ### Sign and magnitude -/

/-- The 31 bits below the sign. -/
def magnitude (p : Word) : Nat := (p.extractLsb' 0 31).toNat

/-- The pattern of a sign and a magnitude. -/
def ofMagnitude (neg : Bool) (n : Nat) : Word := BitVec.ofNat 32 n ||| (if neg then signBit else 0#32)

theorem magnitude_eq_mod (p : Word) : magnitude p = p.toNat % 2 ^ 31 := by simp [magnitude]

theorem magnitude_lt (p : Word) : magnitude p < 2 ^ 31 := (p.extractLsb' 0 31).isLt

theorem fExp_eq (p : Word) : fExp p = magnitude p / 2 ^ 23 := by
  simp only [fExp, magnitude_eq_mod, BitVec.extractLsb'_toNat, Nat.shiftRight_eq_div_pow]
  omega

theorem fMan_eq (p : Word) : fMan p = magnitude p % 2 ^ 23 := by
  simp only [fMan, magnitude_eq_mod, BitVec.extractLsb'_toNat, Nat.shiftRight_eq_div_pow]
  omega

theorem fNeg_eq (p : Word) : fNeg p = decide (2 ^ 31 ≤ p.toNat) := BitVec.msb_eq_decide p

theorem isZero_iff (p : Word) : isZero p = true ↔ magnitude p = 0 := by
  rw [isZero, beq_iff_eq, ← BitVec.toNat_inj]
  rfl

theorem isInf_iff (p : Word) : isInf p = true ↔ magnitude p = 0x7F800000 := by
  simp only [isInf, fExp_eq, fMan_eq, Bool.and_eq_true, beq_iff_eq]
  omega

theorem isNaN_iff (p : Word) : isNaN p = true ↔ 0x7F800000 < magnitude p := by
  have := magnitude_lt p
  simp only [isNaN, fExp_eq, fMan_eq, Bool.and_eq_true, beq_iff_eq, bne_iff_ne]
  omega

theorem isNaNorInf_iff (p : Word) : isNaNorInf p = true ↔ 0x7F800000 ≤ magnitude p := by
  have := magnitude_lt p
  simp only [isNaNorInf, fExp_eq, beq_iff_eq]
  omega

theorem isNaNorInf_eq_false_iff (p : Word) : isNaNorInf p = false ↔ magnitude p < 0x7F800000 := by
  rw [← Bool.not_eq_true, isNaNorInf_iff, not_le]

theorem isNaN_eq_false_iff (p : Word) : isNaN p = false ↔ magnitude p ≤ 0x7F800000 := by
  rw [← Bool.not_eq_true, isNaN_iff, not_lt]

theorem toNat_eq_sign_add_magnitude (p : Word) : p.toNat = (if fNeg p then 2 ^ 31 else 0) + magnitude p := by
  have := p.isLt
  rw [fNeg_eq, magnitude_eq_mod]
  split <;> simp_all <;> omega

/-- A pattern is its sign and its magnitude. -/
theorem eq_of_sign_magnitude {p q : Word} (hs : fNeg p = fNeg q) (hm : magnitude p = magnitude q) : p = q :=
  BitVec.eq_of_toNat_eq (by rw [toNat_eq_sign_add_magnitude p, toNat_eq_sign_add_magnitude q, hs, hm])

theorem fNeg_ofMagnitude {n : Nat} (neg : Bool) (h : n < 2 ^ 31) : fNeg (ofMagnitude neg n) = neg := by
  rw [fNeg, ofMagnitude, BitVec.getLsbD_or, BitVec.getLsbD_ofNat, Nat.testBit_lt_two_pow h]
  cases neg <;> rfl

theorem magnitude_ofMagnitude {n : Nat} (neg : Bool) (h : n < 2 ^ 31) : magnitude (ofMagnitude neg n) = n := by
  have hs : (if neg then signBit else 0#32).extractLsb' 0 31 = 0#31 := by cases neg <;> rfl
  rw [magnitude, ofMagnitude, BitVec.extractLsb'_or, hs, BitVec.or_zero, ← magnitude, magnitude_eq_mod, BitVec.toNat_ofNat]
  omega

theorem ofMagnitude_eta (p : Word) : ofMagnitude (fNeg p) (magnitude p) = p :=
  eq_of_sign_magnitude (fNeg_ofMagnitude _ (magnitude_lt p)) (magnitude_ofMagnitude _ (magnitude_lt p))

theorem signedZero_eq (neg : Bool) : signedZero neg = ofMagnitude neg 0 := by cases neg <;> rfl

theorem fNeg_xor_signBit (p : Word) : fNeg (p ^^^ signBit) = !fNeg p := by
  rw [fNeg, neg_bit]
  exact Bool.xor_true _

theorem magnitude_xor_signBit (p : Word) : magnitude (p ^^^ signBit) = magnitude p := by
  rw [magnitude, BitVec.extractLsb'_xor, show signBit.extractLsb' 0 31 = 0#31 from rfl, BitVec.xor_zero, magnitude]

/-- A zero is the one of its sign. -/
theorem eq_signedZero_of_isZero {p : Word} (h : isZero p = true) : p = signedZero (fNeg p) := by
  rw [signedZero_eq, ← (isZero_iff p).1 h, ofMagnitude_eta]

/-! ### Values -/

/-- The value of a magnitude; that of infinity, 2^128, stands beyond every finite one. -/
def magValue (n : Nat) : ℚ :=
  ((if n / 2 ^ 23 = 0 then n else n % 2 ^ 23 + 2 ^ 23 : Nat) : ℚ) * 2 ^ (((n / 2 ^ 23 - 1 : Nat) : Int) - 149)

/-- The magnitude that `r` units of 2^(k - 149) have: `r` may fill its 24 bits, and only in the lowest binade leave the top one empty. -/
theorem magValue_units {k r : Nat} (hr : r ≤ 2 ^ 24) (hk : k = 0 ∨ 2 ^ 23 ≤ r) :
    magValue (k * 2 ^ 23 + r) = r * 2 ^ ((k : Int) - 149) := by
  obtain hfull | hfull := hr.eq_or_lt
  case inl =>
    obtain ⟨hdiv, hmod⟩ : (k * 2 ^ 23 + r) / 2 ^ 23 = k + 2 ∧ (k * 2 ^ 23 + r) % 2 ^ 23 = 0 := by omega
    have hpow : (((k + 2 - 1 : Nat) : Int) - 149) = 1 + ((k : Int) - 149) := by omega
    rw [magValue, hdiv, hmod, if_neg (by omega), hpow, zpow_add₀ (by norm_num), hfull]
    push_cast
    ring
  case inr =>
    have hexp : (k * 2 ^ 23 + r) / 2 ^ 23 - 1 = k := by omega
    have hmant : (if (k * 2 ^ 23 + r) / 2 ^ 23 = 0 then k * 2 ^ 23 + r else (k * 2 ^ 23 + r) % 2 ^ 23 + 2 ^ 23) = r := by
      split <;> omega
    rw [magValue, hexp, hmant]

/-- Every magnitude is some units of its binade. -/
theorem exists_units (n : Nat) : ∃ k r, n = k * 2 ^ 23 + r ∧ r < 2 ^ 24 ∧ (k = 0 ∨ 2 ^ 23 ≤ r) :=
  ⟨n / 2 ^ 23 - 1, n - (n / 2 ^ 23 - 1) * 2 ^ 23, by omega, by omega, by omega⟩

theorem magValue_strictMono : StrictMono magValue := by
  refine strictMono_nat_of_lt_succ fun n => ?_
  obtain ⟨k, r, rfl, hr, hk⟩ := exists_units n
  rw [magValue_units hr.le hk, Nat.add_assoc, magValue_units hr (hk.imp_right Nat.le_succ_of_le)]
  exact mul_lt_mul_of_pos_right (by exact_mod_cast r.lt_succ_self) (by positivity)

@[simp] theorem magValue_zero : magValue 0 = 0 := by simp [magValue]

theorem magValue_nonneg (n : Nat) : 0 ≤ magValue n := by unfold magValue; positivity

theorem fMant_eq (p : Word) : fMant p = if magnitude p / 2 ^ 23 = 0 then magnitude p else magnitude p % 2 ^ 23 + 2 ^ 23 := by
  rw [fMant, fExp_eq, fMan_eq]
  split <;> omega

theorem fPow_eq (p : Word) : fPow p = ((magnitude p / 2 ^ 23 - 1 : Nat) : Int) - 149 := by
  rw [fPow, fExp_eq]
  split <;> omega

theorem fValue_eq (p : Word) : fValue p = (if fNeg p then -1 else 1) * magValue (magnitude p) := by
  rw [fValue, magValue, fMant_eq, fPow_eq, mul_assoc]

theorem fValue_ofMagnitude {n : Nat} (neg : Bool) (h : n < 2 ^ 31) :
    fValue (ofMagnitude neg n) = (if neg then -1 else 1) * magValue n := by
  rw [fValue_eq, fNeg_ofMagnitude neg h, magnitude_ofMagnitude neg h]

theorem fValue_xor_signBit (p : Word) : fValue (p ^^^ signBit) = -fValue p := by
  rw [fValue_eq, fValue_eq, fNeg_xor_signBit, magnitude_xor_signBit]
  cases fNeg p <;> simp

/-! ### Order (R361) -/

/-- The value that a key stands for. -/
def keyValue (z : Int) : ℚ := if z < 0 then -magValue z.natAbs else magValue z.natAbs

theorem keyValue_strictMono : StrictMono keyValue := by
  refine strictMono_of_odd_strictMonoOn_nonneg (fun z => ?odd) fun x hx y hy hxy => ?mono
  case odd =>
    unfold keyValue
    obtain h | rfl | h := lt_trichotomy z 0
    · rw [if_neg (by omega), if_pos h, Int.natAbs_neg, neg_neg]
    · simp
    · rw [if_pos (by omega), if_neg (by omega), Int.natAbs_neg]
  case mono =>
    rw [keyValue, keyValue, if_neg (not_lt.2 hx), if_neg (not_lt.2 hy)]
    rw [Set.mem_Ici] at hx hy
    exact magValue_strictMono (by omega)

theorem fKey_eq (p : Word) : fKey p = if fNeg p then -(magnitude p : Int) else magnitude p := rfl

theorem fValue_eq_keyValue (p : Word) : fValue p = keyValue (fKey p) := by
  rw [fValue_eq, fKey_eq, keyValue]
  obtain h | h := (magnitude p).eq_zero_or_pos
  · simp [h]
  · cases fNeg p <;> simp [h]

theorem fKey_lt_iff (p q : Word) : fKey p < fKey q ↔ fValue p < fValue q := by
  rw [fValue_eq_keyValue, fValue_eq_keyValue, keyValue_strictMono.lt_iff_lt]

theorem fKey_eq_iff (p q : Word) : fKey p = fKey q ↔ fValue p = fValue q := by
  rw [fValue_eq_keyValue, fValue_eq_keyValue, keyValue_strictMono.injective.eq_iff]

/-- With an infinity among the operands, equal keys are equal patterns. -/
theorem fKey_eq_iff_of_isInf {p q : Word} (h : (isInf p || isInf q) = true) : fKey p = fKey q ↔ p = q := by
  refine ⟨fun he => ?_, fun he => he ▸ rfl⟩
  rw [Bool.or_eq_true, isInf_iff, isInf_iff] at h
  rw [fKey_eq, fKey_eq] at he
  refine eq_of_sign_magnitude ?_ ?_ <;> cases hp : fNeg p <;> cases hq : fNeg q <;> simp [hp, hq] at he ⊢ <;> omega

/-- With an infinity among the operands, the lesser is the negative infinity, or the greater the positive one. -/
theorem fKey_lt_iff_of_isInf {p q : Word} (hp : isNaN p = false) (hq : isNaN q = false) (h : (isInf p || isInf q) = true) :
    fKey p < fKey q ↔ p ≠ q ∧ ((isInf p && fNeg p) || (isInf q && !fNeg q)) = true := by
  rw [ne_eq, ← fKey_eq_iff_of_isInf h]
  rw [isNaN_eq_false_iff] at hp hq
  simp only [Bool.or_eq_true, Bool.and_eq_true, isInf_iff] at h ⊢
  rw [fKey_eq, fKey_eq]
  cases fNeg p <;> cases fNeg q <;> simp <;> omega

/-! ### Compares (R361, R381 to R396) -/

/-- A compare whose combination of unordered, equal and less is the one of its rule. -/
theorem compareFloat_ends {ft fs : FReg} {s : State} {un eq lt : Bool} (hun : un = (isNaN (s.f fs) || isNaN (s.f ft)))
    (heq : eq = fEq (s.f fs) (s.f ft)) (hlt : lt = fLt (s.f fs) (s.f ft)) {cond : BitVec 4} {c : Bool}
    (hc : ((cond.getLsbD 0 && un) || (cond.getLsbD 1 && eq) || (cond.getLsbD 2 && lt)) = c) :
    ∃ t, compareFloat cond ft fs s = .next t ∧ t.cpu.fpcond = c ∧ t.cpu.fcr31 = s.cpu.fcr31 ∧ OnlyCop1Control s t := by
  subst hun heq hlt
  exact ⟨_, rfl, hc, rfl, onlyCop1Control_done _ s⟩

theorem fEq_eq_true_iff {a b : Word} (h : (isNaN a || isNaN b) = false) : fEq a b = true ↔ fKey a = fKey b := by
  rw [Bool.or_eq_false_iff] at h
  simp [fEq, h]

theorem fLt_eq_true_iff {a b : Word} (h : (isNaN a || isNaN b) = false) : fLt a b = true ↔ fKey a < fKey b := by
  rw [Bool.or_eq_false_iff] at h
  simp [fLt, h]

theorem fEq_fLt_of_unordered {a b : Word} (h : (isNaN a || isNaN b) = true) : fEq a b = false ∧ fLt a b = false := by
  rw [Bool.or_eq_true] at h
  obtain h | h := h <;> simp [fEq, fLt, h]

/-- Settles O28: unordered, equal and less are those that the compare computes (`fKey_eq_iff`, `fKey_lt_iff`, and with an infinity
`fKey_eq_iff_of_isInf`, `fKey_lt_iff_of_isInf`), and each compare combines them as its rule says. -/
theorem compareConditions : Obligations.CompareConditions := by
  unfold Obligations.CompareConditions
  intro s ft fs un eq lt hun hnan hfin hinf
  have hval : eq = fEq (s.f fs) (s.f ft) ∧ lt = fLt (s.f fs) (s.f ft) := by
    cases un with
    | true =>
      obtain ⟨heq, hlt⟩ := fEq_fLt_of_unordered hun.symm
      rw [heq, hlt]
      exact hnan rfl
    | false =>
      rw [Bool.eq_iff_iff (a := eq), Bool.eq_iff_iff (a := lt), fEq_eq_true_iff hun.symm, fLt_eq_true_iff hun.symm]
      cases h : isInf (s.f fs) || isInf (s.f ft) with
      | true =>
        obtain ⟨ha, hb⟩ := Bool.or_eq_false_iff.1 hun.symm
        rw [fKey_eq_iff_of_isInf h, fKey_lt_iff_of_isInf ha hb h]
        exact hinf rfl h
      | false =>
        obtain ⟨ha, hb⟩ := Bool.or_eq_false_iff.1 h
        rw [fKey_eq_iff, fKey_lt_iff]
        exact hfin rfl ha hb
  have ends {cond : BitVec 4} {c : Bool} := compareFloat_ends (cond := cond) (c := c) hun hval.1 hval.2
  refine ⟨ends ?_, ends ?_, ends ?_, ends ?_, ends ?_, ends ?_, ends ?_, ends ?_, ends ?_, ends ?_, ends ?_, ends ?_, ends ?_, ends ?_,
    ends ?_, ends ?_⟩ <;> simp

end Sys2Proof.Machine
end

section
/-! PROOF. Rounding (43_cop1.md R360, R374): what `shiftRoundEven`, `roundMagnitude` and `roundFloat` round to. An exact value in units of
the binade that `roundMagnitude` picks is rounded to an integer (`RoundsTo`), and the pattern of that integer is nearest among all
(`RoundsTo.isNearestFinite`). A quotient or a root stands between the integers computed for it, of which the odd one rounds the same
(`RoundsTo.of_roundsOdd`). -/

namespace Sys2Proof.Machine

open Sys2Proof

/-! ### Rounding to an integer -/

/-- `r` is `x` rounded to nearest, ties to even: the mode `nearestEven` of `IsRoundedInt`, over the reals. -/
def RoundsEven (x : ℝ) (r : Int) : Prop := |x - r| ≤ 1 / 2 ∧ (|x - r| = 1 / 2 → r % 2 = 0)

theorem isRoundedInt_nearestEven_iff (v : ℚ) (r : Int) : IsRoundedInt .nearestEven v r ↔ RoundsEven v r := by
  have habs : |(v : ℝ) - r| = (|v - r| : ℚ) := by push_cast; rfl
  have hhalf : (1 / 2 : ℝ) = (1 / 2 : ℚ) := by norm_num
  rw [RoundsEven, habs, hhalf, Rat.cast_le, Rat.cast_inj, IsRoundedInt]

theorem roundsEven_intCast (r : Int) : RoundsEven r r := by norm_num [RoundsEven]

theorem RoundsEven.neg {x : ℝ} {r : Int} (h : RoundsEven x r) : RoundsEven (-x) (-r) := by
  have habs : |-x - ((-r : Int) : ℝ)| = |x - r| := by
    rw [← abs_neg]
    push_cast
    ring_nf
  rw [RoundsEven, habs]
  exact ⟨h.1, fun ht => by have := h.2 ht; omega⟩

/-- No other integer is closer; and if another is as close, the rounded one is even. -/
theorem RoundsEven.nearest {x : ℝ} {r : Int} (h : RoundsEven x r) (i : Int) :
    |r - x| ≤ |i - x| ∧ (|r - x| = |i - x| → i = r ∨ r % 2 = 0) := by
  obtain ⟨hclose, htie⟩ := h
  rw [abs_sub_comm] at hclose htie
  obtain rfl | hne := eq_or_ne i r
  · exact ⟨le_rfl, fun _ => .inl rfl⟩
  · have hapart : 1 ≤ |(i : ℝ) - r| := by exact_mod_cast Int.one_le_abs (sub_ne_zero.2 hne)
    have htri := abs_sub_le (i : ℝ) x r
    rw [abs_sub_comm x] at htri
    exact ⟨by linarith, fun he => .inr (htie (by linarith))⟩

/-- A fraction `m / d` rounds to `r` if `r * d` is within half of `d`, exactly half only for an even `r`. -/
theorem roundsEven_div {m d r : Nat} (hd : 0 < d) (hle : 2 * (r * d) ≤ 2 * m + d) (hge : 2 * m ≤ 2 * (r * d) + d)
    (htie : 2 * (r * d) = 2 * m + d ∨ 2 * m = 2 * (r * d) + d → r % 2 = 0) : RoundsEven ((m : ℝ) / d) r := by
  have hd' : (0 : ℝ) < d := by exact_mod_cast hd
  have hx : (m : ℝ) = (m : ℝ) / d * d := by field_simp
  rw [RoundsEven, Int.cast_natCast]
  generalize (m : ℝ) / d = x at hx ⊢
  rify at hle hge
  rw [hx] at hle hge
  constructor
  · rw [abs_le]
    constructor <;> nlinarith
  · intro he
    have : r % 2 = 0 := by
      apply htie
      rify
      rw [hx]
      obtain h | h := (abs_eq (by norm_num)).1 he
      · right
        rw [sub_eq_iff_eq_add.1 h]
        ring
      · left
        rw [sub_eq_iff_eq_add.1 h]
        ring
    omega

theorem shiftRoundEven_roundsEven (m k : Nat) : RoundsEven ((m : ℝ) / 2 ^ k) (shiftRoundEven m k) := by
  have hpos : 0 < 2 ^ k := Nat.two_pow_pos k
  have h := Nat.div_add_mod' m (2 ^ k)
  have hmod := Nat.mod_lt m hpos
  suffices RoundsEven ((m : ℝ) / (2 ^ k : Nat)) (shiftRoundEven m k) by simpa using this
  rw [shiftRoundEven]
  split
  case isTrue hk =>
    have hm : 2 * m < 2 ^ k := calc
      2 * m < 2 * 2 ^ (Nat.log2 m + 1) := by have := Nat.lt_log2_self (n := m); omega
      _ = 2 ^ (Nat.log2 m + 2) := by ring
      _ ≤ 2 ^ k := Nat.pow_le_pow_right (by decide) hk.le
    exact roundsEven_div hpos (by omega) (by omega) (by omega)
  case isFalse =>
    dsimp only
    split
    case isTrue hup =>
      exact roundsEven_div hpos (by rw [Nat.add_mul]; omega) (by rw [Nat.add_mul]; omega) (by rw [Nat.add_mul]; omega)
    case isFalse hdown => exact roundsEven_div hpos (by omega) (by omega) (by omega)

/-! ### Rounding to a magnitude -/

/-- In the format `fmt` the value `v` rounds to `r` units of its binade `k`, whose unit is 2^(k + qmin): in units it is below 2^prec, and
only in the lowest binade below 2^(prec - 1). -/
structure RoundsTo (fmt : FloatFormat) (v : ℝ) (k r : Nat) : Prop where
  rounds : RoundsEven (v / 2 ^ ((k : Int) + fmt.qmin)) r
  normal : k = 0 ∨ 2 ^ (fmt.prec - 1) ≤ v / 2 ^ ((k : Int) + fmt.qmin)
  fits : v / 2 ^ ((k : Int) + fmt.qmin) < 2 ^ fmt.prec

/-- A value over a unit with a smaller exponent is an integer multiple, over one with a larger a binary fraction. -/
theorem mul_zpow_div_of_le (m : ℝ) {q p : Int} (h : p ≤ q) : m * 2 ^ q / 2 ^ p = m * 2 ^ (q - p).toNat := by
  rw [← zpow_natCast, Int.toNat_sub_of_le h, zpow_sub₀ two_ne_zero, mul_div_assoc]

theorem mul_zpow_div_of_ge (m : ℝ) {q p : Int} (h : q ≤ p) : m * 2 ^ q / 2 ^ p = m / 2 ^ (p - q).toNat := by
  rw [← zpow_natCast, Int.toNat_sub_of_le h, zpow_sub₀ two_ne_zero]
  field_simp

/-- The binade and the units that `roundMagnitude` picks. -/
theorem roundMagnitude_roundsTo {fmt : FloatFormat} (hp : 0 < fmt.prec) (m : Nat) (q : Int) :
    ∃ k r, roundMagnitude fmt m q = min (k * 2 ^ (fmt.prec - 1) + r) fmt.inf ∧ RoundsTo fmt (m * 2 ^ q) k r := by
  rw [roundMagnitude]
  split
  case isTrue h0 =>
    refine ⟨0, 0, by simp, ?_, .inl rfl, ?_⟩
    · simpa [h0] using roundsEven_intCast 0
    · simp [h0]
  case isFalse h0 =>
    dsimp only
    generalize hq' : max (q + (Nat.log2 m : Int) - ((fmt.prec : Int) - 1)) fmt.qmin = q'
    have hk : (((q' - fmt.qmin).toNat : Nat) : Int) + fmt.qmin = q' := by omega
    have hlow : (2 : ℝ) ^ (Nat.log2 m : Int) ≤ m := by exact_mod_cast Nat.log2_self_le h0
    have hhigh : (m : ℝ) < 2 ^ ((Nat.log2 m + 1 : Nat) : Int) := by exact_mod_cast Nat.lt_log2_self
    refine ⟨_, _, rfl, ?rounds, ?normal, ?fits⟩ <;> rw [hk]
    case rounds =>
      split
      case isTrue h =>
        rw [mul_zpow_div_of_le _ h]
        exact_mod_cast roundsEven_intCast _
      case isFalse h =>
        rw [mul_zpow_div_of_ge _ (by omega)]
        exact shiftRoundEven_roundsEven _ _
    case normal =>
      obtain h | h : q' = fmt.qmin ∨ q' + ((fmt.prec - 1 : Nat) : Int) = Nat.log2 m + q := by omega
      · exact .inl (by omega)
      · right
        rw [le_div_iff₀ (by positivity), ← zpow_natCast, ← zpow_add₀ two_ne_zero, add_comm, h, zpow_add₀ two_ne_zero]
        gcongr
    case fits =>
      rw [div_lt_iff₀ (by positivity), ← zpow_natCast, ← zpow_add₀ two_ne_zero]
      calc (m : ℝ) * 2 ^ q < 2 ^ ((Nat.log2 m + 1 : Nat) : Int) * 2 ^ q := by gcongr
        _ = 2 ^ (((Nat.log2 m + 1 : Nat) : Int) + q) := (zpow_add₀ two_ne_zero _ _).symm
        _ ≤ 2 ^ ((fmt.prec : Int) + q') := zpow_le_zpow_right₀ one_le_two (by omega)

/-! ### Sticky bits -/

/-- `m` is `w` rounded to an odd integer: `w` itself, or the odd one of the two integers around it. -/
def RoundsOdd (w : ℝ) (m : Nat) : Prop := w = m ∨ m % 2 = 1 ∧ |w - m| < 1

/-- Twice the integer part of `w / 2`, with a sticky bit for the rest. -/
theorem roundsOdd_sticky {w : ℝ} {n : Nat} {c : Prop} [Decidable c] (hle : (n : ℝ) ≤ w) (hlt : w < n + 1) (hc : c ↔ w = n) :
    RoundsOdd (2 * w) (2 * n + if c then 0 else 1) := by
  split
  case isTrue h => exact .inl (by rw [hc.1 h]; push_cast; ring)
  case isFalse h =>
    have hne : (n : ℝ) < w := lt_of_le_of_ne hle (Ne.symm (h ∘ hc.2))
    refine .inr ⟨by omega, ?_⟩
    rw [abs_lt]
    push_cast
    constructor <;> linarith

/-- An odd integer rounds as every value less than 1 away from it, if two bits at least are rounded off. -/
theorem RoundsEven.of_odd {w : ℝ} {m d : Nat} {r : Int} (h : RoundsEven ((m : ℝ) / 2 ^ (d + 2)) r) (hm : m % 2 = 1) (hw : |w - m| < 1) :
    RoundsEven (w / 2 ^ (d + 2)) r := by
  have hpos : (0 : ℝ) < 2 ^ (d + 2) := by positivity
  have hpow : (2 : ℝ) ^ (d + 2) = 4 * 2 ^ d := by ring
  have hm2 : |(m : Int) - r * (4 * 2 ^ d)| ≤ 2 * 2 ^ d := by
    have h2 : |(m : ℝ) / 2 ^ (d + 2) - r| * 2 ^ (d + 2) ≤ 1 / 2 * 2 ^ (d + 2) := mul_le_mul_of_nonneg_right h.1 hpos.le
    rw [← abs_of_pos hpos, ← abs_mul, abs_of_pos hpos, sub_mul, div_mul_cancel₀ _ hpos.ne', hpow] at h2
    rify
    linarith
  have hm1 : |(m : Int) - r * (4 * 2 ^ d)| ≤ 2 * 2 ^ d - 1 := by
    rw [show r * (4 * 2 ^ d) = 4 * (r * 2 ^ d) by ring] at hm2 ⊢
    generalize r * 2 ^ d = i at hm2 ⊢
    generalize (2 : Int) ^ d = j at hm2 ⊢
    rw [abs_le] at *
    omega
  have hlt : |w / 2 ^ (d + 2) - r| < 1 / 2 := by
    rify at hm1
    rw [div_sub' hpos.ne', abs_div, abs_of_pos hpos, div_lt_iff₀ hpos, hpow, mul_comm (4 * 2 ^ d) (r : ℝ)]
    linarith [abs_sub_le w m (r * (4 * 2 ^ d))]
  exact ⟨hlt.le, fun he => absurd he hlt.ne⟩

/-- A value rounds as the odd integer by which it was computed, if that has two bits more than the format. -/
theorem RoundsTo.of_roundsOdd {fmt : FloatFormat} {w : ℝ} {m k r : Nat} {q : Int} (h : RoundsTo fmt (m * 2 ^ q) k r) (hw : RoundsOdd w m)
    (hm : 2 ^ (fmt.prec + 1) ≤ m) : RoundsTo fmt (w * 2 ^ q) k r := by
  obtain rfl | ⟨hodd, hw⟩ := hw
  · exact h
  obtain ⟨hrounds, hnormal, hfits⟩ := h
  have hgap : q + 2 ≤ k + fmt.qmin := by
    have hpow : (2 : ℝ) ^ ((fmt.prec + 1 : Nat) + q) < 2 ^ ((fmt.prec : Int) + (k + fmt.qmin)) := by
      rw [zpow_add₀ two_ne_zero, zpow_add₀ two_ne_zero]
      rw [div_lt_iff₀ (by positivity)] at hfits
      have : (2 : ℝ) ^ (fmt.prec + 1) ≤ m := by exact_mod_cast hm
      exact_mod_cast lt_of_le_of_lt (by gcongr) hfits
    have := (zpow_lt_zpow_iff_right₀ one_lt_two).1 hpow
    omega
  obtain ⟨d, hd⟩ : ∃ d : Nat, (k + fmt.qmin - q).toNat = d + 2 := ⟨(k + fmt.qmin - q).toNat - 2, by omega⟩
  rw [mul_zpow_div_of_ge _ (by omega), hd] at hrounds hnormal hfits
  have hpos : (0 : ℝ) < 2 ^ (d + 2) := by positivity
  refine ⟨?rounds, hnormal.imp_right fun hn => ?normal, ?fits⟩ <;> rw [mul_zpow_div_of_ge _ (by omega), hd]
  case rounds => exact hrounds.of_odd hodd hw
  case normal =>
    rw [le_div_iff₀ hpos] at hn ⊢
    have hle : 2 ^ (fmt.prec - 1) * 2 ^ (d + 2) ≤ m := by exact_mod_cast hn
    have hlt : 2 ^ (fmt.prec - 1) * 2 ^ (d + 2) + 1 ≤ m := by
      rw [pow_succ _ (d + 1), ← mul_assoc] at hle ⊢
      omega
    rify at hlt
    linarith [(abs_lt.1 hw).1]
  case fits =>
    rw [div_lt_iff₀ hpos] at hfits ⊢
    have hlt : m < 2 ^ fmt.prec * 2 ^ (d + 2) := by exact_mod_cast hfits
    have hle : m + 1 ≤ 2 ^ fmt.prec * 2 ^ (d + 2) := hlt
    rify at hle
    linarith [(abs_lt.1 hw).2]

/-! ### The nearest pattern -/

/-- `p` is a finite pattern nearest to `y`, with an even fraction where another is as close: `IsNearest` below the overflow threshold, over
the reals. -/
def IsNearestFinite (y : ℝ) (p : Word) : Prop :=
  isNaNorInf p = false ∧ ∀ q, |(fValue p : ℝ) - y| ≤ |(fValue q : ℝ) - y| ∧
    (|(fValue p : ℝ) - y| = |(fValue q : ℝ) - y| → fValue q = fValue p ∨ fMan p % 2 = 0)

/-- In units of a binade a value is an integer, unless it lies below the binade. -/
theorem fValue_units (p : Word) (k : Nat) :
    (∃ i : Int, (fValue p : ℝ) = i * 2 ^ ((k : Int) - 149)) ∨ k ≠ 0 ∧ (fValue p : ℝ) < 2 ^ 23 * 2 ^ ((k : Int) - 149) := by
  obtain ⟨j, r, hp, hr, hj⟩ := exists_units (magnitude p)
  have hval : (fValue p : ℝ) = (if fNeg p then -1 else 1) * (r * 2 ^ ((j : Int) - 149)) := by
    rw [fValue_eq, hp, magValue_units hr.le hj]
    cases fNeg p <;> simp
  obtain h | h := le_or_gt k j
  · left
    refine ⟨(if fNeg p then -1 else 1) * (r * 2 ^ (j - k)), ?_⟩
    rw [hval, show (j : Int) - 149 = (j - k : Nat) + ((k : Int) - 149) by omega, zpow_add₀ two_ne_zero]
    push_cast
    rw [zpow_natCast]
    ring
  · right
    refine ⟨by omega, ?_⟩
    have hr' : (r : ℝ) < 2 ^ 24 := by exact_mod_cast hr
    calc (fValue p : ℝ) ≤ r * 2 ^ ((j : Int) - 149) := by
          rw [hval]
          have : (0 : ℝ) ≤ r * 2 ^ ((j : Int) - 149) := by positivity
          split <;> linarith
      _ < 2 ^ 24 * 2 ^ ((j : Int) - 149) := by gcongr
      _ = 2 ^ 23 * 2 ^ ((j : Int) - 149 + 1) := by rw [zpow_add_one₀ two_ne_zero]; ring
      _ ≤ 2 ^ 23 * 2 ^ ((k : Int) - 149) := by gcongr; exact one_le_two; omega

section
variable {y : ℝ} {k r : Nat} (h : RoundsTo binary32 y k r)
include h

/-- The value in units of its binade. -/
theorem RoundsTo.exists_units : ∃ x, y = x * 2 ^ ((k : Int) - 149) ∧ RoundsEven x r ∧ (k = 0 ∨ 2 ^ 23 ≤ x) ∧ x < 2 ^ 24 :=
  ⟨_, (div_mul_cancel₀ y (zpow_ne_zero _ two_ne_zero)).symm, h.rounds, h.normal, h.fits⟩

theorem RoundsTo.le_two_pow_prec : r ≤ 2 ^ 24 := by
  obtain ⟨x, -, ⟨hclose, -⟩, -, hx⟩ := h.exists_units
  have hlt : ((r : Int) : ℝ) < 2 ^ 24 + 1 := by linarith [(abs_le.1 hclose).1]
  have hlt : (r : Int) < 2 ^ 24 + 1 := by exact_mod_cast hlt
  omega

theorem RoundsTo.two_pow_le (hk : k ≠ 0) : 2 ^ 23 ≤ r := by
  obtain ⟨x, -, ⟨hclose, -⟩, hx, -⟩ := h.exists_units
  have hlt : (2 ^ 23 : ℝ) < ((r : Int) : ℝ) + 1 := by linarith [(abs_le.1 hclose).2, hx.resolve_left hk]
  have hlt : (2 ^ 23 : Int) < r + 1 := by exact_mod_cast hlt
  omega

theorem RoundsTo.magValue_eq : (magValue (k * 2 ^ 23 + r) : ℝ) = r * 2 ^ ((k : Int) - 149) := by
  rw [magValue_units h.le_two_pow_prec (or_iff_not_imp_left.2 h.two_pow_le)]
  push_cast
  rfl

/-- The magnitude to which a value rounds reaches infinity from the overflow threshold on. -/
theorem RoundsTo.overflow_iff : 0x7F800000 ≤ k * 2 ^ 23 + r ↔ 2 ^ 128 - 2 ^ 103 ≤ y := by
  have hle := h.le_two_pow_prec
  have hge := h.two_pow_le
  obtain ⟨x, rfl, ⟨hclose, htie⟩, hnormal, hfits⟩ := h.exists_units
  obtain hk | rfl | hk := lt_trichotomy k 253
  case inl =>
    refine iff_of_false (by omega) (not_le.2 ?_)
    calc x * 2 ^ ((k : Int) - 149) < 2 ^ 24 * 2 ^ ((k : Int) - 149) := by gcongr
      _ ≤ 2 ^ 24 * 2 ^ (103 : Int) := by gcongr; exact one_le_two; omega
      _ < 2 ^ 128 - 2 ^ 103 := by norm_num
  case inr.inl =>
    have hthreshold : (2 : ℝ) ^ 128 - 2 ^ 103 ≤ x * 2 ^ (((253 : Nat) : Int) - 149) ↔ 2 ^ 24 - 1 / 2 ≤ x := by
      norm_num
      constructor <;> intro <;> linarith
    rw [hthreshold, show 0x7F800000 ≤ 253 * 2 ^ 23 + r ↔ 2 ^ 24 ≤ r by omega]
    obtain ⟨hlo, hhi⟩ := abs_le.1 hclose
    rw [Int.cast_natCast] at hlo hhi htie
    constructor
    · intro hr
      have hr : (2 ^ 24 : ℝ) ≤ r := by exact_mod_cast hr
      linarith
    · intro hx
      by_contra hr
      have hr : r + 1 ≤ 2 ^ 24 := by omega
      have hr' : (r : ℝ) + 1 ≤ 2 ^ 24 := by exact_mod_cast hr
      have hlast : (2 ^ 24 : ℝ) ≤ r + 1 := by linarith
      have hlast : 2 ^ 24 ≤ r + 1 := by exact_mod_cast hlast
      have := htie (by rw [abs_of_nonneg] <;> linarith)
      omega
  case inr.inr =>
    refine iff_of_true (by have := hge (by omega); omega) ?_
    calc (2 : ℝ) ^ 128 - 2 ^ 103 ≤ 2 ^ 23 * 2 ^ (105 : Int) := by norm_num
      _ ≤ 2 ^ 23 * 2 ^ ((k : Int) - 149) := by gcongr; exact one_le_two; omega
      _ ≤ x * 2 ^ ((k : Int) - 149) := by gcongr; exact hnormal.resolve_left (by omega)

/-- Below infinity, the magnitude to which a value rounds is the nearest pattern: a pattern in the binade or above it is an integer in
units (`RoundsEven.nearest`), and one below the binade is further away than the binade's least. -/
theorem RoundsTo.isNearestFinite (hfin : k * 2 ^ 23 + r < 0x7F800000) : IsNearestFinite y (ofMagnitude false (k * 2 ^ 23 + r)) := by
  have hlt : k * 2 ^ 23 + r < 2 ^ 31 := by omega
  have hval : (fValue (ofMagnitude false (k * 2 ^ 23 + r)) : ℝ) = (r : Int) * 2 ^ ((k : Int) - 149) := by
    rw [fValue_ofMagnitude _ hlt, Int.cast_natCast, ← h.magValue_eq]
    simp
  have heven : fMan (ofMagnitude false (k * 2 ^ 23 + r)) % 2 = r % 2 := by
    rw [fMan_eq, magnitude_ofMagnitude _ hlt]
    omega
  have hpos : (0 : ℝ) < 2 ^ ((k : Int) - 149) := by positivity
  refine ⟨(isNaNorInf_eq_false_iff _).2 (by rwa [magnitude_ofMagnitude _ hlt]), fun q => ?_⟩
  obtain ⟨x, rfl, hx, hnormal, -⟩ := h.exists_units
  rw [heven, ← Rat.cast_inj (α := ℝ), hval]
  obtain ⟨i, hq⟩ | ⟨hk, hq⟩ := fValue_units q k
  case inl =>
    obtain ⟨hclose, htie⟩ := hx.nearest i
    rw [hq, ← sub_mul, ← sub_mul, abs_mul, abs_mul, mul_left_inj' hpos.ne', mul_left_inj' (abs_pos.2 hpos.ne').ne', Int.cast_inj]
    exact ⟨mul_le_mul_of_nonneg_right hclose (abs_nonneg _), fun he => (htie he).imp_right (by omega)⟩
  case inr =>
    have hcloser : |(r : Int) * 2 ^ ((k : Int) - 149) - x * 2 ^ ((k : Int) - 149)| < |(fValue q : ℝ) - x * 2 ^ ((k : Int) - 149)| := by
      have hleast := (hx.nearest 8388608).1
      have hxk := hnormal.resolve_left hk
      rw [Int.cast_ofNat, abs_sub_comm 8388608, abs_of_nonneg (a := x - 8388608) (by linarith)] at hleast
      rw [← sub_mul, abs_mul, abs_of_pos hpos, abs_sub_comm (fValue q : ℝ),
        abs_of_nonneg (a := x * 2 ^ ((k : Int) - 149) - fValue q) (by nlinarith)]
      nlinarith
    exact ⟨hcloser.le, fun he => absurd he hcloser.ne⟩

end

/-! ### `roundFloat` -/

theorem roundFloat_eq (neg : Bool) (m : Nat) (q : Int) : roundFloat neg m q = ofMagnitude neg (roundMagnitude binary32 m q) := rfl

theorem roundMagnitude_binary32_lt (m : Nat) (q : Int) : roundMagnitude binary32 m q < 2 ^ 31 := by
  obtain ⟨k, r, heq, -⟩ := roundMagnitude_roundsTo (fmt := binary32) (by decide) m q
  rw [heq]
  exact lt_of_le_of_lt (min_le_right _ _) (by decide)

theorem fNeg_roundFloat (neg : Bool) (m : Nat) (q : Int) : fNeg (roundFloat neg m q) = neg :=
  fNeg_ofMagnitude neg (roundMagnitude_binary32_lt m q)

/-- An integer that has the value, or two bits more than the format and is the value rounded to odd. -/
def RoundsFrom (w : ℝ) (m : Nat) : Prop := w = m ∨ 2 ^ 25 ≤ m ∧ RoundsOdd w m

theorem RoundsFrom.roundsTo {w : ℝ} {m : Nat} (h : RoundsFrom w m) (q : Int) : ∃ k r, roundMagnitude binary32 m q =
    min (k * 2 ^ 23 + r) 0x7F800000 ∧ RoundsTo binary32 (w * 2 ^ q) k r := by
  obtain ⟨k, r, heq, hr⟩ := roundMagnitude_roundsTo (fmt := binary32) (by decide) m q
  refine ⟨k, r, heq, ?_⟩
  obtain rfl | ⟨hm, hw⟩ := h
  · exact hr
  · exact hr.of_roundsOdd hw hm

theorem roundFloat_isNearestFinite {w : ℝ} {m : Nat} (h : RoundsFrom w m) {q : Int} (hlt : w * 2 ^ q < 2 ^ 128 - 2 ^ 103) :
    IsNearestFinite (w * 2 ^ q) (roundFloat false m q) := by
  obtain ⟨k, r, heq, hr⟩ := h.roundsTo q
  have hfin := not_le.1 (hr.overflow_iff.not.2 hlt.not_ge)
  rw [roundFloat_eq, heq, min_eq_left hfin.le]
  exact hr.isNearestFinite hfin

theorem roundFloat_eq_inf {w : ℝ} {m : Nat} (h : RoundsFrom w m) {q : Int} (hge : 2 ^ 128 - 2 ^ 103 ≤ w * 2 ^ q) :
    roundFloat false m q = 0x7F800000#32 := by
  obtain ⟨k, r, heq, hr⟩ := h.roundsTo q
  rw [roundFloat_eq, heq, min_eq_right (hr.overflow_iff.2 hge)]
  rfl

theorem RoundsFrom.nonneg {w : ℝ} {m : Nat} (h : RoundsFrom w m) : 0 ≤ w := by
  obtain rfl | ⟨hm, rfl | ⟨-, hw⟩⟩ := h
  · exact m.cast_nonneg
  · exact m.cast_nonneg
  · have hm : (2 ^ 25 : ℝ) ≤ m := by exact_mod_cast hm
    linarith [(abs_lt.1 hw).1]

theorem isNaNorInf_xor_signBit (p : Word) : isNaNorInf (p ^^^ signBit) = isNaNorInf p := by
  rw [Bool.eq_iff_iff, isNaNorInf_iff, isNaNorInf_iff, magnitude_xor_signBit]

theorem IsNearest.neg {v : ℚ} {p : Word} (h : IsNearest v p) : IsNearest (-v) (p ^^^ signBit) := by
  have hthreshold : (0 : ℚ) < 2 ^ 128 - 2 ^ 103 := by norm_num
  unfold IsNearest at h ⊢
  generalize (2 : ℚ) ^ 128 - 2 ^ 103 = c at *
  split at h
  case isTrue hv => rw [if_neg (by linarith), if_pos (by linarith), h]; rfl
  case isFalse hv =>
    split at h
    case isTrue hv' => rw [if_pos (by linarith), h]; rfl
    case isFalse hv' =>
      rw [if_neg (by linarith), if_neg (by linarith), isNaNorInf_xor_signBit, fValue_xor_signBit, fMan_eq, magnitude_xor_signBit,
        ← fMan_eq]
      refine ⟨h.1, fun q hq => ?_⟩
      have hdist (x : ℚ) : |-x - -v| = |x - v| := by rw [← abs_neg]; ring_nf
      have hq' := h.2 (q ^^^ signBit) ((isNaNorInf_xor_signBit q).trans hq)
      rw [fValue_xor_signBit, ← hdist (-fValue q), neg_neg] at hq'
      rwa [hdist, ← neg_eq_iff_eq_neg]

theorem overflow_le_cast_iff (v : ℚ) : (2 : ℝ) ^ 128 - 2 ^ 103 ≤ v ↔ 2 ^ 128 - 2 ^ 103 ≤ v := by
  rw [show (2 : ℝ) ^ 128 - 2 ^ 103 = (2 ^ 128 - 2 ^ 103 : ℚ) by norm_num, Rat.cast_le]

theorem roundFloat_true (m : Nat) (q : Int) : roundFloat true m q = roundFloat false m q ^^^ signBit := by
  have hlt := roundMagnitude_binary32_lt m q
  refine eq_of_sign_magnitude ?_ ?_
  · rw [fNeg_xor_signBit, fNeg_roundFloat, fNeg_roundFloat]
    rfl
  · rw [magnitude_xor_signBit, roundFloat_eq, roundFloat_eq, magnitude_ofMagnitude _ hlt, magnitude_ofMagnitude _ hlt]

theorem fValue_nonneg {p : Word} (h : fNeg p = false) : 0 ≤ fValue p := by
  rw [fValue_eq, h]
  simpa using magValue_nonneg _

/-- The nearer of two values is the one on the side of the point halfway. -/
theorem abs_sub_le_abs_sub_iff_of_lt {a b : ℝ} (h : a < b) (y : ℝ) : |a - y| ≤ |b - y| ↔ y ≤ (a + b) / 2 := by
  rw [← sq_le_sq]
  constructor <;> intro <;> nlinarith

theorem abs_sub_le_abs_sub_iff_of_gt {a b : ℝ} (h : b < a) (y : ℝ) : |a - y| ≤ |b - y| ↔ (a + b) / 2 ≤ y := by
  rw [← sq_le_sq]
  constructor <;> intro <;> nlinarith

theorem abs_sub_eq_abs_sub_halfway (a b : ℝ) : |a - (a + b) / 2| = |b - (a + b) / 2| := by
  rw [← abs_neg]
  ring_nf

section
variable {w : ℝ} {m : Nat} (h : RoundsFrom w m)
include h

theorem roundFloat_false_isNearest {q : Int} {v : ℚ} (hv : (v : ℝ) = w * 2 ^ q) : IsNearest v (roundFloat false m q) := by
  have hnonneg : 0 ≤ v := by
    have hw := h.nonneg
    have hv0 : (0 : ℝ) ≤ v := by rw [hv]; positivity
    exact_mod_cast hv0
  rw [IsNearest, if_neg (c := v ≤ _) (not_le.2 (lt_of_lt_of_le (by norm_num) hnonneg))]
  split
  case isTrue hge => exact roundFloat_eq_inf h (hv ▸ (overflow_le_cast_iff v).2 hge)
  case isFalse hlt =>
    obtain ⟨hfin, hnear⟩ := roundFloat_isNearestFinite h (hv ▸ not_le.1 ((overflow_le_cast_iff v).not.2 hlt))
    rw [← hv] at hnear
    exact ⟨hfin, fun p _ => by exact_mod_cast hnear p⟩

/-- `roundFloat` gives the nearest pattern. -/
theorem roundFloat_isNearest {neg : Bool} {q : Int} {v : ℚ} (hv : (v : ℝ) = (if neg then -1 else 1) * (w * 2 ^ q)) :
    IsNearest v (roundFloat neg m q) := by
  cases neg with
  | false => exact roundFloat_false_isNearest h (hv.trans (one_mul _))
  | true =>
    rw [roundFloat_true, ← neg_neg v]
    exact (roundFloat_false_isNearest h (by rw [Rat.cast_neg, hv, if_pos rfl, neg_one_mul, neg_neg])).neg

/-- `roundFloat` gives the nearest pattern to a root: no value between the root and the pattern's is halfway to another pattern. -/
theorem roundFloat_isNearestRoot {q : Int} {v : ℚ} (hv : 0 ≤ v) (hroot : √(v : ℝ) = w * 2 ^ q) (hlt : v < 2 ^ 128) :
    IsNearestRoot v (roundFloat false m q) := by
  have hv' : (0 : ℝ) ≤ v := by exact_mod_cast hv
  have hbound : √(v : ℝ) < 2 ^ 128 - 2 ^ 103 := by
    rw [Real.sqrt_lt' (by norm_num)]
    have hlt' : (v : ℝ) < (2 ^ 128 : ℚ) := Rat.cast_lt.2 hlt
    exact hlt'.trans (by norm_num)
  obtain ⟨hfin, hnear⟩ := roundFloat_isNearestFinite h (hroot ▸ hbound)
  rw [← hroot] at hnear
  refine ⟨hfin, fNeg_roundFloat _ _ _, fun p _ hp => ?_⟩
  obtain ⟨hclose, htie⟩ := hnear p
  have hhalf : 0 ≤ (fValue (roundFloat false m q) + fValue p) / 2 := by
    linarith [fValue_nonneg (fNeg_roundFloat false m q), fValue_nonneg hp]
  have heven (hne : fValue p ≠ fValue (roundFloat false m q)) (he : v = ((fValue (roundFloat false m q) + fValue p) / 2) ^ 2) :
      fMan (roundFloat false m q) % 2 = 0 := by
    refine (htie ?_).resolve_left hne
    rw [he, Rat.cast_pow, Real.sqrt_sq (by exact_mod_cast hhalf)]
    push_cast
    exact abs_sub_eq_abs_sub_halfway _ _
  refine ⟨fun hpq => ⟨?above, heven hpq.ne'⟩, fun hqp => ⟨?below, heven hqp.ne⟩⟩
  case above =>
    have hle := (abs_sub_le_abs_sub_iff_of_lt (Rat.cast_lt.2 hpq) _).1 hclose
    exact_mod_cast (Real.sqrt_le_iff.1 hle).2
  case below =>
    have hle := (abs_sub_le_abs_sub_iff_of_gt (Rat.cast_lt.2 hqp) _).1 hclose
    exact_mod_cast (Real.le_sqrt (by exact_mod_cast hhalf) hv').1 hle

end

end Sys2Proof.Machine
end

section
/-! PROOF. Conversions to words (43_cop1.md R374 to R379): `roundToInt` gives the integer of each mode, whatever the exponent. A negative
value rounds as its opposite in the mode with the infinities exchanged. -/

namespace Sys2Proof.Machine

open Sys2Proof

theorem isRoundedInt_intCast (mode : Rounding) (z : Int) : IsRoundedInt mode z z := by
  cases mode <;> simp [IsRoundedInt]

theorem floor_natCast_div_two_pow (m k : Nat) : ⌊(m : ℚ) / 2 ^ k⌋ = (m / 2 ^ k : Nat) := by
  have h := Int.floor_div_natCast (m : ℚ) (2 ^ k)
  rw [Int.floor_natCast] at h
  exact_mod_cast h

theorem ceil_natCast_div_two_pow (m k : Nat) :
    ⌈(m : ℚ) / 2 ^ k⌉ = (if m % 2 ^ k = 0 then m / 2 ^ k else m / 2 ^ k + 1 : Nat) := by
  have hpos : (0 : ℚ) < 2 ^ k := by positivity
  have hdiv : (m : ℚ) = 2 ^ k * (m / 2 ^ k : Nat) + (m % 2 ^ k : Nat) := by exact_mod_cast (Nat.div_add_mod m (2 ^ k)).symm
  have hmod : ((m % 2 ^ k : Nat) : ℚ) < 2 ^ k := by exact_mod_cast Nat.mod_lt m (Nat.two_pow_pos k)
  rw [Int.ceil_eq_iff, lt_div_iff₀ hpos, div_le_iff₀ hpos, Int.cast_natCast, hdiv]
  split
  case isTrue h =>
    rw [h, Nat.cast_zero]
    constructor <;> linarith
  case isFalse h =>
    have h1 : (1 : ℚ) ≤ (m % 2 ^ k : Nat) := by exact_mod_cast Nat.one_le_iff_ne_zero.2 h
    rw [Nat.cast_add_one]
    constructor <;> linarith

/-- The mode that rounds an opposite value to the opposite integer. -/
def Rounding.opposite : Rounding → Rounding
  | .nearestEven => .nearestEven
  | .towardZero => .towardZero
  | .towardPlus => .towardMinus
  | .towardMinus => .towardPlus

theorem IsRoundedInt.of_opposite {mode : Rounding} {v : ℚ} {r : Int} (h : IsRoundedInt mode.opposite v r) :
    IsRoundedInt mode (-v) (-r) := by
  cases mode with
  | nearestEven =>
    rw [isRoundedInt_nearestEven_iff, Rat.cast_neg]
    exact ((isRoundedInt_nearestEven_iff v r).1 h).neg
  | towardZero =>
    obtain hv | rfl | hv := lt_trichotomy v 0
    · rw [IsRoundedInt, if_pos (by linarith), Int.floor_neg, neg_inj]
      exact h.trans (if_neg hv.not_ge)
    · simpa [IsRoundedInt, Rounding.opposite] using h
    · rw [IsRoundedInt, if_neg (by linarith), Int.ceil_neg, neg_inj]
      exact h.trans (if_pos hv.le)
  | towardPlus => exact (congrArg Neg.neg h).trans Int.ceil_neg.symm
  | towardMinus => exact (congrArg Neg.neg h).trans Int.floor_neg.symm

theorem roundToInt_true (mode : Rounding) (m : Nat) (q : Int) : roundToInt mode true m q = -roundToInt mode.opposite false m q := by
  cases mode <;> simp [roundToInt, Rounding.opposite] <;> split <;> simp

theorem roundToInt_false_isRoundedInt (mode : Rounding) (m : Nat) (q : Int) :
    IsRoundedInt mode (m * 2 ^ q) (roundToInt mode false m q) := by
  rw [roundToInt]
  split
  case isTrue hq =>
    have hz : (m : ℚ) * 2 ^ q = ((m * 2 ^ q.toNat : Nat) : Int) := by
      conv_lhs => rw [← Int.toNat_of_nonneg hq]
      push_cast
      rw [zpow_natCast]
    rw [hz]
    exact isRoundedInt_intCast mode _
  case isFalse hq =>
    have hx : (m : ℚ) * 2 ^ q = m / 2 ^ (-q).toNat := by
      rw [← zpow_natCast, Int.toNat_of_nonneg (by omega), zpow_neg, div_inv_eq_mul]
    rw [hx]
    cases mode with
    | nearestEven =>
      rw [isRoundedInt_nearestEven_iff]
      push_cast
      exact shiftRoundEven_roundsEven m _
    | towardZero => exact (floor_natCast_div_two_pow m _).symm.trans (if_pos (by positivity)).symm
    | towardPlus => simpa [IsRoundedInt] using (ceil_natCast_div_two_pow m _).symm
    | towardMinus => simpa [IsRoundedInt] using (floor_natCast_div_two_pow m _).symm

/-- `roundToInt` rounds the exact value of a pattern as its mode says (R374). -/
theorem roundToInt_isRoundedInt (mode : Rounding) (p : Word) :
    IsRoundedInt mode (fValue p) (roundToInt mode (fNeg p) (fMant p) (fPow p)) := by
  rw [fValue, mul_assoc]
  cases fNeg p with
  | false => simpa using roundToInt_false_isRoundedInt mode (fMant p) (fPow p)
  | true => simpa [roundToInt_true] using (roundToInt_false_isRoundedInt mode.opposite (fMant p) (fPow p)).of_opposite

theorem f2i_isConverted (mode : Rounding) (p : Word) : IsConverted mode p (f2i mode p) := by
  rw [IsConverted, f2i]
  split
  case isTrue => rfl
  case isFalse => exact ⟨_, roundToInt_isRoundedInt mode p, rfl⟩

/-- A conversion in the mode of its rule. -/
theorem done_f2i {mode mode' : Rounding} (h : mode = mode') (fs fd : FReg) (s : State) :
    ∃ t, done (s.setF fd (f2i mode (s.f fs))) = .next t ∧ IsConverted mode' (s.f fs) (t.f fd) ∧ OnlyF fd s t := by
  subst h
  obtain ⟨hval, honly⟩ := writesF_done fd (f2i mode (s.f fs)) s
  refine ⟨_, rfl, ?_, honly⟩
  rw [hval]
  exact f2i_isConverted mode _

/-- The RM field selects the mode of its number (R375). -/
theorem ofRM_eq {n : Nat} {v : Word} (h : v.toNat % 4 = n) : Rounding.ofRM (v.extractLsb' 0 2) = Rounding.ofRM (BitVec.ofNat 2 n) := by
  congr 1
  apply BitVec.eq_of_toNat_eq
  rw [BitVec.extractLsb'_toNat, BitVec.toNat_ofNat, ← h]
  simp

/-- Settles O27: each conversion is `f2i` in the mode of its rule (`done_f2i`). -/
theorem floatToWordConversions : Obligations.FloatToWordConversions := by
  unfold Obligations.FloatToWordConversions
  intro s fs fd
  exact ⟨done_f2i rfl fs fd s, done_f2i rfl fs fd s, done_f2i rfl fs fd s, done_f2i rfl fs fd s, fun h => done_f2i (ofRM_eq h) fs fd s,
    fun h => done_f2i (ofRM_eq h) fs fd s, fun h => done_f2i (ofRM_eq h) fs fd s, fun h => done_f2i (ofRM_eq h) fs fd s⟩

end Sys2Proof.Machine
end

section
/-! PROOF. COP1 arithmetic (43_cop1.md R366 to R370, R380): the special cases, the exact result that each operation hands to `roundFloat`,
and the flush of subnormals around it. -/

namespace Sys2Proof.Machine

open Sys2Proof

/-! ### Classes -/

theorem isNaNorInf_eq (p : Word) : isNaNorInf p = (isNaN p || isInf p) := by
  rw [Bool.eq_iff_iff, Bool.or_eq_true, isNaNorInf_iff, isNaN_iff, isInf_iff]
  omega

theorem isNaN_of_finite {p : Word} (h : isNaNorInf p = false) : isNaN p = false := (Bool.or_eq_false_iff.1 (isNaNorInf_eq p ▸ h)).1

theorem isInf_of_finite {p : Word} (h : isNaNorInf p = false) : isInf p = false := (Bool.or_eq_false_iff.1 (isNaNorInf_eq p ▸ h)).2

theorem isNaN_of_isInf {p : Word} (h : isInf p = true) : isNaN p = false := by
  rw [isNaN_eq_false_iff, (isInf_iff p).1 h]

theorem finite_of_isZero {p : Word} (h : isZero p = true) : isNaNorInf p = false := by
  rw [isNaNorInf_eq_false_iff, (isZero_iff p).1 h]
  decide

theorem isNaN_xor_signBit (p : Word) : isNaN (p ^^^ signBit) = isNaN p := by
  rw [Bool.eq_iff_iff, isNaN_iff, isNaN_iff, magnitude_xor_signBit]

theorem isInf_xor_signBit (p : Word) : isInf (p ^^^ signBit) = isInf p := by
  rw [Bool.eq_iff_iff, isInf_iff, isInf_iff, magnitude_xor_signBit]

/-- Infinities are equal when their signs are. -/
theorem eq_iff_fNeg_eq_of_isInf {p q : Word} (hp : isInf p = true) (hq : isInf q = true) : p = q ↔ fNeg p = fNeg q :=
  ⟨congrArg fNeg, fun h => eq_of_sign_magnitude h (((isInf_iff p).1 hp).trans ((isInf_iff q).1 hq).symm)⟩

/-- What is subtracted from an infinity without a NaN. -/
theorem xor_signBit_of_ne_inf {a b : Word} (ha : isInf a = true) (hb : isNaN b = false) (h : b ≠ a) :
    isNaNorInf (b ^^^ signBit) = false ∨ b ^^^ signBit = a := by
  rw [isNaNorInf_xor_signBit, isNaNorInf_eq, hb, Bool.false_or, or_iff_not_imp_left, Bool.not_eq_false]
  intro hib
  rw [eq_iff_fNeg_eq_of_isInf ((isInf_xor_signBit b).trans hib) ha, fNeg_xor_signBit]
  exact Bool.not_eq_eq_eq_not.2 (Bool.eq_not_of_ne ((eq_iff_fNeg_eq_of_isInf hib ha).not.1 h))

/-! ### The flush of subnormals -/

theorem signedZero_not (neg : Bool) : signedZero (!neg) = signedZero neg ^^^ signBit := by cases neg <;> rfl

theorem and_signBit (p : Word) : p &&& signBit = signedZero (fNeg p) := by
  rw [signedZero_eq]
  refine eq_of_sign_magnitude ?_ ?_
  · rw [fNeg_ofMagnitude _ (by decide), fNeg, BitVec.getLsbD_and, signBit_bit]
    exact Bool.and_true _
  · rw [magnitude_ofMagnitude _ (by decide), magnitude, BitVec.extractLsb'_and, show signBit.extractLsb' 0 31 = 0#31 from rfl,
      BitVec.and_zero]
    rfl

theorem flush_eq (ftz : Bool) (p : Word) : flush ftz p = if ftz = true ∧ fExp p = 0 then signedZero (fNeg p) else p := by
  simp only [flush, and_signBit, Bool.and_eq_true, beq_iff_eq]

theorem fNeg_signedZero (neg : Bool) : fNeg (signedZero neg) = neg := by cases neg <;> rfl

theorem fNeg_flush (ftz : Bool) (p : Word) : fNeg (flush ftz p) = fNeg p := by
  rw [flush_eq]
  split
  · exact fNeg_signedZero _
  · rfl

theorem flush_of_fExp_ne_zero (ftz : Bool) {p : Word} (h : fExp p ≠ 0) : flush ftz p = p := by
  rw [flush_eq, if_neg fun hp => h hp.2]

theorem flush_of_isInf (ftz : Bool) {p : Word} (h : isInf p = true) : flush ftz p = p :=
  flush_of_fExp_ne_zero ftz (by rw [fExp_eq, (isInf_iff p).1 h]; decide)

theorem flush_signedInf (ftz neg : Bool) : flush ftz (signedInf neg) = signedInf neg := flush_of_isInf ftz (by cases neg <;> rfl)

theorem flush_signedZero (ftz neg : Bool) : flush ftz (signedZero neg) = signedZero neg := by
  rw [flush_eq, fNeg_signedZero, ite_self]

theorem flush_xor_signBit (ftz : Bool) (p : Word) : flush ftz (p ^^^ signBit) = flush ftz p ^^^ signBit := by
  rw [flush_eq, flush_eq, fNeg_xor_signBit, signedZero_not, fExp_eq, magnitude_xor_signBit, ← fExp_eq]
  split <;> rfl

/-! ### Endings -/

/-- A float result is written, a NaN drawn (R360). -/
theorem writeFloat_ends (fd : FReg) (r : Option Word) (s : State) :
    ∃ t, writeFloat fd r s = .next t ∧ OnlyF fd s t ∧ IsFloat r (t.f fd) := by
  obtain ⟨hval, honly⟩ := writesF_done fd (orNaN (s.free laneDraws) r) s
  refine ⟨_, rfl, honly, ?_⟩
  rw [hval]
  exact isFloat_orNaN _ _

section
variable {r : Option Word} {f : Word → Word} {v : Word} (h : IsFloat (r.map f) v)
include h

theorem IsFloat.isNaN_of_none (hr : r = none) : isNaN v = true := by
  subst hr
  exact h

theorem IsFloat.eq_of_some {p : Word} (hr : r = some p) : v = f p := by
  subst hr
  exact h

end

theorem fSub_eq (ftz : Bool) (x y : Word) : fSub ftz x y = (fAddRaw (flush ftz x) (flush ftz y ^^^ signBit)).map (flush ftz) := by
  rw [fSub, fAdd, withFlush2, flush_xor_signBit]

/-! ### Special cases (R366 to R370) -/

section
variable {a b : Word}

theorem fAddRaw_of_isNaN (h : (isNaN a || isNaN b) = true) : fAddRaw a b = none := if_pos h

theorem fAddRaw_of_isInf_opposite (ha : isInf a = true) (hb : isInf b = true) (h : fNeg a ≠ fNeg b) : fAddRaw a b = none := by
  simp [fAddRaw, ha, hb, h]

theorem fAddRaw_of_isInf_left (ha : isInf a = true) (h : isNaNorInf b = false ∨ b = a) : fAddRaw a b = some a := by
  obtain hb | rfl := h
  · simp [fAddRaw, ha, isNaN_of_isInf, isNaN_of_finite hb, isInf_of_finite hb]
  · simp [fAddRaw, ha, isNaN_of_isInf]

theorem fAddRaw_of_isInf_right (ha : isNaNorInf a = false) (hb : isInf b = true) : fAddRaw a b = some b := by
  simp [fAddRaw, isNaN_of_finite ha, isInf_of_finite ha, isNaN_of_isInf hb, hb]

theorem fAddRaw_of_finite (ha : isNaNorInf a = false) (hb : isNaNorInf b = false) : fAddRaw a b = some (addFinite a b) := by
  simp [fAddRaw, isNaN_of_finite, isInf_of_finite, ha, hb]

theorem fMulRaw_of_isNaN (h : (isNaN a || isNaN b) = true) : fMulRaw a b = none := if_pos h

theorem fMulRaw_of_isInf_zero (h : isInf a = true ∧ isZero b = true ∨ isZero a = true ∧ isInf b = true) : fMulRaw a b = none := by
  obtain ⟨ha, hb⟩ | ⟨ha, hb⟩ := h <;> simp [fMulRaw, ha, hb]

theorem fMulRaw_of_isInf (ha : isNaN a = false) (hb : isNaN b = false) (ha0 : isZero a = false) (hb0 : isZero b = false)
    (h : isInf a = true ∨ isInf b = true) : fMulRaw a b = some (signedInf (fNeg a != fNeg b)) := by
  simp [fMulRaw, ha, hb, ha0, hb0, h]

theorem fMulRaw_of_finite (ha : isNaNorInf a = false) (hb : isNaNorInf b = false) :
    fMulRaw a b = some (roundFloat (fNeg a != fNeg b) (fMant a * fMant b) (fPow a + fPow b)) := by
  simp [fMulRaw, isNaN_of_finite, isInf_of_finite, ha, hb]

theorem fDivRaw_of_isNaN (h : (isNaN a || isNaN b) = true) : fDivRaw a b = none := if_pos h

theorem fDivRaw_of_zeros_or_infs (h : isZero a = true ∧ isZero b = true ∨ isInf a = true ∧ isInf b = true) : fDivRaw a b = none := by
  obtain ⟨ha, hb⟩ | ⟨ha, hb⟩ := h
  · simp [fDivRaw, ha, hb, isInf_of_finite, finite_of_isZero]
  · simp [fDivRaw, ha, hb]

theorem fDivRaw_of_isInf_left (ha : isInf a = true) (hb : isNaNorInf b = false) : fDivRaw a b = some (signedInf (fNeg a != fNeg b)) := by
  simp [fDivRaw, ha, isNaN_of_isInf, isNaN_of_finite hb, isInf_of_finite hb]

theorem fDivRaw_of_isInf_right (ha : isNaNorInf a = false) (hb : isInf b = true) : fDivRaw a b = some (signedZero (fNeg a != fNeg b)) := by
  simp [fDivRaw, hb, isNaN_of_isInf, isNaN_of_finite ha, isInf_of_finite ha]

theorem fDivRaw_of_zero (ha : isNaNorInf a = false) (ha0 : isZero a = false) (hb : isZero b = true) :
    fDivRaw a b = some (signedInf (fNeg a != fNeg b)) := by
  have hb' := finite_of_isZero hb
  simp [fDivRaw, isNaN_of_finite ha, isInf_of_finite ha, isNaN_of_finite hb', isInf_of_finite hb', ha0, hb]

theorem fDivRaw_of_finite (ha : isNaNorInf a = false) (hb : isNaNorInf b = false) (hb0 : isZero b = false) :
    fDivRaw a b = some (divFinite a b) := by
  simp [fDivRaw, isNaN_of_finite, isInf_of_finite, ha, hb, hb0]

theorem fSqrtRaw_of_isNaN (h : isNaN a = true) : fSqrtRaw a = none := if_pos h

theorem fSqrtRaw_of_negative (hn : fNeg a = true) (h0 : isZero a = false) : fSqrtRaw a = none := by
  simp [fSqrtRaw, hn, h0]

theorem fSqrtRaw_of_isZero (h : isZero a = true) : fSqrtRaw a = some a := by
  simp [fSqrtRaw, isNaN_of_finite, finite_of_isZero, h]

theorem fSqrtRaw_of_positive (ha : isNaNorInf a = false) (h0 : isZero a = false) (hn : fNeg a = false) :
    fSqrtRaw a = some (sqrtFinite a) := by
  simp [fSqrtRaw, isNaN_of_finite, isInf_of_finite, ha, h0, hn]

end

/-- The infinity whose sign is that of a product or quotient. -/
theorem signedInf_bne (m n : Bool) : signedInf (m != n) = if m = n then 0x7F800000#32 else 0xFF800000#32 := by
  cases m <;> cases n <;> rfl

theorem signedZero_bne (m n : Bool) : signedZero (m != n) = if m = n then 0#32 else 0x80000000#32 := by
  cases m <;> cases n <;> rfl

/-- The flush that the statements write out. -/
theorem eq_flush {ftz : Bool} {fl : Word → Word}
    (h : ∀ p : Word, fl p = if ftz = true ∧ fExp p = 0 then (if fNeg p then 0x80000000#32 else 0#32) else p) : fl = flush ftz :=
  funext fun p => (h p).trans (flush_eq ftz p).symm

/-- Settles O25: each operation answers what its special case says (`fAddRaw_of_isNaN` to `fSqrtRaw_of_isZero`), and no infinity or zero is
changed by the flush. -/
theorem cop1Arithmetic : Obligations.Cop1Arithmetic := by
  unfold Obligations.Cop1Arithmetic
  intro s ft fs fd fl a b hfl ha hb
  obtain rfl := eq_flush hfl
  refine ⟨?add, ?sub, ?mul, ?div, ?sqrt, ?cvt⟩
  case add =>
    obtain ⟨t, hnext, honly, hv⟩ := writeFloat_ends fd (fAdd s.cfg.ftz (s.f fs) (s.f ft)) s
    rw [fAdd, withFlush2, ← ha, ← hb] at hv
    refine ⟨t, hnext, honly, fun h => hv.isNaN_of_none (fAddRaw_of_isNaN h), fun hia hib hne => ?opposite, fun hia hb => ?left,
      fun hib hfa => ?right⟩
    case opposite => exact hv.isNaN_of_none (fAddRaw_of_isInf_opposite hia hib (hne ∘ (eq_iff_fNeg_eq_of_isInf hia hib).2))
    case left => rw [hv.eq_of_some (fAddRaw_of_isInf_left hia hb), flush_of_isInf _ hia]
    case right => rw [hv.eq_of_some (fAddRaw_of_isInf_right hfa hib), flush_of_isInf _ hib]
  case sub =>
    obtain ⟨t, hnext, honly, hv⟩ := writeFloat_ends fd (fSub s.cfg.ftz (s.f fs) (s.f ft)) s
    rw [fSub_eq, ← ha, ← hb] at hv
    have hnan := isNaN_xor_signBit b
    have hinf := isInf_xor_signBit b
    refine ⟨t, hnext, honly, fun h => hv.isNaN_of_none (fAddRaw_of_isNaN (by rwa [hnan])), fun hia hba => ?same, fun hia hnb hne => ?left,
      fun hib hfa => ?right⟩
    case same =>
      refine hv.isNaN_of_none (fAddRaw_of_isInf_opposite hia (hinf.trans (hba ▸ hia)) ?_)
      rw [fNeg_xor_signBit, hba]
      exact (Bool.not_ne_self _).symm
    case left => rw [hv.eq_of_some (fAddRaw_of_isInf_left hia (xor_signBit_of_ne_inf hia hnb hne)), flush_of_isInf _ hia]
    case right => rw [hv.eq_of_some (fAddRaw_of_isInf_right hfa (hinf.trans hib)), flush_of_isInf _ (hinf.trans hib)]
  case mul =>
    obtain ⟨t, hnext, honly, hv⟩ := writeFloat_ends fd (fMul s.cfg.ftz (s.f fs) (s.f ft)) s
    rw [fMul, withFlush2, ← ha, ← hb] at hv
    refine ⟨t, hnext, honly, fun h => hv.isNaN_of_none (fMulRaw_of_isNaN h), fun h => hv.isNaN_of_none (fMulRaw_of_isInf_zero h),
      fun hna hnb hza hzb h => ?inf⟩
    case inf => rw [hv.eq_of_some (fMulRaw_of_isInf hna hnb hza hzb h), flush_signedInf, signedInf_bne]
  case div =>
    obtain ⟨t, hnext, honly, hv⟩ := writeFloat_ends fd (fDiv s.cfg.ftz (s.f fs) (s.f ft)) s
    rw [fDiv, withFlush2, ← ha, ← hb] at hv
    refine ⟨t, hnext, honly, fun h => hv.isNaN_of_none (fDivRaw_of_isNaN h), fun h => hv.isNaN_of_none (fDivRaw_of_zeros_or_infs h),
      fun hia hfb => ?left, fun hfa hib => ?right, fun hfa hza hzb => ?zero⟩
    case left => rw [hv.eq_of_some (fDivRaw_of_isInf_left hia hfb), flush_signedInf, signedInf_bne]
    case right => rw [hv.eq_of_some (fDivRaw_of_isInf_right hfa hib), flush_signedZero, signedZero_bne]
    case zero => rw [hv.eq_of_some (fDivRaw_of_zero hfa hza hzb), flush_signedInf, signedInf_bne]
  case sqrt =>
    obtain ⟨t, hnext, honly, hv⟩ := writeFloat_ends fd (fSqrt s.cfg.ftz (s.f fs)) s
    rw [fSqrt, withFlush1, ← ha] at hv
    refine ⟨t, hnext, honly, fun h => hv.isNaN_of_none (fSqrtRaw_of_isNaN h), fun hn h0 => hv.isNaN_of_none (fSqrtRaw_of_negative hn h0),
      fun h => ?kept⟩
    case kept =>
      obtain h0 | rfl := h
      · rw [hv.eq_of_some (fSqrtRaw_of_isZero h0), eq_signedZero_of_isZero h0, flush_signedZero]
      · exact (hv.eq_of_some rfl).trans (flush_signedInf _ false)
  case cvt =>
    obtain ⟨hval, honly⟩ := writesF_done fd (ofScaledInt (s.f fs).toInt 0) s
    refine ⟨_, rfl, honly, fun h0 => ?_⟩
    rw [hval, h0]
    rfl

end Sys2Proof.Machine
end

section
/-! PROOF. COP1 arithmetic on finite operands (43_cop1.md R366 to R370, R380): the value that each operation hands to `roundFloat` is the
exact sum, product, quotient or root, or rounds as it does. -/

namespace Sys2Proof.Machine

open Sys2Proof

/-! ### Exact results -/

theorem roundFloat_isNearest_exact (neg : Bool) (m : Nat) (q : Int) :
    IsNearest ((if neg then -1 else 1) * (m * 2 ^ q)) (roundFloat neg m q) :=
  roundFloat_isNearest (.inl rfl) (by cases neg <;> simp)

theorem signedZero_isNearest (neg : Bool) : IsNearest 0 (signedZero neg) := by
  have h := roundFloat_isNearest_exact neg 0 0
  rw [Nat.cast_zero, zero_mul, mul_zero] at h
  rwa [signedZero_eq]

/-- `P(n * 2^q)` of an integer (R380). -/
theorem ofScaledInt_isNearest (n q : Int) : IsNearest (n * 2 ^ q) (ofScaledInt n q) := by
  have hn : (n : ℚ) = (if decide (n < 0) then -1 else 1) * (n.natAbs : ℚ) := by
    obtain h | h := lt_or_ge n 0
    · rw [decide_eq_true h, if_pos rfl, Nat.cast_natAbs, abs_of_neg h]
      push_cast
      ring
    · rw [decide_eq_false h.not_gt, if_neg Bool.false_ne_true, Nat.cast_natAbs, abs_of_nonneg h, one_mul]
  rw [hn, mul_assoc]
  exact roundFloat_isNearest_exact _ _ _

/-- A pattern's integer at an exponent that is at most its own. -/
theorem fIntAt_mul_two_pow (p : Word) {q : Int} (h : q ≤ fPow p) : (fIntAt p q : ℚ) * 2 ^ q = fValue p := by
  have hm : ((fMant p * 2 ^ (fPow p - q).toNat : Nat) : ℚ) * 2 ^ q = fMant p * 2 ^ fPow p := by
    rw [Nat.cast_mul, Nat.cast_pow, mul_assoc, Nat.cast_ofNat, ← zpow_natCast, Int.toNat_of_nonneg (by omega), ← zpow_add₀ two_ne_zero,
      sub_add_cancel]
  rw [fValue, mul_assoc, ← hm, fIntAt]
  cases fNeg p <;> simp

theorem addFinite_eq (a b : Word) : addFinite a b = if fValue a + fValue b = 0 then signedZero (fNeg a && fNeg b)
    else ofScaledInt (fIntAt a (min (fPow a) (fPow b)) + fIntAt b (min (fPow a) (fPow b))) (min (fPow a) (fPow b)) := by
  rw [← fIntAt_mul_two_pow a (min_le_left _ (fPow b)), ← fIntAt_mul_two_pow b (min_le_right (fPow a) _), ← add_mul, addFinite]
  have hpow : (2 : ℚ) ^ min (fPow a) (fPow b) ≠ 0 := zpow_ne_zero _ two_ne_zero
  simp only [mul_eq_zero, hpow, or_false]
  norm_cast

theorem addFinite_isNearest (a b : Word) : IsNearest (fValue a + fValue b) (addFinite a b) := by
  rw [addFinite_eq]
  split
  case isTrue h =>
    rw [h]
    exact signedZero_isNearest _
  case isFalse =>
    rw [← fIntAt_mul_two_pow a (min_le_left _ (fPow b)), ← fIntAt_mul_two_pow b (min_le_right (fPow a) _), ← add_mul,
      ← Int.cast_add]
    exact ofScaledInt_isNearest _ _

/-- The sign of a product. -/
theorem sign_bne (m n : Bool) : (if m != n then -1 else 1 : ℚ) = (if m then -1 else 1) * (if n then -1 else 1) := by
  cases m <;> cases n <;> norm_num

/-- The sign of a quotient. -/
theorem sign_bne_div (m n : Bool) : (if m != n then -1 else 1 : ℚ) = (if m then -1 else 1) / (if n then -1 else 1) := by
  cases m <;> cases n <;> norm_num

theorem mulFinite_isNearest (a b : Word) :
    IsNearest (fValue a * fValue b) (roundFloat (fNeg a != fNeg b) (fMant a * fMant b) (fPow a + fPow b)) := by
  have h : fValue a * fValue b =
      (if fNeg a != fNeg b then -1 else 1) * (((fMant a * fMant b : Nat) : ℚ) * 2 ^ (fPow a + fPow b)) := by
    rw [fValue, fValue, sign_bne, zpow_add₀ two_ne_zero]
    push_cast
    ring
  rw [h]
  exact roundFloat_isNearest_exact _ _ _

/-! ### Quotients -/

theorem fMant_lt (p : Word) : fMant p < 2 ^ 24 := by
  rw [fMant_eq]
  have := Nat.mod_lt (magnitude p) (show 0 < 2 ^ 23 by decide)
  split <;> omega

theorem fMant_pos {p : Word} (h : isZero p = false) : 0 < fMant p := by
  rw [← Bool.not_eq_true, isZero_iff] at h
  rw [fMant_eq]
  split <;> omega

/-- The quotient of the integers, computed with 50 further bits and a sticky one. -/
theorem roundsFrom_quotient {m n : Nat} (hn : 0 < n) (hlt : n < 2 ^ 24) :
    RoundsFrom (2 * ((m * 2 ^ 50 : Nat) / n)) (2 * (m * 2 ^ 50 / n) + if m * 2 ^ 50 % n = 0 then 0 else 1) := by
  obtain rfl | hm := m.eq_zero_or_pos
  · exact .inl (by simp)
  · have hn' : (0 : ℝ) < n := by exact_mod_cast hn
    have hlarge : 2 ^ 25 ≤ m * 2 ^ 50 / n := by
      rw [Nat.le_div_iff_mul_le hn]
      nlinarith
    refine .inr ⟨by omega, roundsOdd_sticky Nat.cast_div_le ?below ?exact⟩
    case below =>
      rw [div_lt_iff₀ hn']
      exact_mod_cast Nat.mul_comm n _ ▸ Nat.lt_mul_div_succ (m * 2 ^ 50) hn
    case exact =>
      rw [div_eq_iff hn'.ne']
      have := Nat.div_add_mod' (m * 2 ^ 50) n
      norm_cast
      omega

theorem divFinite_isNearest (a : Word) {b : Word} (hb : isZero b = false) : IsNearest (fValue a / fValue b) (divFinite a b) := by
  have hb' := fMant_pos hb
  have hb0 : (fMant b : ℚ) ≠ 0 := by exact_mod_cast hb'.ne'
  have h : fValue a / fValue b = (if fNeg a != fNeg b then -1 else 1) *
      (2 * ((fMant a * 2 ^ 50 : Nat) / fMant b) * 2 ^ (fPow a - fPow b - 51)) := by
    rw [fValue, fValue, sign_bne_div, zpow_sub₀ two_ne_zero, zpow_sub₀ two_ne_zero]
    push_cast
    field_simp
    ring
  refine roundFloat_isNearest (roundsFrom_quotient hb' (fMant_lt b)) ?_
  rw [h]
  cases fNeg a != fNeg b <;> simp

/-! ### Roots -/

theorem isqrtFrom_spec (n k : Nat) : ∀ r, r * r ≤ n → n < (r + 2 ^ k) * (r + 2 ^ k) →
    isqrtFrom n k r * isqrtFrom n k r ≤ n ∧ n < (isqrtFrom n k r + 1) * (isqrtFrom n k r + 1) := by
  induction k with
  | zero => exact fun r h h' => ⟨h, h'⟩
  | succ k ih =>
    intro r h h'
    rw [isqrtFrom]
    split
    case isTrue hle => exact ih _ hle (by rwa [add_assoc, ← two_mul, ← pow_succ'])
    case isFalse hlt => exact ih _ h (not_le.1 hlt)

theorem isqrt_spec {n : Nat} (h : n < 2 ^ 100) : isqrt n * isqrt n ≤ n ∧ n < (isqrt n + 1) * (isqrt n + 1) :=
  isqrtFrom_spec n 50 0 n.zero_le (by simpa using h)

/-- The root of an integer, computed with a sticky bit. -/
theorem roundsFrom_root {n : Nat} (hlo : 2 ^ 54 ≤ n) (hhi : n < 2 ^ 100) :
    RoundsFrom (2 * √(n : ℝ)) (2 * isqrt n + if isqrt n * isqrt n = n then 0 else 1) := by
  obtain ⟨hle, hlt⟩ := isqrt_spec hhi
  have hlarge : 2 ^ 25 ≤ isqrt n := by nlinarith
  refine .inr ⟨by omega, roundsOdd_sticky ?above ?below ?exact⟩
  case above =>
    rw [Real.le_sqrt (by positivity) (by positivity), sq]
    exact_mod_cast hle
  case below =>
    rw [Real.sqrt_lt' (by positivity), sq]
    exact_mod_cast hlt
  case exact =>
    rw [Real.sqrt_eq_iff_mul_self_eq (by positivity) (by positivity), eq_comm]
    norm_cast

/-- Finite values stay below 2^128. -/
theorem fValue_lt {p : Word} (h : isNaNorInf p = false) : fValue p < 2 ^ 128 := by
  have hlt := magValue_strictMono ((isNaNorInf_eq_false_iff p).1 h)
  have hinf : magValue 0x7F800000 = 2 ^ 128 := by norm_num [magValue]
  have hnonneg := magValue_nonneg (magnitude p)
  rw [hinf] at hlt
  rw [fValue_eq]
  split <;> linarith

theorem sqrtFinite_isNearestRoot {p : Word} (hfin : isNaNorInf p = false) (h0 : isZero p = false) (hn : fNeg p = false) :
    IsNearestRoot (fValue p) (sqrtFinite p) := by
  obtain ⟨odd, hodd⟩ : ∃ odd : Nat, odd = (fPow p % 2).toNat := ⟨_, rfl⟩
  have hodd2 : odd < 2 := by omega
  obtain ⟨e, he⟩ : ∃ e : Int, fPow p = e + e + (54 + odd : Nat) := ⟨(fPow p - (54 + odd : Nat)) / 2, by omega⟩
  have hpos := fMant_pos h0
  have hlt := fMant_lt p
  have hle : 1 ≤ 2 ^ odd := Nat.one_le_two_pow
  have hge : 2 ^ odd ≤ 2 ^ 1 := Nat.pow_le_pow_right (by decide) (by omega)
  have hval : fValue p = (fMant p * 2 ^ (54 + odd) : Nat) * (2 ^ e) ^ 2 := by
    rw [fValue, hn, he, zpow_add₀ two_ne_zero, zpow_add₀ two_ne_zero, zpow_natCast]
    push_cast
    simp
    ring
  have hroot : √(fValue p : ℝ) = 2 * √((fMant p * 2 ^ (54 + odd) : Nat) : ℝ) * 2 ^ (e - 1) := by
    rw [hval, Rat.cast_mul, Real.sqrt_mul' _ (by positivity), Rat.cast_pow, Real.sqrt_sq (by positivity), zpow_sub_one₀ two_ne_zero]
    push_cast
    ring
  have hexp : (fPow p - (54 + odd : Int)) / 2 - 1 = e - 1 := by omega
  have hmant : fMant p * 2 ^ (54 + odd) = fMant p * 2 ^ odd * 2 ^ 54 := by ring
  have hfrom := roundsFrom_root (n := fMant p * 2 ^ (54 + odd)) (by nlinarith) (by nlinarith)
  have h := roundFloat_isNearestRoot hfrom (fValue_nonneg hn) hroot (fValue_lt hfin)
  rw [sqrtFinite]
  rwa [← hodd, hexp]

/-- The pattern nearest to a root is no subnormal: its square would stay below the least positive value. -/
theorem IsNearestRoot.fExp_ne_zero {v : ℚ} {p : Word} (h : IsNearestRoot v p) (hv : magValue 1 ≤ v) : fExp p ≠ 0 := by
  intro h0
  obtain ⟨-, hneg, hnear⟩ := h
  obtain ⟨q, hqneg, hqmag⟩ : ∃ q : Word, fNeg q = false ∧ magnitude q = 27 * 2 ^ 23 := ⟨0x0D800000#32, by decide, by decide⟩
  have hqfin : isNaNorInf q = false := by rw [isNaNorInf_eq_false_iff, hqmag]; decide
  have hqval : fValue q = magValue (27 * 2 ^ 23) := by simp [fValue_eq, hqneg, hqmag]
  have hless : fValue p < fValue q := by
    rw [fExp_eq] at h0
    rw [hqval, fValue_eq, hneg]
    simpa using magValue_strictMono (by omega : magnitude p < 27 * 2 ^ 23)
  have hsmall : fValue q ^ 2 < magValue 1 := by
    rw [hqval]
    norm_num [magValue]
  have hle := ((hnear q hqfin hqneg).1 hless).1
  have hsq : ((fValue p + fValue q) / 2) ^ 2 ≤ fValue q ^ 2 :=
    pow_le_pow_left₀ (by linarith [fValue_nonneg hneg]) (by linarith) 2
  linarith

theorem magValue_one_le_fValue {p : Word} (h0 : isZero p = false) (hn : fNeg p = false) : magValue 1 ≤ fValue p := by
  rw [← Bool.not_eq_true, isZero_iff] at h0
  rw [fValue_eq, hn]
  simpa using magValue_strictMono.monotone (Nat.one_le_iff_ne_zero.2 h0)

/-! ### The statement -/

/-- An operation whose result is the nearest pattern to the exact value, with what else is known of that result, up to the flush. -/
theorem writeFloat_isNearest {fd : FReg} {r o : Option Word} {s : State} {ftz : Bool} {p : Word} {v : ℚ} (P : Word → Prop)
    (hr : r = o.map (flush ftz)) (ho : o = some p) (hp : IsNearest v p) (hP : P (flush ftz p)) :
    ∃ t, writeFloat fd r s = .next t ∧ OnlyF fd s t ∧ (∃ q, IsNearest v q ∧ t.f fd = flush ftz q) ∧ P (t.f fd) := by
  obtain ⟨t, hnext, honly, hval⟩ := writeFloat_ends fd r s
  rw [hr] at hval
  have hval := hval.eq_of_some ho
  exact ⟨t, hnext, honly, ⟨p, hp, hval⟩, hval ▸ hP⟩

/-- A zero sum is +0 unless both terms are negative. -/
theorem flush_addFinite_of_zero (ftz : Bool) {a b : Word} (h : fValue a + fValue b = 0) :
    flush ftz (addFinite a b) = signedZero (fNeg a && fNeg b) := by
  rw [addFinite_eq, if_pos h, flush_signedZero]

/-- Settles O26: on finite operands each operation rounds its exact result (`addFinite_isNearest`, `mulFinite_isNearest`,
`divFinite_isNearest`, `sqrtFinite_isNearestRoot`, `ofScaledInt_isNearest`). -/
theorem arithmeticCorrectlyRounded : Obligations.ArithmeticCorrectlyRounded := by
  unfold Obligations.ArithmeticCorrectlyRounded
  intro s ft fs fd fl a b hfl ha hb
  obtain rfl := eq_flush hfl
  subst ha hb
  refine ⟨fun hfa hfb => ⟨?add, ?sub, ?mul, fun hb0 => ?div, fun ha0 hna => ?sqrt⟩, ?cvt⟩
  case add =>
    exact writeFloat_isNearest (fun w => _ → w = _) rfl (fAddRaw_of_finite hfa hfb) (addFinite_isNearest _ _)
      fun h => flush_addFinite_of_zero _ h
  case sub =>
    have hnear := addFinite_isNearest (flush s.cfg.ftz (s.f fs)) (flush s.cfg.ftz (s.f ft) ^^^ signBit)
    rw [fValue_xor_signBit, ← sub_eq_add_neg] at hnear
    refine writeFloat_isNearest (fun w => _ → w = _) (fSub_eq _ _ _)
      (fAddRaw_of_finite hfa ((isNaNorInf_xor_signBit _).trans hfb)) hnear fun h => ?_
    rw [flush_addFinite_of_zero _ (by rwa [fValue_xor_signBit, ← sub_eq_add_neg]), fNeg_xor_signBit]
    rfl
  case mul =>
    refine writeFloat_isNearest (fun w => fNeg w = _) rfl (fMulRaw_of_finite hfa hfb) (mulFinite_isNearest _ _) ?_
    rw [fNeg_flush, fNeg_roundFloat]
  case div =>
    refine writeFloat_isNearest (fun w => fNeg w = _) rfl (fDivRaw_of_finite hfa hfb hb0) (divFinite_isNearest _ hb0) ?_
    rw [fNeg_flush, divFinite, fNeg_roundFloat]
  case sqrt =>
    obtain ⟨t, hnext, honly, hval⟩ := writeFloat_ends fd (fSqrt s.cfg.ftz (s.f fs)) s
    rw [fSqrt, withFlush1] at hval
    have hroot := sqrtFinite_isNearestRoot hfa ha0 hna
    refine ⟨t, hnext, honly, ?_⟩
    rwa [hval.eq_of_some (fSqrtRaw_of_positive hfa ha0 hna),
      flush_of_fExp_ne_zero _ (hroot.fExp_ne_zero (magValue_one_le_fValue ha0 hna))]
  case cvt =>
    obtain ⟨hval, honly⟩ := writesF_done fd (ofScaledInt (s.f fs).toInt 0) s
    refine ⟨_, rfl, honly, ?_⟩
    rw [hval]
    simpa using ofScaledInt_isNearest (s.f fs).toInt 0

end Sys2Proof.Machine
end

section
/-! PROOF. System instructions (44_system.md R402 to R407): `syscall` ends as its handler does, with the pc past the `syscall` and the poison
where the handler goes on (`exec_syscall_next`, and `exec_syscall_answered` where a command answers); the others raise their failure or
do nothing. -/

namespace Sys2Proof.Machine

open Sys2Proof

/-! ### The end of a `syscall` (R402, R404) -/

/-- The poisoned set, listed (R402). -/
theorem isPoisoned_iff (i : Nat) : isPoisoned i = true ↔ i ∈ [1, 4, 5, 6, 7, 8, 9, 10, 11, 12, 13, 14, 15, 24, 25] := by
  simp only [isPoisoned, Bool.or_eq_true, Bool.and_eq_true, beq_iff_eq, decide_eq_true_eq, List.mem_cons, List.not_mem_nil, or_false]
  omega

theorem State.poison_x_eq_ite (s : State) (r : GReg) :
    s.poison.x r = if r.toNat ∈ [1, 4, 5, 6, 7, 8, 9, 10, 11, 12, 13, 14, 15, 24, 25] then poisonWord else s.x r := by
  simp only [State.poison_x, isPoisoned_iff]

/-- Every general register after a command's answer (48_scheduler.md R651). -/
theorem Answered.x_eq_ite {v : Word} {s t : State} (h : Answered v s t) (r : GReg) : t.x r = if r = 2#5 then v else s.x r := by
  split
  next hr => rw [hr, h.result]
  next hr => exact h.gpr r hr

theorem dispatch_of_kernelNid {s : State} {nid : Word} {c : Command} (h : lookup s.cfg.kernelNid nid = some c) :
    dispatch nid s = some (runCommand c s.commandArgs s) := by
  rw [dispatch, h]

theorem dispatch_of_handled {s : State} {nid : Word} (h : lookup s.cfg.kernelNid nid = none) (hd : (Config.dispatch nid s).handled = true) :
    dispatch nid s = some (runActions (Config.dispatch nid s).actions s) := by
  rw [dispatch, h]
  exact if_pos hd

section
variable {s : State} {nid : Word} {r : Result} (mapped : lookup s.cfg.nidMap s.cpu.pc = some nid) (code : BitVec 20)
include mapped

theorem exec_syscall_of_dispatch (h : dispatch nid s = some r) : exec (.syscall code) s = afterHandler s r := by
  change execSyscall code s = _
  rw [execSyscall, mapped]
  dsimp only
  rw [h]

/-- A handler that goes on leaves its state with the poison, and with the pc past the `syscall`. -/
theorem exec_syscall_next {u : State} (h : dispatch nid s = some (.next u)) (hu : u.failure = none) :
    exec (.syscall code) s = .next (u.setPc (s.cpu.pc + 4#32)).poison := by
  rw [exec_syscall_of_dispatch mapped code h, afterHandler, hu]
  rfl

/-- A handler that fails leaves the live ProcessorState as it was (60_exceptions.md R704). -/
theorem exec_syscall_failed {u : State} (h : dispatch nid s = some (.next u)) (hu : u.failure.isSome = true) :
    exec (.syscall code) s = .next { u with cpu := s.cpu } := by
  rw [exec_syscall_of_dispatch mapped code h, afterHandler, if_pos hu]

/-- A `syscall` of a command that answers: its result survives in `x[2]`, which is not poisoned. -/
theorem exec_syscall_answered {c : Command} {v : Word} {sch : Scheduler} (running : s.failure = none)
    (hc : lookup s.cfg.kernelNid nid = some c)
    (h : ∃ u, runCommand c s.commandArgs s = .next u ∧ Answered v s u ∧ u.sched = sch) :
    ∃ t, exec (.syscall code) s = .next t ∧
      (∀ r : GReg, t.x r = if r.toNat ∈ [1, 4, 5, 6, 7, 8, 9, 10, 11, 12, 13, 14, 15, 24, 25] then 0xDEADBEEF#32
        else if r = 2#5 then v else s.x r) ∧ t.cpu.hi = 0xDEADBEEF#32 ∧ t.cpu.lo = 0xDEADBEEF#32 ∧
      t.sched = sch ∧ FprSame s t ∧ VprSame s t ∧ VcSame s t ∧
      FlagsSame s t ∧ TransferSame s t ∧ Advanced s t ∧ MemSame s t ∧ t.failure = s.failure ∧ t.refused = s.refused ∧ t.cfg = s.cfg := by
  obtain ⟨u, hu, ha, hs⟩ := h
  refine ⟨_, exec_syscall_next mapped code (hu ▸ dispatch_of_kernelNid hc) (ha.failure.trans running), fun r => ?gpr, rfl, rfl, hs,
    ha.fpr, ha.vpr, ha.vc, ⟨ha.flags.fcr31, ha.flags.fpcond, ha.flags.llBit⟩,
    ⟨ha.transfer.branchPC, ha.transfer.branching, ha.transfer.jumping⟩, rfl, MemSame.of_eq ha.mem ha.cfg, ha.failure, ha.refused, ha.cfg⟩
  case gpr => rw [State.poison_x_eq_ite, State.setPc_x, ha.x_eq_ite]

end

/-! ### The other system instructions (R405 to R407, 47_vfpu_matrix_misc.md R592 to R594) -/

theorem exec_syscall_unmapped {s : State} (h : lookup s.cfg.nidMap s.cpu.pc = none) (code : BitVec 20) :
    exec (.syscall code) s = raise .syscall 0#32 s := by
  change execSyscall code s = _
  rw [execSyscall, h]

/-- Settles O30: `break` and an unmapped `syscall` raise their failure (`raise_fatalOnly`), the others are `done` (`onlyPc_done`). -/
theorem systemInstructions : Obligations.SystemInstructions := by
  unfold Obligations.SystemInstructions
  intro s code rs op st imm
  refine ⟨fun hf => raise_fatalOnly .brk 0#32 s hf, fun hf hn => ?_, ⟨_, rfl, onlyPc_done s⟩, ⟨_, rfl, onlyPc_done s⟩,
    ⟨_, rfl, onlyPc_done s⟩, ⟨_, rfl, onlyPc_done s⟩, ⟨_, rfl, onlyPc_done s⟩⟩
  rw [exec_syscall_unmapped hn]
  exact raise_fatalOnly .syscall 0#32 s hf

end Sys2Proof.Machine
end

section
/-! PROOF. The commands of interrupt records, callbacks and alarms (48_scheduler.md R682 to R693): each answers after the change of one list
of records, whose lookups are those of the statement. -/

namespace Sys2Proof.Machine

open Sys2Proof

/-! ### Commands that answer after a change of the scheduler (R651) -/

/-- A command that answers `v` from a state `u` that differs from `s` in its scheduler and its draws only. -/
theorem answered_of_eq {r : Result} {v : Word} {s u : State} (e : r = answer v u) (hc : CoreSame s u) (hm : u.mem = s.mem) :
    ∃ t, r = .next t ∧ Answered v s t ∧ t.sched = u.sched :=
  e ▸ answer_answered v hc hm

/-- A command that answers `v` after changing the scheduler to `sch`. -/
theorem answered_of_sched {r : Result} {v : Word} {s : State} {sch : Scheduler} (e : r = answer v { s with sched := sch }) :
    ∃ t, r = .next t ∧ Answered v s t ∧ t.sched = sch :=
  answered_of_eq e ⟨rfl, rfl, rfl, rfl, rfl⟩ rfl

/-- A command that replaces the interrupt records by `l`, in which `find` looks them up. -/
theorem answered_intrHandlers {r : Result} {s : State} {l : List IntrHandler} {find : Word → Word → Option IntrHandler}
    (e : r = answerOk { s with sched := { s.sched with intrHandlers := l } })
    (hl : ∀ n m, l.find? (fun o => o.number == n && o.sub == m) = find n m) :
    ∃ t, r = .next t ∧ Answered s.cfg.err.ok s t ∧ { t.sched with intrHandlers := s.sched.intrHandlers } = s.sched ∧
      ∀ n m, t.intrHandler? n m = find n m := by
  obtain ⟨t, hr, ha, hs⟩ := answered_of_sched e
  exact ⟨t, hr, ha, by rw [hs], fun n m => by rw [State.intrHandler?, hs]; exact hl n m⟩

/-- A command that replaces the callback records by `l`, in which `find` looks them up. -/
theorem answered_callbacks {r : Result} {s : State} {l : List Callback} {find : Word → Option Callback}
    (e : r = answerOk { s with sched := { s.sched with callbacks := l } }) (hl : ∀ u, l.find? (fun o => o.uid == u) = find u) :
    ∃ t, r = .next t ∧ Answered s.cfg.err.ok s t ∧ { t.sched with callbacks := s.sched.callbacks } = s.sched ∧
      ∀ u, t.callback? u = find u := by
  obtain ⟨t, hr, ha, hs⟩ := answered_of_sched e
  exact ⟨t, hr, ha, by rw [hs], fun u => by rw [State.callback?, hs]; exact hl u⟩

/-! ### Interrupt records (R688 to R691) -/

/-- The interrupt records after one with a key of its own is added (R688). -/
theorem find?_otherIntrHandlers_append (new : IntrHandler) (n m : Word) (l : List IntrHandler) :
    (otherIntrHandlers new.number new.sub l ++ [new]).find? (fun o => o.number == n && o.sub == m) =
      if n = new.number ∧ m = new.sub then some new else l.find? fun o => o.number == n && o.sub == m := by
  rw [List.find?_append, find?_otherIntrHandlers]
  by_cases h : n = new.number ∧ m = new.sub
  · obtain ⟨rfl, rfl⟩ := h
    simp
  · have hnew : ¬ (new.number = n ∧ new.sub = m) := fun ⟨hn, hm⟩ => h ⟨hn.symm, hm.symm⟩
    simp [h, hnew]

/-- The interrupt records after the enable of one is set (R690, R691): its key is as before. -/
theorem find?_map_enabled (on : Bool) (num sub n m : Word) (l : List IntrHandler) :
    (l.map fun o => if o.number = num ∧ o.sub = sub then { o with enabled := on } else o).find? (fun o => o.number == n && o.sub == m) =
      if n = num ∧ m = sub then (l.find? fun o => o.number == num && o.sub == sub).map fun o => { o with enabled := on }
      else l.find? fun o => o.number == n && o.sub == m := by
  have keys : (fun o : IntrHandler => o.number == n && o.sub == m) ∘
      (fun o => if o.number = num ∧ o.sub = sub then { o with enabled := on } else o) = fun o => o.number == n && o.sub == m := by
    funext o
    dsimp only [Function.comp]
    split <;> rfl
  rw [List.find?_map, keys]
  cases hfind : l.find? fun o => o.number == n && o.sub == m with
  | none =>
    split
    next h => obtain ⟨rfl, rfl⟩ := h; rw [hfind]; rfl
    next => rfl
  | some o =>
    obtain ⟨rfl, rfl⟩ : o.number = n ∧ o.sub = m := by simpa using List.find?_some hfind
    split
    next h => rw [← h.1, ← h.2, hfind]; simp
    next h => simp [h]

theorem setSubIntr_unknown {s : State} {a : CommandArgs} (h : s.intrHandler? a.a0 a.a1 = none) (on : Bool) :
    setSubIntr on a s = answer s.cfg.err.unknownUid s := by rw [setSubIntr, h]

/-- Setting the enable of a known interrupt record (R690, R691). -/
theorem setSubIntr_known {s : State} {a : CommandArgs} {o : IntrHandler} (h : s.intrHandler? a.a0 a.a1 = some o) (on : Bool) :
    ∃ t, setSubIntr on a s = .next t ∧ Answered s.cfg.err.ok s t ∧ { t.sched with intrHandlers := s.sched.intrHandlers } = s.sched ∧
      ∀ n m, t.intrHandler? n m = if n = a.a0 ∧ m = a.a1 then some { o with enabled := on } else s.intrHandler? n m := by
  refine answered_intrHandlers (by rw [setSubIntr, h]) fun n m => ?_
  rw [find?_map_enabled, show s.sched.intrHandlers.find? (fun o => o.number == a.a0 && o.sub == a.a1) = some o from h]
  rfl

theorem cmdReleaseSubIntrHandler_unknown {s : State} {a : CommandArgs} (h : s.intrHandler? a.a0 a.a1 = none) :
    cmdReleaseSubIntrHandler a s = answer s.cfg.err.unknownUid s := by rw [cmdReleaseSubIntrHandler, h]

/-- Releasing a known interrupt record (R689). -/
theorem cmdReleaseSubIntrHandler_known {s : State} {a : CommandArgs} {o : IntrHandler} (h : s.intrHandler? a.a0 a.a1 = some o) :
    ∃ t, cmdReleaseSubIntrHandler a s = .next t ∧ Answered s.cfg.err.ok s t ∧
      { t.sched with intrHandlers := s.sched.intrHandlers } = s.sched ∧
      ∀ n m, t.intrHandler? n m = if n = a.a0 ∧ m = a.a1 then none else s.intrHandler? n m :=
  answered_intrHandlers (by rw [cmdReleaseSubIntrHandler, h]) fun n m => find?_otherIntrHandlers _ _ n m _

/-! ### Callbacks (R682 to R685) -/

theorem cmdDeleteCallback_unknown {s : State} {a : CommandArgs} (h : s.callback? a.a0 = none) :
    cmdDeleteCallback a s = answer s.cfg.err.unknownUid s := by rw [cmdDeleteCallback, h]

theorem cmdNotifyCallback_unknown {s : State} {a : CommandArgs} (h : s.callback? a.a0 = none) :
    cmdNotifyCallback a s = answer s.cfg.err.unknownUid s := by rw [cmdNotifyCallback, h]

/-- Deleting a known callback (R683). -/
theorem cmdDeleteCallback_known {s : State} {a : CommandArgs} {c : Callback} (h : s.callback? a.a0 = some c) :
    ∃ t, cmdDeleteCallback a s = .next t ∧ Answered s.cfg.err.ok s t ∧ { t.sched with callbacks := s.sched.callbacks } = s.sched ∧
      ∀ u, t.callback? u = if u = a.a0 then none else s.callback? u := by
  refine answered_callbacks (by rw [cmdDeleteCallback, h]) fun u => ?_
  rw [State.callback?_uid h]
  exact find?_filter_key Callback.uid a.a0 u s.sched.callbacks

/-- Notifying a known callback (R684). -/
theorem cmdNotifyCallback_known {s : State} {a : CommandArgs} {c : Callback} (h : s.callback? a.a0 = some c) :
    ∃ t, cmdNotifyCallback a s = .next t ∧ Answered s.cfg.err.ok s t ∧ { t.sched with callbacks := s.sched.callbacks } = s.sched ∧
      ∀ u, t.callback? u =
        if u = a.a0 then some { c with notifyCount := c.notifyCount + 1, notifyArg := a.a1 } else s.callback? u := by
  refine answered_callbacks (by rw [cmdNotifyCallback, h]; rfl) fun u => ?_
  have hfind := s.updateCallback_callback? a.a0 u
    (fun q => { q with notifyCount := q.notifyCount + 1, notifyArg := a.a1 }) fun _ => rfl
  rw [h] at hfind
  conv_lhs => rw [State.callback?_uid h]
  exact hfind

theorem withCaller_of_some {s : State} {c : PSPThread} (h : s.currentThread? = some c) (k : PSPThread → Result) : withCaller s k = k c := by
  rw [withCaller, h]

theorem withFreshUid_of_some {s : State} {u : Word} (h : s.freshUid = some u) (k : Word → State → Result) :
    withFreshUid s k = k u (s.issueUid u) := by rw [withFreshUid, h]

/-- Asking for the caller's callbacks (R685). -/
theorem cmdCheckCallback_caller {s : State} {c : PSPThread} (h : s.currentThread? = some c) (a : CommandArgs) :
    ∃ t, cmdCheckCallback a s = .next t ∧ Answered s.cfg.err.ok s t ∧ OnlyThread c.uid { c with callbackPending := true } s t := by
  let ask : PSPThread → PSPThread := fun th => { th with callbackPending := true }
  have e : cmdCheckCallback a s = answerOk (s.updateThread c.uid ask) := withCaller_of_some h _
  obtain ⟨t, hr, ha, hs⟩ := answered_of_sched e
  have hthread (v : Word) : t.thread? v = if v = c.uid then (s.thread? c.uid).map ask else s.thread? v := by
    rw [State.thread?, hs]
    exact s.updateThread_thread? c.uid v ask fun _ => rfl
  refine ⟨t, hr, ha, ?_, fun v hv => ?_, by rw [hs]⟩
  · rw [hthread, if_pos rfl, (State.currentThread?_thread? h).2]
    rfl
  · rw [hthread, if_neg hv]

theorem cmdCreateCallback_eq {s : State} {c : PSPThread} {u : Word} (h : s.currentThread? = some c) (hu : s.freshUid = some u)
    (a : CommandArgs) : cmdCreateCallback a s = answer u { (s.issueUid u).takeDraws 1 with
      sched := { (s.issueUid u).sched with callbacks := s.sched.callbacks ++
        [⟨u, callbackKindOf ((s.issueUid u).free 0), a.a1, a.a2, 0, 0#32, c.uid⟩] } } :=
  (withCaller_of_some h _).trans (withFreshUid_of_some hu _)

/-- Creating a callback (R682). -/
theorem cmdCreateCallback_caller {s : State} {c : PSPThread} (h : s.currentThread? = some c) (room : s.sched.uids.length < 2 ^ 31 - 1)
    (a : CommandArgs) : ∃ t u kind, cmdCreateCallback a s = .next t ∧ Answered u s t ∧ Issued u s t ∧
      { t.sched with callbacks := s.sched.callbacks, uids := s.sched.uids } = s.sched ∧
      t.sched.callbacks = s.sched.callbacks ++ [⟨u, kind, a.a1, a.a2, 0, 0#32, c.uid⟩] := by
  obtain ⟨u, hu, hfresh, hpos⟩ := State.freshUid_spec room
  obtain ⟨t, hr, ha, hs⟩ := answered_of_eq (s := s) (cmdCreateCallback_eq h hu a) ⟨rfl, rfl, rfl, rfl, rfl⟩ rfl
  exact ⟨t, u, _, hr, ha, ⟨hpos, hfresh, by rw [hs]; rfl⟩, by rw [hs]; rfl, by rw [hs]⟩

/-! ### Alarms (R686, R687) -/

/-- `cycles(us)` (R648). -/
theorem IsCycles.deadlineAfter_eq {s : State} {us : Word} {n : Nat} (h : IsCycles s.cfg us.toNat n) :
    s.deadlineAfter us = s.sched.now + s.cfg.cyclesPerInsn + n := by
  rw [h]
  rfl

theorem cmdSetAlarm_eq {s : State} {u : Word} (hu : s.freshUid = some u) (a : CommandArgs) :
    cmdSetAlarm a s = answer u { s.issueUid u with
      sched := { (s.issueUid u).sched with alarms := s.sched.alarms ++ [⟨u, a.a1, a.a2, s.deadlineAfter a.a0⟩] } } :=
  withFreshUid_of_some hu _

/-- Setting an alarm (R686). -/
theorem cmdSetAlarm_spec {s : State} {n : Nat} (room : s.sched.uids.length < 2 ^ 31 - 1) (a : CommandArgs)
    (hn : IsCycles s.cfg a.a0.toNat n) : ∃ t u, cmdSetAlarm a s = .next t ∧ Answered u s t ∧ Issued u s t ∧
      { t.sched with alarms := s.sched.alarms, uids := s.sched.uids } = s.sched ∧
      t.sched.alarms = s.sched.alarms ++ [⟨u, a.a1, a.a2, s.sched.now + s.cfg.cyclesPerInsn + n⟩] := by
  obtain ⟨u, hu, hfresh, hpos⟩ := State.freshUid_spec room
  obtain ⟨t, hr, ha, hs⟩ := answered_of_eq (s := s) (cmdSetAlarm_eq hu a) ⟨rfl, rfl, rfl, rfl, rfl⟩ rfl
  exact ⟨t, u, hr, ha, ⟨hpos, hfresh, by rw [hs]; rfl⟩, by rw [hs]; rfl, by rw [hs, ← hn.deadlineAfter_eq]⟩

theorem cmdCancelAlarm_unknown {s : State} {a : CommandArgs} (h : ∀ o, o ∈ s.sched.alarms → o.uid ≠ a.a0) :
    cmdCancelAlarm a s = answer s.cfg.err.unknownUid s := if_neg (by simpa using h)

theorem cmdCancelAlarm_known {s : State} {a : CommandArgs} (h : ∃ o, o ∈ s.sched.alarms ∧ o.uid = a.a0) :
    cmdCancelAlarm a s = answerOk { s with sched := { s.sched with alarms := s.sched.alarms.filter fun o => o.uid ≠ a.a0 } } := by
  rw [cmdCancelAlarm, if_pos (by simpa using h)]
  simp only [bne_eq_decide_ne]

/-! ### The statement -/

/-- Settles O29: a `syscall` ends as its handler does (`exec_syscall_next`, `exec_syscall_failed`, `exec_syscall_answered`), and each
command of the interrupt records, callbacks and alarms answers after its change of one record. -/
theorem syscallRunsCommand : Obligations.SyscallRunsCommand := by
  unfold Obligations.SyscallRunsCommand
  refine ⟨?handler, ?interrupts, ?records⟩
  case handler =>
    intro s code nid r _ mapped hcommand hexternal
    have hd : dispatch nid s = some r := by
      cases hk : lookup s.cfg.kernelNid nid with
      | some c => rw [hcommand c hk]; exact dispatch_of_kernelNid hk
      | none =>
        obtain ⟨handled, rfl⟩ := hexternal hk
        exact dispatch_of_handled hk handled
    refine ⟨fun u hu hf => ?_, fun u hu hf => exec_syscall_failed mapped code (hu ▸ hd) hf, fun e he => ?_⟩
    · exact ⟨_, exec_syscall_next mapped code (hu ▸ hd) hf, fun g => State.poison_x_eq_ite _ g, rfl, rfl, rfl, fun _ => rfl,
        fun _ => rfl, fun _ => rfl, ⟨rfl, rfl, rfl⟩, ⟨rfl, rfl, rfl⟩, rfl, rfl, hf, rfl, rfl⟩
    · rw [exec_syscall_of_dispatch mapped code hd, he]
      rfl
  case interrupts =>
    intro s code nid running mapped
    refine ⟨fun hk => ?suspend, fun hk => ?resume, fun c hk hc => ?threadId⟩
    case suspend => exact exec_syscall_answered mapped code running hk (answered_of_sched rfl)
    case resume =>
      rw [← bne_eq_decide_ne]
      exact exec_syscall_answered mapped code running hk (answered_of_sched rfl)
    case threadId => exact exec_syscall_answered mapped code running hk (answered_of_sched (withCaller_of_some hc _))
  case records =>
    intro s a
    have unchanged {r : Result} {v : Word} (e : r = answer v s) : ∃ t, r = .next t ∧ Answered v s t ∧ t.sched = s.sched :=
      answered_of_sched e
    refine ⟨?register, fun h k hk => ?unknownIntr, fun o h => ⟨?release, fun k on hk => ?enable⟩, fun h k hk => ?unknownCallback,
      fun c h => ⟨cmdDeleteCallback_known h, cmdNotifyCallback_known h⟩,
      fun c h => ⟨cmdCheckCallback_caller h a, fun room => cmdCreateCallback_caller h room a⟩,
      fun room n hn => cmdSetAlarm_spec room a hn, fun h => unchanged (cmdCancelAlarm_unknown h),
      fun h => answered_of_sched (cmdCancelAlarm_known h)⟩
    case register => exact answered_intrHandlers rfl fun n m => find?_otherIntrHandlers_append ⟨a.a0, a.a1, a.a2, a.a3, false⟩ n m _
    case unknownIntr =>
      simp only [List.mem_cons, List.not_mem_nil, or_false] at hk
      obtain rfl | rfl | rfl := hk
      · exact unchanged (cmdReleaseSubIntrHandler_unknown h)
      · exact unchanged (setSubIntr_unknown h true)
      · exact unchanged (setSubIntr_unknown h false)
    case release => exact cmdReleaseSubIntrHandler_known h
    case enable =>
      obtain ⟨rfl, rfl⟩ | ⟨rfl, rfl⟩ := hk
      · exact setSubIntr_known h true
      · exact setSubIntr_known h false
    case unknownCallback =>
      simp only [List.mem_cons, List.not_mem_nil, or_false] at hk
      obtain rfl | rfl := hk
      · exact unchanged (cmdDeleteCallback_unknown h)
      · exact unchanged (cmdNotifyCallback_unknown h)

end Sys2Proof.Machine
end

section
/-! PROOF. The instructions that set prefixes, and the transfers of the VFPU control registers (45_vfpu_engine.md R442 to R446, R451 to
R454): each is one write of a control register, a slot or a general register, or of nothing where the number is 16 or more. -/

namespace Sys2Proof.Machine

open Sys2Proof

theorem OnlyPc.onlyVc {s t : State} (h : OnlyPc s t) : OnlyVc s t :=
  ⟨h.pc, h.gpr, h.fpr, h.vpr, h.hiLo, h.flags, h.transfer, h.mem, h.rest⟩

theorem cregOf_of_lt {c : BitVec 7} (h : c.toNat < 16) : cregOf c = some ⟨c.toNat, h⟩ := dif_pos h

theorem cregOf_of_ge {c : BitVec 7} (h : 16 ≤ c.toNat) : cregOf c = none := dif_neg (by omega)

/-- A write of a VFPU control register without a mask. -/
theorem done_setVc_spec (k : CReg) (v : Word) (s : State) :
    ∃ t, done (s.setVc k v) = .next t ∧ OnlyVc s t ∧ ∀ j, t.vc j = if j = k then v else s.vc j :=
  ⟨_, rfl, onlyVc_done k v s, fun j => by rw [State.advance_vc, State.setVc_vc]⟩

/-- A write of a slot. -/
theorem done_setVr_spec (k : VReg) (v : Word) (s : State) :
    ∃ t, done (s.setVr k v) = .next t ∧ OnlyVpr s t ∧ ∀ j, t.vr j = if j = k then v else s.vr j :=
  ⟨_, rfl, onlyVpr_done k v s, fun j => by rw [State.advance_vr, State.setVr_vr]⟩

/-- What a VFPU control register holding `old` holds after a software write of `v` (10_state.md R41). -/
def maskedWrite (k : CReg) (old v : Word) : Word :=
  match vcMask k with
  | some m => v &&& m
  | none => old

theorem State.writeVc_eq_setVc (s : State) (k : CReg) (v : Word) : s.writeVc k v = s.setVc k (maskedWrite k (s.vc k) v) := by
  cases h : vcMask k with
  | some m => rw [State.writeVc, maskedWrite, h]
  | none =>
    rw [State.writeVc, maskedWrite, h]
    simp only [State.setVc, State.vc, Vector.set_getElem_self]

/-- A software write of a VFPU control register: under its mask, none of a read-only register. -/
theorem done_writeVc_spec (k : CReg) (v : Word) (s : State) :
    ∃ t, done (s.writeVc k v) = .next t ∧ OnlyVc s t ∧ ∀ j, t.vc j = if j = k then maskedWrite j (s.vc j) v else s.vc j := by
  obtain ⟨t, ht, hf, hvc⟩ := done_setVc_spec k (maskedWrite k (s.vc k) v) s
  refine ⟨t, s.writeVc_eq_setVc k v ▸ ht, hf, fun j => (hvc j).trans ?_⟩
  exact if_ctx_congr Iff.rfl (fun e => by rw [e]) fun _ => rfl

/-- A software write of the control register that a number names, none for a number of 16 or more (R452, R454). -/
theorem controlWrite_spec {c : BitVec 7} {v : Word} {s : State} {r : Result}
    (named : ∀ k, cregOf c = some k → r = done (s.writeVc k v)) (unnamed : cregOf c = none → r = done s) :
    ∃ t, r = .next t ∧ OnlyVc s t ∧
      ∀ k : CReg, t.vc k = if k.val = c.toNat then maskedWrite k (s.vc k) v else s.vc k := by
  by_cases h : c.toNat < 16
  · obtain ⟨t, ht, hf, hvc⟩ := done_writeVc_spec ⟨c.toNat, h⟩ v s
    exact ⟨t, (named _ (cregOf_of_lt h)).trans ht, hf, fun k => by simpa only [Fin.ext_iff] using hvc k⟩
  · refine ⟨s.advance, unnamed (cregOf_of_ge (by omega)), (onlyPc_done s).onlyVc, fun k => ?_⟩
    rw [State.advance_vc, if_neg (by omega)]

theorem execMfvc_of_creg {c : BitVec 7} {k : CReg} (h : cregOf c = some k) (rt : GReg) (s : State) :
    execMfvc rt c s = done (s.setX rt (s.vc k)) := by
  rw [execMfvc, h]

theorem execMfvc_of_none {c : BitVec 7} (h : cregOf c = none) (rt : GReg) (s : State) : execMfvc rt c s = done s := by
  rw [execMfvc, h]

theorem execMtvc_spec (rt : GReg) (c : BitVec 7) (s : State) :
    ∃ t, execMtvc rt c s = .next t ∧ OnlyVc s t ∧
      ∀ k : CReg, t.vc k = if k.val = c.toNat then maskedWrite k (s.vc k) (s.x rt) else s.vc k :=
  controlWrite_spec (fun k h => by rw [execMtvc, h]) fun h => by rw [execMtvc, h]

theorem execVmtvc_spec (vs : VReg) (c : BitVec 7) (s : State) :
    ∃ t, execVmtvc vs c s = .next t ∧ OnlyVc s t ∧
      ∀ k : CReg, t.vc k = if k.val = c.toNat then maskedWrite k (s.vc k) (s.vr vs) else s.vc k :=
  controlWrite_spec (fun k h => by rw [execVmtvc, h]) fun h => by rw [execVmtvc, h]

theorem execVmfvc_eq (vd : VReg) (c : BitVec 7) (s : State) :
    execVmfvc vd c s = done (s.setVr vd (if h : c.toNat < 16 then s.vc ⟨c.toNat, h⟩ else 0#32)) := by
  by_cases h : c.toNat < 16
  · rw [execVmfvc, cregOf_of_lt h, dif_pos h]
  · rw [execVmfvc, cregOf_of_ge (by omega), dif_neg h]

/-- The write masks by the number of the register (10_state.md R41). -/
theorem vcMask_eq (k : CReg) : vcMask k = if k.val ≤ 1 then some 0x000FFFFF#32 else if k.val = 2 then some 0x00000FFF#32
    else if k.val = 3 then some 0x0000003F#32 else if k.val = 4 then some 0xFFFFFFFF#32 else if k.val ≤ 7 then none
    else some 0x3FFFFFFF#32 := by
  revert k
  decide

/-- Settles O31: each instruction is one write (`done_setVc_spec`, `done_setVr_spec`, `writesX_done`); a control register is written under
its mask (`controlWrite_spec`). -/
theorem prefixSettingTransfers : Obligations.PrefixSettingTransfers := by
  unfold Obligations.PrefixSettingTransfers
  intro s rt d20 d12 idx vd vs c
  refine ⟨done_setVc_spec 0 _ s, done_setVc_spec 1 _ s, done_setVc_spec 2 _ s, ⟨_, rfl, writesX_done rt _ s⟩, done_setVr_spec _ _ s,
    fun h => ⟨_, execMfvc_of_creg (cregOf_of_lt h) rt s, writesX_done rt _ s⟩,
    fun h => ⟨_, execMfvc_of_none (cregOf_of_ge h) rt s, onlyPc_done s⟩, fun m hm => ?masked, ?slot⟩
  case masked =>
    obtain rfl : m = vcMask := funext fun k => (hm k).trans (vcMask_eq k).symm
    exact ⟨execMtvc_spec rt c s, execVmtvc_spec vs c s⟩
  case slot =>
    obtain ⟨t, ht, hf, hvr⟩ := done_setVr_spec vd (if h : c.toNat < 16 then s.vc ⟨c.toNat, h⟩ else 0#32) s
    exact ⟨t, (execVmfvc_eq vd c s).trans ht, hf, hvr⟩

end Sys2Proof.Machine
end

section
/-! PROOF. The prefixes (45_vfpu_engine.md R431 to R435, R439, R441): the fields of a lane in the S, T and D prefixes, the entry of an
instruction, and what each makes of an operand's or a result's lane. -/

namespace Sys2Proof.Machine

open Sys2Proof

/-! ### The fields of a lane -/

/-- The two bits of lane `i`: the swizzle in the S and T prefixes, the saturation mode in the D prefixes. -/
theorem laneField_toNat (P : Word) (i : Nat) : (P.extractLsb' (2 * i) 2).toNat = P.toNat / 4 ^ i % 4 := by
  rw [BitVec.extractLsb'_toNat, Nat.shiftRight_eq_div_pow, pow_mul]
  norm_num

theorem laneField_eq_of_toNat {P : Word} {i m : Nat} (h : P.toNat / 4 ^ i % 4 = m) : P.extractLsb' (2 * i) 2 = BitVec.ofNat 2 m := by
  rw [← h, ← laneField_toNat, BitVec.ofNat_toNat, BitVec.setWidth_eq]

theorem extractLsb'_one_eq_ofBool (P : Word) (i : Nat) : P.extractLsb' i 1 = BitVec.ofBool (P.getLsbD i) := by
  simp [BitVec.eq_of_getLsbD_eq_iff]

/-- The constants of R432, in order. -/
def prefixConstants : List Word := [0x00000000#32, 0x3F800000#32, 0x40000000#32, 0x3F000000#32, 0x40400000#32, 0x3EAAAAAB#32,
  0x3E800000#32, 0x3E2AAAAB#32]

/-- The abs bit and the swizzle of a lane make the number of its constant. -/
theorem prefixConst_eq_getD (abs : Bool) (swz : BitVec 2) :
    prefixConst (BitVec.ofBool abs ++ swz) = prefixConstants.getD (swz.toNat + if abs then 4 else 0) 0#32 := by
  revert abs swz
  decide

/-! ### A lane under the prefixes (R431, R435) -/

/-- A lane under the S and T prefixes, its fields given arithmetically. -/
theorem prefixLane_eq (P : Word) (orig : Lanes) (i : Nat) :
    prefixLane P orig i =
      let sel := P.toNat / 4 ^ i % 4
      let abs := P.getLsbD (8 + i)
      let r := if P.getLsbD (12 + i) then prefixConstants.getD (sel + if abs then 4 else 0) 0#32
        else if abs then orig sel &&& 0x7FFFFFFF#32 else orig sel
      if P.getLsbD (16 + i) then r ^^^ signBit else r := by
  simp only [prefixLane, extractLsb'_one_eq_ofBool, prefixConst_eq_getD, laneField_toNat]
  cases P.getLsbD (8 + i) <;> rfl

section
variable {s : State} {D : Word} {i : Nat}

theorem State.saturate_mode0 (h : D.toNat / 4 ^ i % 4 = 0) (v : Word) : s.saturate D i v = v :=
  if_pos (laneField_eq_of_toNat h)

theorem State.saturate_mode1 (h : D.toNat / 4 ^ i % 4 = 1) (v : Word) : s.saturate D i v = fClamp 0#32 oneWord v := by
  simp [State.saturate, laneField_eq_of_toNat h]

theorem State.saturate_mode2_passthrough (h : D.toNat / 4 ^ i % 4 = 2) (hp : s.cfg.sat2Policy = .passthrough) (v : Word) :
    s.saturate D i v = v := by
  simp [State.saturate, laneField_eq_of_toNat h, hp]

theorem State.saturate_mode3 (h : D.toNat / 4 ^ i % 4 = 3) (v : Word) : s.saturate D i v = fClamp minusOneWord oneWord v := by
  simp [State.saturate, laneField_eq_of_toNat h]

end

/-! ### The entry of an instruction (R439, R441) -/

/-- The rows of R441. -/
def overrideRows : List (VfpuOp × List Size × PrefixOverride) := [
  (.vocp, [.single, .pair, .triple, .quad], ⟨0x000F0000#32, 0x000F0000#32, 0x000000FF#32, 0x0000F055#32, 0#32, 0#32⟩),
  (.vcrs, [.triple], ⟨0x0000003F#32, 0x00000009#32, 0x0000003F#32, 0x00000012#32, 0#32, 0#32⟩),
  (.vsocp, [.single, .pair], ⟨0x000F00FF#32, 0x00050050#32, 0x000000FF#32, 0x0000F011#32, 0x000000FF#32, 0x00000055#32⟩),
  (.vbfy1, [.pair, .quad], ⟨0#32, 0x000A0000#32, 0x0000F0FF#32, 0x000000B1#32, 0#32, 0#32⟩),
  (.vbfy2, [.quad], ⟨0#32, 0x000C0000#32, 0x0000F0FF#32, 0x0000004E#32, 0#32, 0#32⟩),
  (.vhdp, [.pair], ⟨0x0000000C#32, 0x00002004#32, 0#32, 0#32, 0#32, 0#32⟩),
  (.vhdp, [.triple], ⟨0x00000030#32, 0x00004010#32, 0#32, 0#32, 0#32, 0#32⟩),
  (.vhdp, [.quad], ⟨0x000000C0#32, 0x00008040#32, 0#32, 0#32, 0#32, 0#32⟩),
  (.vfad, [.single, .pair, .triple, .quad], ⟨0#32, 0#32, 0x000000FF#32, 0x0000F055#32, 0#32, 0#32⟩),
  (.vavg, [.single], ⟨0#32, 0#32, 0x000000FF#32, 0x0000F055#32, 0#32, 0#32⟩),
  (.vavg, [.pair], ⟨0#32, 0#32, 0x000000FF#32, 0x0000F0FF#32, 0#32, 0#32⟩),
  (.vavg, [.triple], ⟨0#32, 0#32, 0x000000FF#32, 0x0000FF55#32, 0#32, 0#32⟩),
  (.vavg, [.quad], ⟨0#32, 0#32, 0x000000FF#32, 0x0000FFAA#32, 0#32, 0#32⟩)]

theorem defaultOverride_of_mem_overrideRows {op : VfpuOp} {sizes : List Size} {sz : Size} {e : PrefixOverride}
    (h : (op, sizes, e) ∈ overrideRows) (hs : sz ∈ sizes) : defaultOverride op sz = e := by
  have rows : ∀ row ∈ overrideRows, ∀ sz ∈ row.2.1, defaultOverride row.1 sz = row.2.2 := by decide
  exact rows _ h sz hs

theorem defaultOverride_of_no_row {op : VfpuOp} (h : ∀ row, row ∈ overrideRows → row.1 ≠ op) (sz : Size) :
    defaultOverride op sz = PrefixOverride.none := by
  simp only [overrideRows, List.forall_mem_cons, ne_eq] at h
  obtain ⟨vocp, vcrs, vsocp, vbfy1, vbfy2, vhdp, -, -, vfad, vavg, -⟩ := h
  cases op with
  | vocp | vcrs | vsocp | vbfy1 | vbfy2 | vhdp | vfad | vavg => contradiction
  | _ => rfl

theorem prefixOverride_of_find? {p : Params} {op : VfpuOp} {sz : Size} {e : (VfpuOp × Size) × PrefixOverride}
    (h : p.prefixOverrides.find? (fun e => e.1 == (op, sz)) = some e) : prefixOverride p op sz = e.2 := by
  rw [prefixOverride, h]

theorem State.FollowsTable.prefixOverride_eq {s : State} {op : VfpuOp} {sz : Size} (h : s.FollowsTable op sz) :
    prefixOverride s.cfg op sz = defaultOverride op sz := by
  rw [prefixOverride, h]

theorem swizzlePolicy_of_find? {p : Params} {op : VfpuOp} {e : VfpuOp × SwizzlePolicy}
    (h : p.invalidSwizzle.find? (fun e => e.1 == op) = some e) : swizzlePolicy p op = e.2 := by
  rw [swizzlePolicy, h]

theorem swizzlePolicy_of_none {p : Params} {op : VfpuOp} (h : p.invalidSwizzle.find? (fun e => e.1 == op) = none) :
    swizzlePolicy p op = .zero := by
  rw [swizzlePolicy, h]

/-! ### The lanes of an invalid swizzle (R434) -/

section
variable {s : State} {op : VfpuOp}

theorem State.invalidLane_zero {dst : Dest} {base : Nat} (h : swizzlePolicy s.cfg op = .zero) (k : Nat) :
    s.invalidLane op dst base k = 0#32 := by
  simp only [State.invalidLane, h]

theorem State.invalidLane_priorDest {sz : Size} {vd : VReg} {base : Nat} (h : swizzlePolicy s.cfg op = .priorDest) (k : Nat) :
    s.invalidLane op (some (sz, vd)) base k = if k < sz.lanes then s.vr (vectorSlot sz vd k) else 0#32 := by
  simp only [State.invalidLane, h]

end

/-- Settles O32: the entry and the policy are those that the parameters or the table give (`prefixOverride_of_find?`,
`defaultOverride_of_mem_overrideRows`), and each lane is that of its fields (`prefixLane_eq`, `State.saturate_mode0` to
`State.saturate_mode3`). -/
theorem prefixRules : Obligations.PrefixRules := by
  unfold Obligations.PrefixRules
  intro s op sz z vd vs vt P n i v inv d consts table entry policy _ hconsts htable found unlisted listed zero
  have hentry : entry = prefixOverride s.cfg op sz := by
    cases h : s.cfg.prefixOverrides.find? (fun e => e.1 == (op, sz)) with
    | some e => rw [found e h, prefixOverride_of_find? h]
    | none =>
      rw [State.FollowsTable.prefixOverride_eq h]
      subst htable
      obtain ⟨sizes, hrow, hsz⟩ | ⟨hno, rfl⟩ := unlisted h
      · exact (defaultOverride_of_mem_overrideRows hrow hsz).symm
      · exact (defaultOverride_of_no_row hno sz).symm
  have hpolicy : policy = swizzlePolicy s.cfg op := by
    cases h : s.cfg.invalidSwizzle.find? (fun e => e.1 == op) with
    | some e => rw [listed e h, swizzlePolicy_of_find? h]
    | none => rw [zero h, swizzlePolicy_of_none h]
  subst hentry hpolicy hconsts
  refine ⟨⟨rfl, rfl, rfl⟩,
    ⟨s.invalidLane op _ sDraws, State.invalidLane_zero, State.invalidLane_priorDest, rfl, fun e => by rw [e]; rfl⟩,
    ⟨s.invalidLane op _ tDraws, State.invalidLane_zero, State.invalidLane_priorDest, rfl, fun e => by rw [e]; rfl⟩, ?lane,
    fun h => State.saturate_mode0 h _, fun h => State.saturate_mode1 h _, fun h hp => State.saturate_mode2_passthrough h hp _,
    fun h => State.saturate_mode3 h _⟩
  case lane =>
    rw [applyST]
    split
    · rfl
    · exact prefixLane_eq P _ i

end Sys2Proof.Machine
end

section
/-! PROOF. VFPU reductions (45_vfpu_engine.md R456; 46_vfpu_vector.md R475, R477, 47_vfpu_matrix_misc.md R567, R568): each is `VFPU_DOT` of
the prefixed lanes (`vectorDot_spec`). Under identity prefixes the entry of R441 forces lanes to constants (R439, `ForcesConstant`). -/

namespace Sys2Proof.Machine

open Sys2Proof

/-- A reduction writes `VFPU_DOT` of the prefixed lanes to its one slot. -/
theorem vectorDot_spec (op : VfpuOp) (sz : Size) (vd vs vt : VReg) (s : State) :
    ∃ t, vectorDot op sz vd vs vt s = .next t ∧ VectorDone .single vd (s.applyD op sz fun _ => Config.vfpuDot
      ((List.range sz.lanes).map (s.sOperand op sz (some (sz, vd)) vs))
      ((List.range sz.lanes).map (s.tOperand op sz (some (sz, vd)) vt))) s t :=
  vectorEnd_spec op sz .single vd _ s

/-! ### Forced lanes (R439, R441) -/

/-- Among the S and T prefixes, `P` makes of lane `i` the constant `c`. -/
def ForcesConstant (P : Word) (i : Nat) (c : Word) : Prop :=
  P ≠ passThrough ∧ P.getLsbD (12 + i) = true ∧ P.getLsbD (16 + i) = false ∧
    prefixConst (P.extractLsb' (8 + i) 1 ++ P.extractLsb' (2 * i) 2) = c

/-- Among the S and T prefixes, `P` leaves lane `i` as it is. -/
def KeepsLane (P : Word) (i : Nat) : Prop :=
  P.getLsbD (12 + i) = false ∧ P.getLsbD (16 + i) = false ∧ P.extractLsb' (8 + i) 1 = 0#1 ∧ (P.extractLsb' (2 * i) 2).toNat = i

theorem ForcesConstant.applyST_eq {P c : Word} {i : Nat} (h : ForcesConstant P i c) (n : Nat) (v inv : Lanes) :
    applyST P n v inv i = c := by
  obtain ⟨hP, hconst, hneg, hc⟩ := h
  simp only [applyST, if_neg hP, prefixLane, hconst, hneg, hc, if_true, Bool.false_eq_true, if_false]

theorem KeepsLane.applyST_eq {P : Word} {n i : Nat} (h : KeepsLane P i) (hi : i < n) (v inv : Lanes) : applyST P n v inv i = v i := by
  obtain ⟨hconst, hneg, habs, hswz⟩ := h
  rw [applyST]
  split
  · rfl
  · simp [prefixLane, hconst, hneg, habs, hswz, hi]

/-- `effS(op)` under identity prefixes, by the entry of R441. -/
def identityEffS (op : VfpuOp) (sz : Size) : Word :=
  effective passThrough (defaultOverride op sz).sRemove (defaultOverride op sz).sAdd

/-- `effT(op)` under identity prefixes, by the entry of R441. -/
def identityEffT (op : VfpuOp) (sz : Size) : Word :=
  effective passThrough (defaultOverride op sz).tRemove (defaultOverride op sz).tAdd

section
variable {s : State} {op : VfpuOp} {sz : Size} (hid : s.prefixesIdentity = true) (hf : s.FollowsTable op sz)
include hid hf

theorem State.sOperand_of_identity (dst : Dest) (vs : VReg) :
    s.sOperand op sz dst vs = applyST (identityEffS op sz) sz.lanes (s.readVector sz vs) (s.invalidLane op dst sDraws) := by
  simp only [State.prefixesIdentity, Bool.and_eq_true, beq_iff_eq] at hid
  obtain ⟨⟨spfx, -⟩, -⟩ := hid
  rw [State.sOperand, State.sOperandAt, State.effS, spfx, hf.prefixOverride_eq, identityEffS]

theorem State.tOperand_of_identity (dst : Dest) (vt : VReg) :
    s.tOperand op sz dst vt = applyST (identityEffT op sz) sz.lanes (s.readVector sz vt) (s.invalidLane op dst tDraws) := by
  simp only [State.prefixesIdentity, Bool.and_eq_true, beq_iff_eq] at hid
  obtain ⟨⟨-, tpfx⟩, -⟩ := hid
  rw [State.tOperand, State.tOperandAt, State.effT, tpfx, hf.prefixOverride_eq, identityEffT]

end

/-- The T entry of `vfad` is 1.0 in every lane. -/
theorem vfad_forcesOne (sz : Size) : ∀ i, i < sz.lanes → ForcesConstant (identityEffT .vfad sz) i 0x3F800000#32 := by
  unfold ForcesConstant
  cases sz <;> decide

/-- `1/n` (R568). -/
def reciprocalOfLanes (sz : Size) : Word :=
  match sz with
  | .single => 0x3F800000#32 | .pair => 0x3F000000#32 | .triple => 0x3EAAAAAB#32 | .quad => 0x3E800000#32

/-- The T entry of `vavg` is `1/n` in every lane. -/
theorem vavg_forcesReciprocal (sz : Size) : ∀ i, i < sz.lanes → ForcesConstant (identityEffT .vavg sz) i (reciprocalOfLanes sz) := by
  unfold ForcesConstant
  cases sz <;> decide

/-- The S entry of `vhdp` is 1.0 in the last lane and keeps the others. -/
theorem vhdp_forcesLastOne {sz : Size} (hsz : sz ≠ .single) : ∀ i, i < sz.lanes →
    if i + 1 = sz.lanes then ForcesConstant (identityEffS .vhdp sz) i 0x3F800000#32
    else KeepsLane (identityEffS .vhdp sz) i := by
  unfold ForcesConstant KeepsLane
  revert hsz
  cases sz <;> decide

/-- Settles O34: each instruction is a reduction (`vectorDot_spec`) whose entry forces the constants of its rule (`vfad_forcesOne`,
`vavg_forcesReciprocal`, `vhdp_forcesLastOne`). -/
theorem vectorDots : Obligations.VectorDots := by
  unfold Obligations.VectorDots
  intro s vd vs vt sz
  refine ⟨vectorDot_spec .vdot sz vd vs vt s, fun hsz => ?vhdp, vectorDot_spec .vfad sz vd vs vs s, vectorDot_spec .vavg sz vd vs vs s,
    fun hid i hi => ⟨fun hf => ?one, fun hf => ?reciprocal, fun hf hsz => ?lastOne⟩⟩
  case vhdp =>
    obtain ⟨t, ht, hd⟩ := vectorDot_spec .vhdp sz vd vs vt s
    exact ⟨t, (sized_true _ (bne_iff_ne.2 hsz)).trans ht, hd⟩
  case one => rw [State.tOperand_of_identity hid hf, (vfad_forcesOne sz i hi).applyST_eq]
  case reciprocal =>
    rw [State.tOperand_of_identity hid hf]
    exact (vavg_forcesReciprocal sz i hi).applyST_eq _ _ _
  case lastOne =>
    rw [State.sOperand_of_identity hid hf]
    have h := vhdp_forcesLastOne hsz i hi
    split at h
    next hlast => rw [if_pos hlast, h.applyST_eq]
    next hlast => rw [if_neg hlast, h.applyST_eq hi, State.readVector]

end Sys2Proof.Machine
end

section
/-! PROOF. The refusals of the VFPU (45_vfpu_engine.md R430, R461, R462): a sized instruction is guarded by the sizes of its rule (`sized`),
a matrix instruction by the prefixes and then by Single (`matrixOp`). -/

namespace Sys2Proof.Machine

open Sys2Proof

/-! ### Sizes that a rule lists (R430) -/

theorem ne_single_eq_listed (sz : Size) : (sz != .single) = decide (sz ∈ ([.pair, .triple, .quad] : List Size)) := by
  cases sz <;> rfl

theorem isEvenSize_eq_listed (sz : Size) : isEvenSize sz = decide (sz ∈ ([.pair, .quad] : List Size)) := by
  cases sz <;> rfl

theorem isUpToPair_eq_listed (sz : Size) : isUpToPair sz = decide (sz ∈ ([.single, .pair] : List Size)) := by
  cases sz <;> rfl

theorem eq_listed (sz k : Size) : (sz == k) = decide (sz ∈ ([k] : List Size)) := by
  simp [beq_eq_decide]

/-- A size that the rule does not list is refused. -/
theorem sized_refused_of_unlisted {ok : Bool} {sz : Size} {l : List Size} (hok : ok = decide (sz ∈ l)) (h : sz ∉ l) (r : Result) :
    sized ok r = .refused .vfpuBadSize :=
  sized_false r (hok.trans (decide_eq_false h))

/-! ### Matrix instructions (R461) -/

theorem matrixOp_of_prefix {s : State} (h : s.prefixesIdentity = false) (sz : Size) (r : Result) :
    matrixOp sz s r = .refused .prefixOnMatrixOp := by
  rw [matrixOp, h]
  rfl

theorem matrixOp_single {s : State} (h : s.prefixesIdentity = true) (r : Result) : matrixOp .single s r = .refused .vfpuBadSize := by
  rw [matrixOp, h]
  rfl

/-- Settles O47: the guard of each instruction is `sized` with the sizes of its rule (`sized_refused_of_unlisted`), or `matrixOp`
(`matrixOp_single`, `matrixOp_of_prefix`). -/
theorem vfpuRefusals : Obligations.VfpuRefusals := by
  unfold Obligations.VfpuRefusals
  intro s vd vs vt sz imm5 imm8
  simp only [List.forall_mem_cons, List.not_mem_nil, false_implies, implies_true, and_true]
  refine ⟨?unmodelled, fun h => ?single, fun h => ?aboveSingle, fun h => ?triple, fun h => ?pair, fun h => ?even, fun h => ?upToPair,
    fun h => ?quad, fun h => ?matrixSingle, fun h => ?matrixPrefix⟩
  case unmodelled => exact ⟨rfl, rfl, rfl⟩
  case single | triple | pair | quad => and_intros <;> exact sized_refused_of_unlisted (eq_listed sz _) h _
  case aboveSingle => and_intros <;> exact sized_refused_of_unlisted (ne_single_eq_listed sz) h _
  case even => and_intros <;> exact sized_refused_of_unlisted (isEvenSize_eq_listed sz) h _
  case upToPair => and_intros <;> exact sized_refused_of_unlisted (isUpToPair_eq_listed sz) h _
  case matrixSingle => and_intros <;> exact matrixOp_single h _
  case matrixPrefix => and_intros <;> exact matrixOp_of_prefix h _ _

end Sys2Proof.Machine
end

section
/-! PROOF. VFPU vector arithmetic (46_vfpu_vector.md R470 to R474, R476, R478, R479): an instruction ends as `vectorEnd` does, with the
lanes of its rule computed from the prefixed operands before any is written, a NaN drawn (`vectorEnd_drawn`). -/

namespace Sys2Proof.Machine

open Sys2Proof

/-! ### Lanes (45_vfpu_engine.md R420, R455) -/

/-- A float result whose lanes may be NaNs, each drawn. -/
theorem vectorEnd_drawn (op : VfpuOp) (sz out : Size) (vd : VReg) (r : Nat → Option Word) (s : State) :
    ∃ t d, vectorEnd op sz out vd (fun i => s.drawn i (r i)) s = .next t ∧ (∀ i, i < out.lanes → IsFloat (r i) (d i)) ∧
      VectorDone out vd (s.applyD op sz d) s t := by
  obtain ⟨t, ht, hd⟩ := vectorEnd_spec op sz out vd (fun i => s.drawn i (r i)) s
  exact ⟨t, _, ht, fun i _ => isFloat_orNaN _ _, hd⟩

/-! ### Scaling (R472) -/

/-- The NaN that `vsbn` draws, with the sign of its operand [log 28]. -/
def signedNaN (free a : Word) : Word := (nanOf free &&& 0x7FFFFFFF#32) ||| (a &&& signBit)

theorem fNeg_signedNaN (free a : Word) : fNeg (signedNaN free a) = fNeg a := by
  simp only [fNeg, signedNaN, BitVec.getLsbD_or, BitVec.getLsbD_and, signBit_bit, decide_true, Bool.and_true]
  rw [show (0x7FFFFFFF#32).getLsbD 31 = false from rfl, Bool.and_false, Bool.false_or]

theorem magnitude_signedNaN (free a : Word) : magnitude (signedNaN free a) = magnitude (nanOf free) := by
  rw [magnitude, signedNaN, BitVec.extractLsb'_or, BitVec.extractLsb'_and, BitVec.extractLsb'_and,
    show signBit.extractLsb' 0 31 = 0#31 from rfl, show (0x7FFFFFFF#32).extractLsb' 0 31 = BitVec.allOnes 31 from rfl,
    BitVec.and_allOnes, BitVec.and_zero, BitVec.or_zero, magnitude]

theorem isNaN_signedNaN (free a : Word) : isNaN (signedNaN free a) = true := by
  rw [isNaN_iff, magnitude_signedNaN, ← isNaN_iff]
  exact isNaN_nanOf free

theorem scaleLane_of_none {ftz : Bool} {a : Word} {k : Int} (h : fScale ftz a k = none) (free : Word) :
    scaleLane ftz free a k = signedNaN free a := by
  rw [scaleLane, h, signedNaN]

theorem scaleLane_of_some {ftz : Bool} {a : Word} {k : Int} {p : Word} (h : fScale ftz a k = some p) (free : Word) :
    scaleLane ftz free a k = p := by
  rw [scaleLane, h]

theorem isFloat_scaleLane (ftz : Bool) (free a : Word) (k : Int) : IsFloat (fScale ftz a k) (scaleLane ftz free a k) := by
  cases h : fScale ftz a k with
  | none => rw [scaleLane_of_none h]; exact isNaN_signedNaN free a
  | some p => exact scaleLane_of_some h free

section
variable {ftz : Bool} {p : Word}

theorem fScale_of_isNaN (h : isNaN (flush ftz p) = true) (k : Int) : fScale ftz p k = none := by
  simp [fScale, withFlush1, h]

theorem fScale_of_kept (hn : isNaN (flush ftz p) = false) (h : isInf (flush ftz p) = true ∨ isZero (flush ftz p) = true) (k : Int) :
    fScale ftz p k = some (flush ftz p) := by
  have hkept : flush ftz (flush ftz p) = flush ftz p := by
    obtain h | h := h
    · exact flush_of_isInf ftz h
    · rw [eq_signedZero_of_isZero h, flush_signedZero]
  simp [fScale, withFlush1, hn, h, hkept]

theorem fScale_of_finite (hn : isNaN (flush ftz p) = false) (h : ¬(isInf (flush ftz p) = true ∨ isZero (flush ftz p) = true)) (k : Int) :
    fScale ftz p k = some (flush ftz (roundFloat (fNeg (flush ftz p)) (fMant (flush ftz p)) (fPow (flush ftz p) + k))) := by
  simp [fScale, withFlush1, hn, h]

end

theorem scaleFinite_isNearest (a : Word) (k : Int) :
    IsNearest (fValue a * (2 : ℚ) ^ k) (roundFloat (fNeg a) (fMant a) (fPow a + k)) := by
  have h : fValue a * (2 : ℚ) ^ k = (if fNeg a then -1 else 1) * (fMant a * 2 ^ (fPow a + k)) := by
    rw [fValue, zpow_add₀ two_ne_zero]
    ring
  rw [h]
  exact roundFloat_isNearest_exact _ _ _

/-- The scaled lane, by the class of the flushed operand. -/
theorem scaleLane_spec (ftz : Bool) (free p : Word) (k : Int) : fNeg (scaleLane ftz free p k) = fNeg (flush ftz p) ∧
    (if isNaN (flush ftz p) = true then isNaN (scaleLane ftz free p k) = true
      else if isInf (flush ftz p) = true ∨ isZero (flush ftz p) = true then scaleLane ftz free p k = flush ftz p
      else ∃ q, IsNearest (fValue (flush ftz p) * (2 : ℚ) ^ k) q ∧ scaleLane ftz free p k = flush ftz q) := by
  split
  case isTrue hn =>
    rw [scaleLane_of_none (fScale_of_isNaN hn k), fNeg_signedNaN, fNeg_flush]
    exact ⟨rfl, isNaN_signedNaN free p⟩
  case isFalse hn =>
    rw [Bool.not_eq_true] at hn
    split
    case isTrue h =>
      rw [scaleLane_of_some (fScale_of_kept hn h k)]
      exact ⟨rfl, rfl⟩
    case isFalse h =>
      rw [scaleLane_of_some (fScale_of_finite hn h k), fNeg_flush, fNeg_roundFloat]
      exact ⟨rfl, _, scaleFinite_isNearest _ k, rfl⟩

/-! ### The cross product under identity prefixes (R478, R441) -/

/-- Among the S and T prefixes, `P` makes of lane `i` the lane `j`. -/
def PicksLane (P : Word) (i j : Nat) : Prop :=
  P ≠ passThrough ∧ P.getLsbD (12 + i) = false ∧ P.getLsbD (16 + i) = false ∧ P.extractLsb' (8 + i) 1 = 0#1 ∧
    (P.extractLsb' (2 * i) 2).toNat = j

theorem PicksLane.applyST_eq {P : Word} {n i j : Nat} (h : PicksLane P i j) (hj : j < n) (v inv : Lanes) : applyST P n v inv i = v j := by
  obtain ⟨hP, hconst, hneg, habs, hswz⟩ := h
  simp [applyST, hP, prefixLane, hconst, hneg, habs, hswz, hj]

/-- The entries of `vcrs` rotate the lanes of its operands, by one and by two. -/
theorem vcrs_picksRotated : ∀ i, i < 3 →
    PicksLane (identityEffS .vcrs .triple) i ((i + 1) % 3) ∧ PicksLane (identityEffT .vcrs .triple) i ((i + 2) % 3) := by
  unfold PicksLane
  decide

/-- A DPFX of zero, to which the entry of R441 adds nothing, saturates nothing. -/
theorem State.applyD_of_identity {s : State} {op : VfpuOp} {sz : Size} (hid : s.prefixesIdentity = true) (hf : s.FollowsTable op sz)
    (h0 : (defaultOverride op sz).dAdd = 0#32) (d : Lanes) : s.applyD op sz d = d := by
  simp only [State.prefixesIdentity, Bool.and_eq_true, beq_iff_eq] at hid
  obtain ⟨-, dpfx⟩ := hid
  have heff : s.effD op sz = 0#32 := by
    rw [State.effD, hf.prefixOverride_eq, h0, dpfx, effective, BitVec.zero_and, BitVec.or_zero]
  funext i
  rw [State.applyD, heff]
  exact State.saturate_mode0 (by simp) _

/-- Settles O33: a lane is the operation of its rule, a NaN drawn (`vectorEnd_drawn`); `vsbn` scales by the class of its operand
(`scaleLane_spec`), and under identity prefixes the entries of `vcrs` rotate its operands (`vcrs_picksRotated`). -/
theorem vectorArithmetic : Obligations.VectorArithmetic := by
  unfold Obligations.VectorArithmetic
  intro s vd vs vt sz
  refine ⟨vectorEnd_drawn .vadd sz sz vd _ s, vectorEnd_drawn .vsub sz sz vd _ s, vectorEnd_drawn .vdiv sz sz vd _ s,
    vectorEnd_drawn .vmul sz sz vd _ s, ?scaled, ?classes, fun hsz => ?vscl, vectorEnd_drawn .vcrs .triple .triple vd _ s,
    fun hid hf => ?rotated, ?vdet⟩
  case scaled =>
    obtain ⟨t, ht, hd⟩ := vectorEnd_spec .vsbn .single .single vd _ s
    exact ⟨t, _, ht, fun i _ => isFloat_scaleLane _ _ _ _, hd⟩
  case classes =>
    intro fl a k hfl ha hk
    obtain rfl := eq_flush hfl
    subst ha hk
    obtain ⟨t, ht, hd⟩ := vectorEnd_spec .vsbn .single .single vd _ s
    exact ⟨t, _, ht, hd, scaleLane_spec _ _ _ _⟩
  case vscl =>
    obtain ⟨t, d, ht, hlanes, hd⟩ := vectorEnd_drawn .vscl sz sz vd _ s
    exact ⟨t, d, (sized_true _ (bne_iff_ne.2 hsz)).trans ht, hlanes, hd⟩
  case rotated =>
    obtain ⟨t, d, ht, hlanes, hd⟩ := vectorEnd_drawn .vcrs .triple .triple vd _ s
    rw [State.applyD_of_identity hid hf rfl] at hd
    refine ⟨t, d, ht, hd, fun i hi => ?_⟩
    obtain ⟨hS, hT⟩ := vcrs_picksRotated i hi
    have h := hlanes i hi
    have hmod (n : Nat) : n % 3 < Size.triple.lanes := Nat.mod_lt n (by decide)
    rwa [State.sOperand_of_identity hid hf, State.tOperand_of_identity hid hf, hS.applyST_eq (hmod _), hT.applyST_eq (hmod _)] at h
  case vdet =>
    obtain ⟨t, ht, hd⟩ := vectorEnd_spec .vdet .pair .single vd _ s
    exact ⟨t, _, ht, hd, isFloat_orNaN (s.free laneDraws) _⟩

end Sys2Proof.Machine
end

section
/-! PROOF. VFPU minima, maxima and comparisons (46_vfpu_vector.md R480 to R484, R493 to R495): lane by lane, a tie or an unordered pair
giving one of the values allowed; `vcmp` writes CC bits and no slot. -/

namespace Sys2Proof.Machine

open Sys2Proof

/-! ### Lane by lane (R480 to R484) -/

/-- A result of which something is known. -/
theorem vectorEnd_known {P : Lanes → Prop} (op : VfpuOp) (sz out : Size) (vd : VReg) {d : Lanes} (s : State) (h : P d) :
    ∃ t d', vectorEnd op sz out vd d s = .next t ∧ VectorDone out vd (s.applyD op sz d') s t ∧ P d' := by
  obtain ⟨t, ht, hd⟩ := vectorEnd_spec op sz out vd d s
  exact ⟨t, d, ht, hd, h⟩

/-- A choice between two patterns, that of a tie left open. -/
theorem choice_spec {special first second : Bool} (tie : Bool) {a b v d : Word}
    (hd : d = if special then v else if first then a else if second then b else if tie then a else b) :
    if special = true then d = v else if first then d = a else if second then d = b else d = a ∨ d = b := by
  subst hd
  cases special
  case true => rfl
  case false =>
    cases first
    case true => rfl
    case false =>
      cases second
      case true => rfl
      case false => exact ite_eq_or_eq _ a b

section
variable (free a b : Word)

theorem vminLane_spec : if (isNaNorInf a || isNaNorInf b) = true then vminLane free a b =
      (if a.toInt < 0 ∧ b.toInt < 0 then (if a.toInt > b.toInt then a else b) else (if a.toInt < b.toInt then a else b))
    else if fLt a b then vminLane free a b = a else if fLt b a then vminLane free a b = b
    else vminLane free a b = a ∨ vminLane free a b = b :=
  choice_spec (free.getLsbD 0) (by simp [vminLane, BitVec.slt_iff_toInt_lt])

theorem vmaxLane_spec : if (isNaNorInf a || isNaNorInf b) = true then vmaxLane free a b =
      (if a.toInt < 0 ∧ b.toInt < 0 then (if a.toInt < b.toInt then a else b) else (if a.toInt > b.toInt then a else b))
    else if fLt b a then vmaxLane free a b = a else if fLt a b then vmaxLane free a b = b
    else vmaxLane free a b = a ∨ vmaxLane free a b = b :=
  choice_spec (free.getLsbD 0) (by simp [vmaxLane, BitVec.slt_iff_toInt_lt])

/-- Ordered patterns of which neither is less are equal. -/
theorem fEq_of_not_fLt (hn : (isNaN a || isNaN b) = false) (hba : ¬fLt b a = true) (hab : ¬fLt a b = true) : fEq a b = true := by
  rw [fLt_eq_true_iff (Bool.or_comm _ _ ▸ hn)] at hba
  rw [fLt_eq_true_iff hn] at hab
  rw [fEq_eq_true_iff hn]
  omega

theorem vscmpLane_spec : if (isNaN a || isNaN b) = true then vscmpLane free a b ∈ [0xBF800000#32, 0#32, 0x3F800000#32]
    else vscmpLane free a b = if fLt b a then 0x3F800000#32 else if fLt a b then 0xBF800000#32 else 0#32 := by
  rw [vscmpLane]
  split
  case isTrue => split_ifs <;> simp
  case isFalse hn =>
    split
    · rfl
    · split
      · rfl
      · rw [if_pos (fEq_of_not_fLt a b (Bool.eq_false_of_not_eq_true hn) ‹_› ‹_›)]

end

/-- Settles O35: each lane is the minimum, maximum or comparison of its rule (`vminLane_spec`, `vmaxLane_spec`, `vscmpLane_spec`). -/
theorem minMaxCompare : Obligations.MinMaxCompare := by
  unfold Obligations.MinMaxCompare
  intro s vd vs vt sz
  refine ⟨vectorEnd_known .vmin sz sz vd s ?min, vectorEnd_known .vmax sz sz vd s ?max, vectorEnd_known .vscmp sz sz vd s ?cmp,
    vectorEnd_spec .vsge sz sz vd _ s, vectorEnd_spec .vslt sz sz vd _ s⟩
  case min =>
    rintro i - a b rfl rfl
    exact vminLane_spec _ _ _
  case max =>
    rintro i - a b rfl rfl
    exact vmaxLane_spec _ _ _
  case cmp =>
    rintro i - a b rfl rfl
    exact vscmpLane_spec _ _ _

/-! ### Control registers (R494, R507)

A step that changes VFPU control registers before the rest of an instruction runs. -/

theorem OnlyVfpu.of_control {s t : State} {c : Vector Word 16} (h : OnlyVfpu { s with cpu := { s.cpu with vfpuCtrl := c } } t) :
    OnlyVfpu s t :=
  ⟨h.pc, h.gpr, h.fpr, ⟨h.hiLo.hi, h.hiLo.lo⟩, ⟨h.flags.fcr31, h.flags.fpcond, h.flags.llBit⟩,
    ⟨h.transfer.branchPC, h.transfer.branching, h.transfer.jumping⟩, h.mem,
    ⟨h.rest.failure, h.rest.refused, h.rest.sched, h.rest.cfg, h.rest.ir, h.rest.drawCount⟩⟩

/-! ### `vcmp` (R493 to R495) -/

/-- The conditions of R493 in their order. -/
def conditions (a b : Word) : List Bool := [false, fEq a b, fLt a b, fLt a b || fEq a b, true, !fEq a b, fLt b a || fEq b a, fLt b a,
  isZero a, isNaN a, isInf a, isNaNorInf a, !isZero a, !isNaN a, !isInf a, !isNaNorInf a]

theorem vcmpLane_eq_getD (cond : BitVec 4) (a b : Word) : vcmpLane cond a b = (conditions a b).getD cond.toNat false := by
  obtain ⟨n, hn⟩ := cond
  interval_cases n <;> rfl

/-- The six bits that `vcmp` writes. -/
theorem sixBits_bit (b0 b1 b2 b3 b4 b5 : Bool) {j : Nat} (hj : j < 6) :
    (BitVec.ofBool b5 ++ BitVec.ofBool b4 ++ BitVec.ofBool b3 ++ BitVec.ofBool b2 ++ BitVec.ofBool b1 ++ BitVec.ofBool b0).getLsbD j =
      [b0, b1, b2, b3, b4, b5].getD j false := by
  revert b0 b1 b2 b3 b4 b5 j
  decide

theorem any_range_eq (n : Nat) (c : Nat → Bool) : (List.range n).any c = decide (∃ i, i < n ∧ c i = true) := by
  rw [Bool.eq_iff_iff, decide_eq_true_iff]
  simp

theorem all_range_eq (n : Nat) (c : Nat → Bool) : (List.range n).all c = decide (∀ i, i < n → c i = true) := by
  rw [Bool.eq_iff_iff, decide_eq_true_iff]
  simp

/-- The CC bits after `vcmp` (R494). -/
theorem ccUpdate_bit {n : Nat} (hn : n ≤ 4) (c : Nat → Bool) (old : Word) {j : Nat} (hj : j < 32) :
    (ccUpdate n c old).getLsbD j = if j < n then c j else if j = 4 then (List.range n).any c
      else if j = 5 then (List.range n).all c else old.getLsbD j := by
  have hmask : (0x0000003F#32).getLsbD j = decide (j < 6) := lowMask_bit 6 j hj
  simp only [ccUpdate, BitVec.getLsbD_or, BitVec.getLsbD_and, BitVec.getLsbD_not, BitVec.getLsbD_setWidth, hmask, hj, decide_true,
    Bool.true_and]
  by_cases h : j < 6
  case pos =>
    rw [sixBits_bit _ _ _ _ _ _ h, decide_eq_true h, Bool.not_true, Bool.and_false, Bool.false_or]
    match j, h with
    | 0, _ | 1, _ | 2, _ | 3, _ => rfl
    | 4, _ | 5, _ => simp [Nat.not_lt.2 hn, show ¬5 < n by omega]
  case neg =>
    rw [BitVec.getLsbD_of_ge _ j (Nat.not_lt.1 h), decide_eq_false h, Bool.not_false, Bool.and_true, Bool.or_false,
      if_neg (show ¬j < n by omega), if_neg (show j ≠ 4 by omega), if_neg (show j ≠ 5 by omega)]

/-- Settles O37: the condition is that of the list of R493 (`vcmpLane_eq_getD`), and the CC register takes its bits (`ccUpdate_bit`). -/
theorem vectorCompare : Obligations.VectorCompare := by
  unfold Obligations.VectorCompare
  rintro s vs vt sz cond a b c rfl rfl hc
  have hlane : (fun i => vcmpLane cond (s.sOperand .vcmp sz none vs i) (s.tOperand .vcmp sz none vt i)) = c :=
    funext fun i => (vcmpLane_eq_getD _ _ _).trans (hc i).symm
  refine ⟨_, rfl, .of_control (onlyVfpu_of_onlySlots (.refl (s.setVc CReg.cc _))), fun _ => rfl, eaten_of_vc fun k hcc _ _ _ => ?kept,
    fun j hj => ?bits⟩
  case kept => rw [State.setVc_vc, if_neg hcc]
  case bits =>
    rw [State.advance_vc, eat_vc, if_neg (by decide), if_neg (by decide), State.setVc_vc, if_pos rfl, hlane,
      ccUpdate_bit (Size.lanes_le sz) c _ hj, any_range_eq, all_range_eq]

end Sys2Proof.Machine
end

section
/-! PROOF. VFPU random numbers and approximated functions (46_vfpu_vector.md R496 to R510): an approximation is `vectorEnd` of its opaque
function; a random number is drawn after the eight RCX registers are (`State.drawRcx`), which nothing else of the instruction reads. -/

namespace Sys2Proof.Machine

open Sys2Proof

/-! ### Approximations (R496 to R506) -/

/-- Settles O38: each instruction is its function on the prefixed lane (`vectorEnd_spec`); the quotient of `vrexp2` may be a NaN, drawn
(`vectorEnd_drawn`). -/
theorem vectorApproximations : Obligations.VectorApproximations := by
  unfold Obligations.VectorApproximations
  intro s vd vs sz
  have ends (op : VfpuOp) (f : Word → Word) := vectorEnd_spec op sz sz vd (fun i => f (s.sOperand op sz (some (sz, vd)) vs i)) s
  exact ⟨ends .vrcp _, ends .vrsq _, ends .vsin _, ends .vcos _, ends .vexp2 _, ends .vlog2 _, ends .vsqrt _, ends .vasin _,
    ends .vnrcp (Config.vfpuRcp · ^^^ signBit), ends .vnsin (Config.vfpuSin · ^^^ signBit), vectorEnd_drawn .vrexp2 sz sz vd _ s⟩

/-! ### Drawing RCX (R507) -/

/-- Writes of VFPU control registers change those alone. -/
theorem foldl_setVc_eq {α : Type} (reg : α → CReg) (val : α → Word) (l : List α) :
    ∀ s : State, ∃ c, l.foldl (fun t k => t.setVc (reg k) (val k)) s = { s with cpu := { s.cpu with vfpuCtrl := c } } := by
  induction l with
  | nil => exact fun s => ⟨s.cpu.vfpuCtrl, rfl⟩
  | cons a l ih =>
    intro s
    obtain ⟨c, hc⟩ := ih (s.setVc (reg a) (val a))
    exact ⟨c, hc⟩

section
variable {s t : State}

theorem State.drawRcx_eq (s : State) : ∃ c, s.drawRcx = { s with cpu := { s.cpu with vfpuCtrl := c } } := foldl_setVc_eq _ _ _ s

theorem State.drawRcx_vc (s : State) (k : CReg) :
    s.drawRcx.vc k = if 8 ≤ k.val then s.free (rcxDraws + (k.val - 8)) &&& 0x3FFFFFFF#32 else s.vc k := by
  simp only [State.drawRcx, List.range, List.range.loop, List.foldl_cons, List.foldl_nil, State.setVc_vc]
  fin_cases k <;> rfl

theorem State.drawRcx_vc_of_lt {k : CReg} (h : k.val < 8) : s.drawRcx.vc k = s.vc k := by
  rw [State.drawRcx_vc, if_neg (Nat.not_le.2 h)]

theorem State.drawRcx_vc_masked {k : CReg} (h : 8 ≤ k.val) : s.drawRcx.vc k &&& 0xC0000000#32 = 0#32 := by
  rw [State.drawRcx_vc, if_pos h, BitVec.and_assoc, show 0x3FFFFFFF#32 &&& 0xC0000000#32 = 0#32 from rfl, BitVec.and_zero]

theorem State.drawRcx_vr (s : State) (k : VReg) : s.drawRcx.vr k = s.vr k := by
  obtain ⟨c, hc⟩ := s.drawRcx_eq
  rw [hc]
  rfl

theorem State.drawRcx_laneMasked (i : Nat) : s.drawRcx.laneMasked i = s.laneMasked i := by
  rw [State.laneMasked, State.drawRcx_vc_of_lt (by decide), State.laneMasked]

theorem State.drawRcx_applyD (op : VfpuOp) (sz : Size) (d : Lanes) : s.drawRcx.applyD op sz d = s.applyD op sz d := by
  have hD : s.drawRcx.vc CReg.dpfx = s.vc CReg.dpfx := State.drawRcx_vc_of_lt (by decide)
  obtain ⟨c, hc⟩ := s.drawRcx_eq
  funext i
  simp only [State.applyD, State.saturate, State.effD, hD]
  rw [hc]
  rfl

theorem OnlyVfpu.of_drawRcx (h : OnlyVfpu s.drawRcx t) : OnlyVfpu s t := by
  obtain ⟨c, hc⟩ := s.drawRcx_eq
  rw [hc] at h
  exact h.of_control

/-- What an instruction leaves of the RCX registers that it draws first. -/
theorem Eaten.of_drawRcx (h : Eaten (fun _ => False) s.drawRcx t) :
    (∀ k : CReg, 8 ≤ k.val → t.vc k &&& 0xC0000000#32 = 0#32) ∧ Eaten (fun k => 8 ≤ k.val) s t := by
  refine ⟨fun k hk => ?_, h.spfx, h.tpfx, h.dpfx, fun k h0 h1 h2 hk => ?_⟩
  · have hne (j : CReg) (hj : j.val < 8) : k ≠ j := by rintro rfl; omega
    rw [h.others k (hne _ (by decide)) (hne _ (by decide)) (hne _ (by decide)) id, State.drawRcx_vc_masked hk]
  · rw [h.others k h0 h1 h2 id, State.drawRcx_vc_of_lt (Nat.not_le.1 hk)]

theorem VectorWritten.of_drawRcx {sz : Size} {r : VReg} {d : Lanes} (h : VectorWritten sz r d s.drawRcx t) : VectorWritten sz r d s t :=
  ⟨fun i hi => by rw [h.lanes i hi, State.drawRcx_laneMasked, State.drawRcx_vr],
    fun k hk => (h.others k hk).trans (s.drawRcx_vr k)⟩

end

theorem vectorEnd_drawRcx (op : VfpuOp) (sz : Size) (vd : VReg) (d : Lanes) (s : State) :
    ∃ t, vectorEnd op sz sz vd d s.drawRcx = .next t ∧ (∀ k : CReg, 8 ≤ k.val → t.vc k &&& 0xC0000000#32 = 0#32) ∧
      OnlyVfpu s t ∧ Eaten (fun k => 8 ≤ k.val) s t ∧ VectorWritten sz vd (s.applyD op sz d) s t := by
  obtain ⟨t, ht, hw, he, ho⟩ := vectorEnd_spec op sz sz vd d s.drawRcx
  rw [State.drawRcx_applyD] at hw
  obtain ⟨hrcx, heaten⟩ := he.of_drawRcx
  exact ⟨t, ht, hrcx, ho.of_drawRcx, heaten, hw.of_drawRcx⟩

/-! ### Drawn fractions (R509, R510) -/

/-- A number above the `k`th bit, joined with one below it. -/
theorem ofNat_or_eq_ofNat_add {a b k : Nat} (hb : b < 2 ^ k) (h : a * 2 ^ k + b < 2 ^ 32) {w : Word} (hw : w.toNat = b) :
    BitVec.ofNat 32 (a * 2 ^ k) ||| w = BitVec.ofNat 32 (a * 2 ^ k + b) := by
  apply BitVec.eq_of_toNat_eq
  rw [BitVec.toNat_or, BitVec.toNat_ofNat, BitVec.toNat_ofNat, Nat.mod_eq_of_lt (by omega), Nat.mod_eq_of_lt h, hw, ← Nat.shiftLeft_eq,
    Nat.shiftLeft_add_eq_or_of_lt hb]

theorem fraction_toNat (w : Word) : (w &&& 0x007FFFFF#32).toNat = w.toNat % 2 ^ 23 := by
  rw [BitVec.toNat_and, show (0x007FFFFF#32).toNat = 2 ^ 23 - 1 from rfl, Nat.and_two_pow_sub_one_eq_mod]

/-- A drawn fraction keeps the value in the binade of its exponent. -/
theorem fValue_exponent_or_fraction {e : Nat} (he : e < 255) {lo hi : ℚ} (hlo : magValue (e * 2 ^ 23) = lo)
    (hhi : magValue ((e + 1) * 2 ^ 23) = hi) {p w : Word} (hp : p = BitVec.ofNat 32 (e * 2 ^ 23) ||| (w &&& 0x007FFFFF#32)) :
    lo ≤ fValue p ∧ fValue p < hi ∧ isNaNorInf p = false := by
  have hfrac := Nat.mod_lt w.toNat (show 0 < 2 ^ 23 by decide)
  have hn : p.toNat = e * 2 ^ 23 + w.toNat % 2 ^ 23 := by
    rw [hp, ofNat_or_eq_ofNat_add hfrac (by omega) (fraction_toNat w), BitVec.toNat_ofNat]
    omega
  have hmag : magnitude p = p.toNat := by
    rw [magnitude_eq_mod]
    omega
  have hneg : fNeg p = false := by
    rw [fNeg_eq, decide_eq_false_iff_not]
    omega
  rw [fValue_eq, hneg, if_neg Bool.false_ne_true, one_mul, isNaNorInf_eq_false_iff, ← hlo, ← hhi, magValue_strictMono.le_iff_le,
    magValue_strictMono.lt_iff_lt, hmag]
  omega

/-- Settles O39: the RCX registers are drawn first (`vectorEnd_drawRcx`), and a drawn fraction stays in its binade
(`fValue_exponent_or_fraction`). -/
theorem randomDraws : Obligations.RandomDraws := by
  unfold Obligations.RandomDraws
  intro s vd vs sz
  refine ⟨?vrnds, ?vrndi, ?vrndf1, ?vrndf2⟩
  case vrnds =>
    have heaten : Eaten (fun _ => False) s.drawRcx s.drawRcx.eat.advance := eaten_of_vc fun _ _ _ _ _ => rfl
    obtain ⟨hrcx, heaten⟩ := heaten.of_drawRcx
    exact ⟨_, rfl, hrcx, (onlyVfpu_of_onlySlots (.refl s.drawRcx)).of_drawRcx, heaten, s.drawRcx_vr⟩
  case vrndi =>
    obtain ⟨t, ht, hrcx, honly, heaten, hw⟩ := vectorEnd_drawRcx .vrndi sz vd _ s
    exact ⟨t, _, ht, hrcx, honly, heaten, hw⟩
  case vrndf1 =>
    obtain ⟨t, ht, hrcx, honly, heaten, hw⟩ := vectorEnd_drawRcx .vrndf1 sz vd _ s
    exact ⟨t, _, ht, hrcx, honly, heaten, fun _ => fValue_exponent_or_fraction (e := 127) (by decide) (by norm_num [magValue])
      (by norm_num [magValue]) rfl, hw⟩
  case vrndf2 =>
    obtain ⟨t, ht, hrcx, honly, heaten, hw⟩ := vectorEnd_drawRcx .vrndf2 sz vd _ s
    exact ⟨t, _, ht, hrcx, honly, heaten, fun _ => fValue_exponent_or_fraction (e := 128) (by decide) (by norm_num [magValue])
      (by norm_num [magValue]) rfl, hw⟩

end Sys2Proof.Machine
end

section
/-! PROOF. VFPU moves and constants (46_vfpu_vector.md R485 to R492, R523; 47_vfpu_matrix_misc.md R571, R575, R576): what is representable
is rounded to itself (`roundFloat_exact`), so the integer and half-float immediates are exact. -/

namespace Sys2Proof.Machine

open Sys2Proof

/-! ### Exact rounding (43_cop1.md R360) -/

theorem RoundsEven.eq_of_intCast {z r : Int} (h : RoundsEven (z : ℝ) r) : r = z := by
  have hlt : |((z - r : Int) : ℝ)| < 1 := by
    push_cast
    linarith [h.1]
  have hlt : |z - r| < 1 := by exact_mod_cast hlt
  have := Int.abs_lt_one_iff.1 hlt
  omega

/-- A value that the format represents rounds to itself. -/
theorem RoundsTo.eq_of_representable {fmt : FloatFormat} (hp : 0 < fmt.prec) {m k r : Nat} {q : Int} (h : RoundsTo fmt (m * 2 ^ q) k r)
    (hm : m < 2 ^ fmt.prec) (hq : fmt.qmin ≤ q) : (m : ℝ) * 2 ^ q = r * 2 ^ ((k : Int) + fmt.qmin) := by
  obtain ⟨hrounds, hnormal, -⟩ := h
  have hle : (k : Int) + fmt.qmin ≤ q := by
    obtain rfl | hnormal := hnormal
    · omega
    · rw [le_div_iff₀ (by positivity), ← zpow_natCast, ← zpow_add₀ two_ne_zero] at hnormal
      have hlt : (2 : ℝ) ^ (((fmt.prec - 1 : Nat) : Int) + (k + fmt.qmin)) < 2 ^ ((fmt.prec : Int) + q) := by
        refine hnormal.trans_lt ?_
        rw [zpow_add₀ two_ne_zero, zpow_natCast]
        gcongr
        exact_mod_cast hm
      have := (zpow_lt_zpow_iff_right₀ one_lt_two).1 hlt
      omega
  rw [mul_zpow_div_of_le _ hle] at hrounds
  have hr : (r : Int) = (m * 2 ^ (q - (k + fmt.qmin)).toNat : Nat) := RoundsEven.eq_of_intCast (by exact_mod_cast hrounds)
  have hr : r = m * 2 ^ (q - (k + fmt.qmin)).toNat := by exact_mod_cast hr
  rw [hr]
  push_cast
  rw [← mul_zpow_div_of_le _ hle, div_mul_cancel₀ _ (zpow_ne_zero _ two_ne_zero)]

/-- `roundFloat` of what binary32 represents. -/
theorem roundFloat_exact (neg : Bool) {m : Nat} {q : Int} (hm : m < 2 ^ 24) (hq : -149 ≤ q) (hfit : q ≤ 103) :
    isNaNorInf (roundFloat neg m q) = false ∧ fValue (roundFloat neg m q) = (if neg then -1 else 1) * (m * 2 ^ q) := by
  have hfrom : RoundsFrom (m : ℝ) m := .inl rfl
  obtain ⟨k, r, heq, hr⟩ := hfrom.roundsTo q
  have hlt : (m : ℝ) * 2 ^ q < 2 ^ 128 - 2 ^ 103 := calc
    (m : ℝ) * 2 ^ q ≤ 2 ^ 24 * 2 ^ (103 : Int) := by
      gcongr
      · exact_mod_cast hm.le
      · exact one_le_two
    _ < 2 ^ 128 - 2 ^ 103 := by norm_num
  have hfin : k * 2 ^ 23 + r < 0x7F800000 := not_le.1 (hr.overflow_iff.not.2 hlt.not_ge)
  have hval : magValue (k * 2 ^ 23 + r) = m * 2 ^ q := by
    rw [← Rat.cast_inj (α := ℝ), hr.magValue_eq.trans (hr.eq_of_representable (by decide) hm hq).symm]
    push_cast
    rfl
  rw [roundFloat_eq, heq, min_eq_left hfin.le, fValue_ofMagnitude _ (by omega), isNaNorInf_eq_false_iff,
    magnitude_ofMagnitude _ (by omega)]
  exact ⟨hfin, by rw [← hval]⟩

theorem ofScaledInt_exact {n q : Int} (hn : n.natAbs < 2 ^ 24) (hq : -149 ≤ q) (hfit : q ≤ 103) :
    isNaNorInf (ofScaledInt n q) = false ∧ fValue (ofScaledInt n q) = n * 2 ^ q := by
  obtain ⟨hfin, hval⟩ := roundFloat_exact (decide (n < 0)) hn hq hfit
  refine ⟨hfin, hval.trans ?_⟩
  rw [← mul_assoc]
  congr 1
  obtain h | h := lt_or_ge n 0
  · simp [h, Nat.cast_natAbs, abs_of_neg]
  · simp [h.not_gt, Nat.cast_natAbs, abs_of_nonneg h]

/-! ### Half-floats widened (45_vfpu_engine.md R458) -/

/-- An infinity or a NaN keeps its sign and fraction. -/
theorem signedInf_or_fraction (neg : Bool) (m : BitVec 10) :
    signedInf neg ||| (m.setWidth 32 <<< 13) = ofMagnitude neg (255 * 2 ^ 23 + m.toNat * 2 ^ 13) := by
  have hm := m.isLt
  have hw : (m.setWidth 32 <<< 13).toNat = m.toNat * 2 ^ 13 := by
    rw [BitVec.toNat_shiftLeft, BitVec.toNat_setWidth, Nat.shiftLeft_eq]
    omega
  have hinf : signedInf neg = BitVec.ofNat 32 (255 * 2 ^ 23) ||| (if neg then signBit else 0#32) := by cases neg <;> rfl
  rw [ofMagnitude, ← ofNat_or_eq_ofNat_add (by omega) (by omega) hw, hinf, BitVec.or_assoc, BitVec.or_assoc,
    BitVec.or_comm (m.setWidth 32 <<< 13)]

theorem h2f_isHalfWidened (h : Half) : IsHalfWidened h (h2f h) := by
  have hm : halfMan h < 2 ^ 10 := (h.extractLsb' 0 10).isLt
  have he : halfExp h < 2 ^ 5 := (h.extractLsb' 10 5).isLt
  rw [IsHalfWidened, h2f, ← halfExp, ← halfMan]
  split
  case isTrue =>
    rw [signedInf_or_fraction, ← halfMan]
    have hlt : 255 * 2 ^ 23 + halfMan h * 2 ^ 13 < 2 ^ 31 := by omega
    rw [fNeg_ofMagnitude _ hlt, fExp_eq, fMan_eq, magnitude_ofMagnitude _ hlt]
    exact ⟨rfl, by omega, by omega⟩
  case isFalse hfin =>
    split
    case isTrue h0 =>
      obtain ⟨hfin, hval⟩ := roundFloat_exact (h.getLsbD 15) (m := halfMan h) (q := -24) (by omega) (by decide) (by decide)
      refine ⟨fNeg_roundFloat _ _ _, hfin, hval.trans ?_⟩
      rw [halfValue, if_pos h0, zpow_neg, ← div_eq_mul_inv]
      rfl
    case isFalse h0 =>
      obtain ⟨hfin, hval⟩ := roundFloat_exact (h.getLsbD 15) (m := halfMan h + 2 ^ 10) (q := halfExp h - 25)
        (by omega) (by omega) (by omega)
      refine ⟨fNeg_roundFloat _ _ _, hfin, hval.trans ?_⟩
      rw [halfValue, if_neg h0, show (halfExp h : Int) - 15 = halfExp h - 25 + 10 by omega, zpow_add₀ two_ne_zero _ 10]
      push_cast
      congr 1
      field_simp
      norm_num
      ring

/-! ### The statement -/

theorem vidtLane_pair (vd : VReg) : vidtLane .pair vd = vd.toNat % 2 := by simp [vidtLane]

theorem vidtLane_quad (vd : VReg) : vidtLane .quad vd = vd.toNat % 4 := by simp [vidtLane]

/-- The constants of R523. -/
def vcstConstants : List Word := [0x00000000#32, 0x7F7FFFFF#32, 0x3FB504F3#32, 0x3F3504F3#32, 0x3F906EBB#32, 0x3F22F983#32, 0x3EA2F983#32,
  0x3F490FDB#32, 0x3FC90FDB#32, 0x40490FDB#32, 0x402DF854#32, 0x3FB8AA3B#32, 0x3EDE5BD9#32, 0x3F317218#32, 0x40135D8E#32, 0x40C90FDB#32,
  0x3F060A92#32, 0x3E9A209B#32, 0x40549A78#32, 0x3F5DB3D7#32]

theorem vcstTable_eq_getD : ∀ k : BitVec 5, vcstTable k = vcstConstants.getD k.toNat 0#32 := by decide

/-- Settles O36: each instruction is `vectorEnd` of its rule (`vectorEnd_spec`), and the immediates are exact (`ofScaledInt_exact`,
`h2f_isHalfWidened`). -/
theorem vectorMovesConstants : Obligations.VectorMovesConstants := by
  unfold Obligations.VectorMovesConstants
  rintro s vd vs sz k imm table rfl
  have ends (op : VfpuOp) (d : Lanes) := vectorEnd_spec op sz sz vd d s
  refine ⟨ends .vmov _, ends .vabs _, ends .vneg _, ?pair, ?quad, ends .vsat0 _, ends .vsat1 _, ends .vzero _, ends .vone _, ?vcst,
    ends .vsgn _, ?viim, ?vfim⟩
  case pair =>
    rw [← vidtLane_pair]
    exact vectorEnd_spec .vidt .pair .pair vd _ s
  case quad =>
    rw [← vidtLane_quad]
    exact vectorEnd_spec .vidt .quad .quad vd _ s
  case vcst =>
    rw [← vcstConstants, ← vcstTable_eq_getD]
    exact ends .vcst _
  case viim =>
    obtain ⟨t, ht, hd⟩ := vectorEnd_spec .viim .single .single vd (fun _ => ofScaledInt imm.toInt 0) s
    have hlt := BitVec.toInt_lt (x := imm)
    have hge := BitVec.le_toInt imm
    obtain ⟨hfin, hval⟩ := ofScaledInt_exact (n := imm.toInt) (q := 0) (by omega) (by decide) (by decide)
    refine ⟨t, _, ht, hd, hfin, by simpa using hval, ?_⟩
    rintro rfl
    rfl
  case vfim =>
    obtain ⟨t, ht, hd⟩ := vectorEnd_spec .vfim .single .single vd (fun _ => h2f imm) s
    exact ⟨t, _, ht, hd, h2f_isHalfWidened imm⟩

end Sys2Proof.Machine
end

section
/-! PROOF. VFPU conversions between floats and 32-bit integers, and conditional moves (46_vfpu_vector.md R524 to R531): `f2iv` compares the
scaled value exactly (`scaledGt_iff`, `scaledGe_iff`) before it rounds it, and a lane moves by the CC bit of its rule (`cmovLane`). -/

namespace Sys2Proof.Machine

open Sys2Proof

/-! ### Floats to integers (R524 to R528) -/

/-- A scaled integer of a nonnegative exponent is an integer, of a negative one a fraction. -/
theorem mul_two_zpow_eq (m : Nat) (q : Int) :
    (m : ℚ) * 2 ^ q = if 0 ≤ q then ((m * 2 ^ q.toNat : Nat) : ℚ) else m / (2 ^ (-q).toNat : Nat) := by
  split
  case isTrue h =>
    push_cast
    rw [← zpow_natCast, Int.toNat_of_nonneg h]
  case isFalse h =>
    push_cast
    rw [← zpow_natCast, Int.toNat_of_nonneg (by omega), zpow_neg, div_inv_eq_mul]

theorem scaledGt_iff (m : Nat) (q : Int) (bound : Nat) : scaledGt m q bound = true ↔ (bound : ℚ) < m * 2 ^ q := by
  rw [mul_two_zpow_eq, scaledGt]
  split
  · rw [decide_eq_true_iff, Nat.cast_lt]
  · rw [decide_eq_true_iff, lt_div_iff₀ (by positivity)]
    norm_cast

theorem scaledGe_iff (m : Nat) (q : Int) (bound : Nat) : scaledGe m q bound = true ↔ (bound : ℚ) ≤ m * 2 ^ q := by
  rw [mul_two_zpow_eq, scaledGe]
  split
  · rw [decide_eq_true_iff, Nat.cast_le]
  · rw [decide_eq_true_iff, le_div_iff₀ (by positivity)]
    norm_cast

section
variable (p : Word) (scale : Nat)

theorem fValue_mul_two_pow : fValue p * 2 ^ scale = (if fNeg p then -1 else 1) * (fMant p * 2 ^ (fPow p + scale)) := by
  rw [fValue, zpow_add₀ two_ne_zero, zpow_natCast]
  ring

/-- The upper bound of R524, which no negative value reaches. -/
theorem saturates_above_iff :
    (!fNeg p && scaledGt (fMant p) (fPow p + scale) 2147483647) = true ↔ fValue p * 2 ^ scale > 2 ^ 31 - 1 := by
  rw [Bool.and_eq_true, scaledGt_iff, fValue_mul_two_pow]
  have hnonneg : (0 : ℚ) ≤ fMant p * 2 ^ (fPow p + scale) := by positivity
  cases fNeg p with
  | false => norm_num
  | true => norm_num; linarith

/-- The lower bound of R524, which no positive value reaches. -/
theorem saturates_below_iff :
    (fNeg p && scaledGe (fMant p) (fPow p + scale) 2147483648) = true ↔ fValue p * 2 ^ scale ≤ -(2 ^ 31) := by
  rw [Bool.and_eq_true, scaledGe_iff, fValue_mul_two_pow]
  have hnonneg : (0 : ℚ) ≤ fMant p * 2 ^ (fPow p + scale) := by positivity
  cases fNeg p with
  | false => norm_num; linarith
  | true => norm_num

theorem roundToInt_isRoundedInt_scaled (mode : Rounding) :
    IsRoundedInt mode (fValue p * 2 ^ scale) (roundToInt mode (fNeg p) (fMant p) (fPow p + scale)) := by
  rw [fValue_mul_two_pow]
  cases fNeg p with
  | false => simpa using roundToInt_false_isRoundedInt mode (fMant p) (fPow p + scale)
  | true => simpa [roundToInt_true] using (roundToInt_false_isRoundedInt mode.opposite (fMant p) (fPow p + scale)).of_opposite

theorem f2iv_isScaledConverted (mode : Rounding) : IsScaledConverted mode scale p (f2iv mode scale p) := by
  simp only [IsScaledConverted, f2iv, saturates_above_iff, saturates_below_iff]
  split
  case isTrue => rfl
  split
  case isTrue => rfl
  split
  case isTrue => rfl
  split
  case isTrue => rfl
  exact ⟨_, roundToInt_isRoundedInt_scaled p scale mode, rfl⟩

end

/-- Settles O42: a conversion takes only the mask, and each lane is `f2iv` in the mode of its rule (`f2iv_isScaledConverted`). -/
theorem scaledFloatToInteger : Obligations.ScaledFloatToInteger := by
  unfold Obligations.ScaledFloatToInteger
  intro s vd vs scale sz
  have ends (op : VfpuOp) (mode : Rounding) : ∃ t d,
      vectorConvert op sz sz vd vs (fun a i => f2iv mode scale.toNat (a i)) s = .next t ∧ VectorDone sz vd d s t ∧
        ∀ i, i < sz.lanes → IsScaledConverted mode scale.toNat (s.sOperand op sz (some (sz, vd)) vs i) (d i) := by
    obtain ⟨t, ht, hd⟩ := vectorEndMasked_spec sz vd (fun i => f2iv mode scale.toNat (s.sOperand op sz (some (sz, vd)) vs i)) s
    exact ⟨t, _, ht, hd, fun i _ => f2iv_isScaledConverted _ _ _⟩
  exact ⟨ends .vf2in _, ends .vf2iz _, ends .vf2iu _, ends .vf2id _⟩

/-! ### Integers to floats, and conditional moves (R529 to R531) -/

theorem cmovLane_six (cc : Word) (want : Bool) (i : Nat) : cmovLane cc 6#3 want i = true ↔ cc.getLsbD i = want := beq_iff_eq

theorem cmovLane_of_lt {imm3 : BitVec 3} (h : imm3.toNat < 6) (cc : Word) (want : Bool) (i : Nat) :
    cmovLane cc imm3 want i = true ↔ cc.getLsbD imm3.toNat = want := by
  rw [cmovLane, if_neg (by rintro rfl; exact absurd h (by decide)), beq_iff_eq]

/-- A conditional move of the lanes `c`, under a CC bit that the rules give a meaning to. -/
theorem condMove_spec {op : VfpuOp} {want : Bool} {vd vs : VReg} {imm3 : BitVec 3} {sz : Size} {s : State} {c : Nat → Prop}
    [DecidablePred c] (h : imm3 ≠ 7#3) (hc : ∀ i, cmovLane (s.vc CReg.cc) imm3 want i = true ↔ c i) :
    ∃ t, condMove op want vd vs imm3 sz s = .next t ∧ VectorDone sz vd (s.applyD op sz fun i =>
      if c i then s.sOperand op sz (some (sz, vd)) vs i else s.tOperand op sz (some (sz, vd)) vd i) s t := by
  simp only [← hc]
  rw [condMove, if_neg h]
  exact vectorEnd_spec op sz sz vd _ s

/-- Settles O43: `vi2f` rounds the scaled integer (`ofScaledInt_isNearest`), and a move takes the lanes of its CC bits (`condMove_spec`). -/
theorem integerToFloatAndMoves : Obligations.IntegerToFloatAndMoves := by
  unfold Obligations.IntegerToFloatAndMoves
  intro s vd vs imm3 scale sz
  have below (h : imm3.toNat < 6) : imm3 ≠ 7#3 := by
    rintro rfl
    exact absurd h (by decide)
  refine ⟨vectorEnd_known .vi2f sz sz vd s fun i _ => ?nearest, fun h => condMove_spec (below h) (cmovLane_of_lt h _ true),
    condMove_spec (by decide) (cmovLane_six _ true), rfl, fun h => condMove_spec (below h) (cmovLane_of_lt h _ false),
    condMove_spec (by decide) (cmovLane_six _ false), rfl⟩
  case nearest =>
    have h := ofScaledInt_isNearest (s.sOperand .vi2f sz (some (sz, vd)) vs i).toInt (-(scale.toNat : Int))
    rwa [zpow_neg, zpow_natCast, ← div_eq_mul_inv] at h

end Sys2Proof.Machine
end

section
/-! PROOF. VFPU unpacking (46_vfpu_vector.md R512 and R515 to R518): a conversion takes only the
mask (`sized_vectorConvert`), and a field of a word, or fields joined, are their numbers. -/

namespace Sys2Proof.Machine

open Sys2Proof

/-- A conversion at a size that its rule lists, whose lanes are those of the rule. -/
theorem sized_vectorConvert {ok : Bool} (hok : ok = true) {f : Lanes → Lanes} {d : Lanes} (op : VfpuOp) (sz out : Size) (vd vs : VReg)
    (s : State) (h : ∀ i, f (s.sOperand op sz (some (sz, vd)) vs) i = d i) :
    ∃ t, sized ok (vectorConvert op sz out vd vs f s) = .next t ∧ VectorDone out vd d s t := by
  obtain rfl : f (s.sOperand op sz (some (sz, vd)) vs) = d := funext h
  rw [sized_true _ hok]
  exact vectorEndMasked_spec out vd _ s

/-! ### Fields as numbers -/

theorem extractLsb'_toNat_eq (w : Word) (lo n : Nat) : (w.extractLsb' lo n).toNat = w.toNat / 2 ^ lo % 2 ^ n := by
  rw [BitVec.extractLsb'_toNat, Nat.shiftRight_eq_div_pow]

theorem append_toNat_eq {n m : Nat} (x : BitVec n) (y : BitVec m) : (x ++ y).toNat = x.toNat * 2 ^ m + y.toNat := by
  rw [BitVec.toNat_append, ← Nat.shiftLeft_add_eq_or_of_lt y.isLt, Nat.shiftLeft_eq]

theorem eq_ofNat_of_toNat_eq {w : Word} {n : Nat} (h : w.toNat = n) : w = BitVec.ofNat 32 n := by
  rw [← h, BitVec.ofNat_toNat, BitVec.setWidth_eq]

/-! ### Unpacking (R512, R515 to R518) -/

section
variable (w : Word)

theorem byteOf_toNat (i : Nat) : (byteOf w i).toNat = w.toNat / 2 ^ (8 * i) % 2 ^ 8 := by
  rw [byteOf, BitVec.toNat_setWidth, extractLsb'_toNat_eq]
  exact Nat.mod_eq_of_lt ((Nat.mod_lt _ (by decide)).trans (by decide))

/-- A byte spread over 31 bits (R515). -/
theorem byteOf_spread (i : Nat) :
    (byteOf w i * 0x01010101#32) >>> 1 = BitVec.ofNat 32 (w.toNat / 2 ^ (8 * i) % 2 ^ 8 * 0x01010101 / 2) := by
  have hlt := Nat.mod_lt (w.toNat / 2 ^ (8 * i)) (show 0 < 2 ^ 8 by decide)
  rw [ushiftRight_eq_ofNat, BitVec.toNat_mul, byteOf_toNat]
  generalize w.toNat / 2 ^ (8 * i) % 2 ^ 8 = b at *
  rw [show (0x01010101#32).toNat = 0x01010101 from rfl, Nat.mod_eq_of_lt (by omega), pow_one]

theorem byteOf_shiftLeft (i : Nat) : byteOf w i <<< 24 = BitVec.ofNat 32 (w.toNat / 2 ^ (8 * i) % 2 ^ 8 * 2 ^ 24) := by
  rw [shiftLeft_eq_ofNat, byteOf_toNat]

theorem lowHalf_shiftLeft (k : Nat) : (lowHalf w).setWidth 32 <<< k = BitVec.ofNat 32 (w.toNat % 2 ^ 16 * 2 ^ k) := by
  rw [shiftLeft_eq_ofNat, BitVec.toNat_setWidth, lowHalf, extractLsb'_toNat_eq]
  congr 2
  omega

theorem and_highMask_eq : w &&& 0xFFFF0000#32 = w >>> 16 <<< 16 := by
  have hmask : ∀ j, j < 32 → (0xFFFF0000#32).getLsbD j = !decide (j < 16) := by decide
  apply BitVec.eq_of_getLsbD_eq
  intro j hj
  rw [BitVec.getLsbD_and, hmask j hj, BitVec.getLsbD_shiftLeft, BitVec.getLsbD_ushiftRight, decide_eq_true hj, Bool.true_and, Bool.and_comm]
  by_cases h : j < 16
  · simp [h]
  · rw [Nat.add_sub_of_le (Nat.not_lt.1 h)]

theorem and_highMask_toNat : (w &&& 0xFFFF0000#32).toNat = w.toNat / 2 ^ 16 * 2 ^ 16 := by
  have hlt := w.isLt
  rw [and_highMask_eq, BitVec.toNat_shiftLeft, BitVec.toNat_ushiftRight, Nat.shiftLeft_eq, Nat.shiftRight_eq_div_pow]
  omega

theorem and_highMask_ushiftRight : (w &&& 0xFFFF0000#32) >>> 1 = BitVec.ofNat 32 (w.toNat / 2 ^ 16 * 2 ^ 15) := by
  rw [ushiftRight_eq_ofNat, and_highMask_toNat]
  congr 1
  omega

/-- The half of a word that a lane of `vh2f` widens. -/
theorem h2f_half_isHalfWidened (i : Nat) :
    IsHalfWidened (w.extractLsb' (16 * (i % 2)) 16) (if i % 2 = 0 then h2f (lowHalf w) else h2f (highHalf w)) := by
  obtain h | h := Nat.mod_two_eq_zero_or_one i
  · rw [h, if_pos rfl, Nat.mul_zero, ← lowHalf]
    exact h2f_isHalfWidened _
  · rw [h, if_neg one_ne_zero, Nat.mul_one, ← highHalf]
    exact h2f_isHalfWidened _

end

theorem vectorEnd_widened (sz out : Size) (vd : VReg) (a : Lanes) (s : State) : ∃ t d,
    vectorEnd .vh2f sz out vd (fun i => if i % 2 = 0 then h2f (lowHalf (a (i / 2))) else h2f (highHalf (a (i / 2)))) s = .next t ∧
      (∀ i, i < out.lanes → IsHalfWidened ((a (i / 2)).extractLsb' (16 * (i % 2)) 16) (d i)) ∧
      VectorDone out vd (s.applyD .vh2f sz d) s t := by
  obtain ⟨t, ht, hd⟩ := vectorEnd_spec .vh2f sz out vd _ s
  exact ⟨t, _, ht, fun i _ => h2f_half_isHalfWidened _ i, hd⟩

/-- Settles O40: each lane is the piece of the operand that its rule places (`byteOf_spread` to `and_highMask_ushiftRight`), or a half-float
widened (`vectorEnd_widened`). -/
theorem unpackingConversions : Obligations.UnpackingConversions := by
  unfold Obligations.UnpackingConversions
  intro s vd vs
  simp only [exec, execVuc2i, execVc2i, execVus2i, execVs2i]
  refine ⟨?single, ?pair, ?vuc2i, ?vc2i, ?vus2i, ?vus2iPair, ?vs2i, ?vs2iPair⟩ <;> rintro a rfl
  case single => exact vectorEnd_widened .single .pair vd _ s
  case pair => exact vectorEnd_widened .pair .quad vd _ s
  case vuc2i => exact sized_vectorConvert rfl .vuc2i .single .quad vd vs s fun i => byteOf_spread _ i
  case vc2i => exact sized_vectorConvert rfl .vc2i .single .quad vd vs s fun i => byteOf_shiftLeft _ i
  case vus2i | vus2iPair =>
    exact sized_vectorConvert rfl .vus2i _ _ vd vs s fun i =>
      ite_congr rfl (fun _ => lowHalf_shiftLeft _ _) fun _ => and_highMask_ushiftRight _
  case vs2i | vs2iPair =>
    exact sized_vectorConvert rfl .vs2i _ _ vd vs s fun i =>
      ite_congr rfl (fun _ => lowHalf_shiftLeft _ _) fun _ => eq_ofNat_of_toNat_eq (and_highMask_toNat _)

end Sys2Proof.Machine
end

section
/-! PROOF. binary16 (45_vfpu_engine.md R458): `f2h` rounds to the nearest half-float, as `roundFloat` does to the nearest pattern of 32
bits. The magnitude that `roundMagnitude` gives is some units of a binade (`RoundsTo`), and a half-float outside the binade is further away. -/

namespace Sys2Proof.Machine

open Sys2Proof

/-! ### Units of a binade, in any format -/

section
variable {fmt : FloatFormat} {y : ℝ} {k r : Nat} (h : RoundsTo fmt y k r)
include h

theorem RoundsTo.exists_units_of_format : ∃ x, y = x * 2 ^ ((k : Int) + fmt.qmin) ∧ RoundsEven x r ∧
    (k = 0 ∨ 2 ^ (fmt.prec - 1) ≤ x) ∧ x < 2 ^ fmt.prec :=
  ⟨_, (div_mul_cancel₀ y (zpow_ne_zero _ two_ne_zero)).symm, h.rounds, h.normal, h.fits⟩

theorem RoundsTo.units_le : r ≤ 2 ^ fmt.prec := by
  obtain ⟨x, -, ⟨hclose, -⟩, -, hx⟩ := h.exists_units_of_format
  rw [Int.cast_natCast, abs_le] at hclose
  have hlt : (r : ℝ) < 2 ^ fmt.prec + 1 := by linarith [hclose.1]
  have hlt : r < 2 ^ fmt.prec + 1 := by exact_mod_cast hlt
  omega

theorem RoundsTo.le_units (hk : k ≠ 0) : 2 ^ (fmt.prec - 1) ≤ r := by
  obtain ⟨x, -, ⟨hclose, -⟩, hx, -⟩ := h.exists_units_of_format
  rw [Int.cast_natCast, abs_le] at hclose
  have hlt : (2 ^ (fmt.prec - 1) : ℝ) < r + 1 := by linarith [hclose.2, hx.resolve_left hk]
  have hlt : 2 ^ (fmt.prec - 1) < r + 1 := by exact_mod_cast hlt
  omega

end

/-- In units of the binade `k`, whose unit is 2^(k + qmin), a value of the format is an integer, unless it lies below the binade. -/
def InUnits (fmt : FloatFormat) (k : Nat) (z : ℝ) : Prop :=
  (∃ i : Int, z = i * 2 ^ ((k : Int) + fmt.qmin)) ∨ k ≠ 0 ∧ z < 2 ^ (fmt.prec - 1) * 2 ^ ((k : Int) + fmt.qmin)

/-- A signed integer of the format's precision in units of some binade. -/
theorem inUnits_of_units {fmt : FloatFormat} (hp : 0 < fmt.prec) {m j : Nat} (hm : m < 2 ^ fmt.prec) {σ : ℝ} (hσ : σ = 1 ∨ σ = -1)
    (k : Nat) : InUnits fmt k (σ * (m * 2 ^ ((j : Int) + fmt.qmin))) := by
  obtain ⟨s, hs, hle⟩ : ∃ s : Int, σ = s ∧ σ ≤ 1 := by
    obtain rfl | rfl := hσ
    · exact ⟨1, by norm_num, le_rfl⟩
    · exact ⟨-1, by norm_num, by norm_num⟩
  obtain h | h := le_or_gt k j
  case inl =>
    refine .inl ⟨s * (m * 2 ^ (j - k)), ?_⟩
    rw [show (j : Int) + fmt.qmin = (j - k : Nat) + ((k : Int) + fmt.qmin) by omega, zpow_add₀ two_ne_zero, zpow_natCast, hs]
    push_cast
    ring
  case inr =>
    refine .inr ⟨by omega, ?_⟩
    have hm' : (m : ℝ) < 2 ^ fmt.prec := by exact_mod_cast hm
    calc σ * (m * 2 ^ ((j : Int) + fmt.qmin)) ≤ 1 * (m * 2 ^ ((j : Int) + fmt.qmin)) := by gcongr
      _ < 2 ^ fmt.prec * 2 ^ ((j : Int) + fmt.qmin) := by rw [one_mul]; gcongr
      _ = 2 ^ (fmt.prec - 1) * 2 ^ ((j : Int) + 1 + fmt.qmin) := by
        rw [show (j : Int) + 1 + fmt.qmin = j + fmt.qmin + 1 by ring, zpow_add_one₀ two_ne_zero, ← Nat.sub_add_cancel hp,
          Nat.add_sub_cancel, pow_succ]
        ring
      _ ≤ 2 ^ (fmt.prec - 1) * 2 ^ ((k : Int) + fmt.qmin) := by gcongr; exact one_le_two; omega

/-- No value of the format is closer to `y` than the units to which it rounds. -/
theorem RoundsTo.nearest {fmt : FloatFormat} {y z : ℝ} {k r : Nat} (h : RoundsTo fmt y k r) (hz : InUnits fmt k z) :
    |r * 2 ^ ((k : Int) + fmt.qmin) - y| ≤ |z - y| ∧
      (|r * 2 ^ ((k : Int) + fmt.qmin) - y| = |z - y| → z = r * 2 ^ ((k : Int) + fmt.qmin) ∨ r % 2 = 0) := by
  obtain ⟨x, rfl, hx, hnormal, -⟩ := h.exists_units_of_format
  have hpos : (0 : ℝ) < 2 ^ ((k : Int) + fmt.qmin) := by positivity
  rw [← Int.cast_natCast r]
  obtain ⟨i, rfl⟩ | ⟨hk, hz⟩ := hz
  case inl =>
    obtain ⟨hclose, htie⟩ := hx.nearest i
    rw [← sub_mul, ← sub_mul, abs_mul, abs_mul, mul_left_inj' hpos.ne', mul_left_inj' (abs_pos.2 hpos.ne').ne', Int.cast_inj]
    exact ⟨mul_le_mul_of_nonneg_right hclose (abs_nonneg _), fun he => (htie he).imp_right (by omega)⟩
  case inr =>
    have hcloser : |(r : Int) * 2 ^ ((k : Int) + fmt.qmin) - x * 2 ^ ((k : Int) + fmt.qmin)| < |z - x * 2 ^ ((k : Int) + fmt.qmin)| := by
      have hleast := (hx.nearest (2 ^ (fmt.prec - 1))).1
      push_cast at hleast
      have hxk := hnormal.resolve_left hk
      rw [abs_sub_comm (2 ^ (fmt.prec - 1) : ℝ), abs_of_nonneg (sub_nonneg.2 hxk)] at hleast
      rw [← sub_mul, abs_mul, abs_of_pos hpos, abs_sub_comm z, abs_of_nonneg (a := x * _ - z) (by nlinarith)]
      push_cast
      nlinarith
    exact ⟨hcloser.le, fun he => absurd he hcloser.ne⟩

/-- Rounding reaches the magnitude of the binade after `K + 1` from the value that ties with it on. -/
theorem RoundsTo.reaches_iff {fmt : FloatFormat} (hp : 0 < fmt.prec) {y : ℝ} {k r : Nat} (h : RoundsTo fmt y k r) (K : Nat) :
    (K + 2) * 2 ^ (fmt.prec - 1) ≤ k * 2 ^ (fmt.prec - 1) + r ↔ (2 ^ fmt.prec - 1 / 2) * 2 ^ ((K : Int) + fmt.qmin) ≤ y := by
  have hle := h.units_le
  have hge := h.le_units
  obtain ⟨x, rfl, ⟨hclose, htie⟩, hnormal, hfits⟩ := h.exists_units_of_format
  obtain ⟨P, hP⟩ : ∃ P, 2 ^ (fmt.prec - 1) = P := ⟨_, rfl⟩
  have hprec : 2 ^ fmt.prec = 2 * P := by rw [← hP, ← pow_succ', Nat.sub_add_cancel hp]
  have hone : 1 ≤ P := hP ▸ Nat.one_le_two_pow
  have hone' : (1 : ℝ) ≤ P := by exact_mod_cast hone
  rw [hP] at hge ⊢
  rw [hprec] at hle
  rw [show (2 : ℝ) ^ (fmt.prec - 1) = P by exact_mod_cast hP] at hnormal
  rw [show (2 : ℝ) ^ fmt.prec = 2 * P by exact_mod_cast hprec] at hfits ⊢
  obtain hk | rfl | hk := lt_trichotomy k K
  case inl =>
    have hn : (k + 1) * P ≤ K * P := Nat.mul_le_mul_right P hk
    refine iff_of_false (by nlinarith) (not_le.2 ?_)
    calc x * 2 ^ ((k : Int) + fmt.qmin) < 2 * P * 2 ^ ((k : Int) + fmt.qmin) := by gcongr
      _ = P * 2 ^ ((k : Int) + fmt.qmin + 1) := by rw [zpow_add_one₀ two_ne_zero]; ring
      _ ≤ P * 2 ^ ((K : Int) + fmt.qmin) := by gcongr ?_ * ?_; exact zpow_le_zpow_right₀ one_le_two (by omega)
      _ ≤ (2 * P - 1 / 2) * 2 ^ ((K : Int) + fmt.qmin) := by gcongr; linarith
  case inr.inl =>
    rw [mul_le_mul_iff_left₀ (by positivity), Nat.add_mul, Nat.add_le_add_iff_left]
    rw [Int.cast_natCast] at hclose htie
    obtain ⟨hlo, hhi⟩ := abs_le.1 hclose
    constructor
    · intro hr
      have hr : (2 * P : ℝ) ≤ r := by exact_mod_cast hr
      linarith
    · intro hx
      by_contra hr
      have hr : r + 1 ≤ 2 * P := by omega
      have hr' : (r : ℝ) + 1 ≤ 2 * P := by exact_mod_cast hr
      have hlast : (2 * P : ℝ) ≤ r + 1 := by linarith
      have hlast : 2 * P ≤ r + 1 := by exact_mod_cast hlast
      have := htie (by rw [abs_of_nonneg] <;> linarith)
      omega
  case inr.inr =>
    have hn : (K + 1) * P ≤ k * P := Nat.mul_le_mul_right P hk
    have hr := hge (by omega)
    refine iff_of_true (by nlinarith) ?_
    calc ((2 * P - 1 / 2 : ℝ)) * 2 ^ ((K : Int) + fmt.qmin) ≤ P * 2 ^ ((K : Int) + fmt.qmin + 1) := by
          rw [zpow_add_one₀ two_ne_zero]
          nlinarith [zpow_pos (two_pos (α := ℝ)) ((K : Int) + fmt.qmin)]
      _ ≤ P * 2 ^ ((k : Int) + fmt.qmin) := by gcongr ?_ * ?_; exact zpow_le_zpow_right₀ one_le_two (by omega)
      _ ≤ x * 2 ^ ((k : Int) + fmt.qmin) := by gcongr; exact hnormal.resolve_left (by omega)

/-! ### Half-floats -/

/-- The 15 bits below the sign. -/
def halfMagnitude (h : Half) : Nat := (h.extractLsb' 0 15).toNat

/-- The half-float of a sign and a magnitude. -/
def ofHalfMagnitude (neg : Bool) (n : Nat) : Half := (if neg then 0x8000#16 else 0#16) ||| BitVec.ofNat 16 n

theorem halfExp_eq (h : Half) : halfExp h = halfMagnitude h / 2 ^ 10 := by
  simp only [halfExp, halfMagnitude, BitVec.extractLsb'_toNat, Nat.shiftRight_eq_div_pow]
  omega

theorem halfMan_eq (h : Half) : halfMan h = halfMagnitude h % 2 ^ 10 := by
  simp only [halfMan, halfMagnitude, BitVec.extractLsb'_toNat, Nat.shiftRight_eq_div_pow]
  omega

theorem sign_ofHalfMagnitude {n : Nat} (neg : Bool) (h : n < 2 ^ 15) : (ofHalfMagnitude neg n).getLsbD 15 = neg := by
  rw [ofHalfMagnitude, BitVec.getLsbD_or, BitVec.getLsbD_ofNat, Nat.testBit_lt_two_pow h]
  cases neg <;> rfl

theorem halfMagnitude_ofHalfMagnitude {n : Nat} (neg : Bool) (h : n < 2 ^ 15) : halfMagnitude (ofHalfMagnitude neg n) = n := by
  have hs : (if neg then 0x8000#16 else 0#16).extractLsb' 0 15 = 0#15 := by cases neg <;> rfl
  rw [halfMagnitude, ofHalfMagnitude, BitVec.extractLsb'_or, hs, BitVec.zero_or, BitVec.extractLsb'_toNat, BitVec.toNat_ofNat,
    Nat.shiftRight_zero]
  omega

/-- The value of a magnitude in units of its binade; the units may fill the 11 bits. -/
theorem halfValue_units {h : Half} {k r : Nat} (hn : halfMagnitude h = k * 2 ^ 10 + r) (hr : r ≤ 2 ^ 11) (hk : k = 0 ∨ 2 ^ 10 ≤ r) :
    halfValue h = (if h.getLsbD 15 then -1 else 1) * (r * 2 ^ ((k : Int) - 24)) := by
  rw [halfValue, halfExp_eq, halfMan_eq, hn]
  congr 1
  obtain hfull | hfull := hr.eq_or_lt
  case inl =>
    rw [show (k * 2 ^ 10 + r) / 2 ^ 10 = k + 2 by omega, show (k * 2 ^ 10 + r) % 2 ^ 10 = 0 by omega, if_neg (by omega), hfull,
      show (((k + 2 : Nat) : Int) - 15) = 11 + (k - 24) by omega, zpow_add₀ two_ne_zero]
    norm_num
  case inr =>
    by_cases hsub : r < 2 ^ 10
    case pos =>
      obtain rfl : k = 0 := by omega
      rw [show (0 * 2 ^ 10 + r) / 2 ^ 10 = 0 by omega, show (0 * 2 ^ 10 + r) % 2 ^ 10 = r by omega, if_pos rfl, div_eq_mul_inv]
      norm_num
    case neg =>
      obtain ⟨f, rfl⟩ : ∃ f, r = 2 ^ 10 + f := ⟨r - 2 ^ 10, by omega⟩
      rw [show (k * 2 ^ 10 + (2 ^ 10 + f)) / 2 ^ 10 = k + 1 by omega, show (k * 2 ^ 10 + (2 ^ 10 + f)) % 2 ^ 10 = f by omega,
        if_neg (by omega), show (((k + 1 : Nat) : Int) - 15) = 10 + (k - 24) by omega, zpow_add₀ two_ne_zero]
      push_cast
      field_simp
      norm_num
      ring

theorem halfValue_inUnits (g : Half) (k : Nat) {σ : ℝ} (hσ : σ = 1 ∨ σ = -1) : InUnits binary16 k (σ * halfValue g) := by
  obtain ⟨j, r, hn, hr, hj⟩ : ∃ j r, halfMagnitude g = j * 2 ^ 10 + r ∧ r < 2 ^ 11 ∧ (j = 0 ∨ 2 ^ 10 ≤ r) :=
    ⟨halfMagnitude g / 2 ^ 10 - 1, halfMagnitude g - (halfMagnitude g / 2 ^ 10 - 1) * 2 ^ 10, by omega, by omega, by omega⟩
  rw [halfValue_units hn hr.le hj]
  push_cast
  rw [← mul_assoc]
  refine inUnits_of_units (by decide) hr ?_ k
  obtain rfl | rfl := hσ <;> cases g.getLsbD 15 <;> simp

/-! ### Narrowing (R458, R511) -/

/-- The sign of a pattern, as a number. -/
def signOf (neg : Bool) : ℝ := if neg then -1 else 1

theorem signOf_eq (neg : Bool) : signOf neg = 1 ∨ signOf neg = -1 := by cases neg <;> simp [signOf]

theorem signOf_mul_self (neg : Bool) (x : ℝ) : signOf neg * (signOf neg * x) = x := by cases neg <;> simp [signOf]

theorem abs_signOf_mul_sub (neg : Bool) (x y : ℝ) : |signOf neg * x - signOf neg * y| = |x - y| := by
  rw [← mul_sub, abs_mul]
  cases neg <;> simp [signOf]

theorem fValue_eq_signOf (p : Word) : (fValue p : ℝ) = signOf (fNeg p) * (fMant p * 2 ^ fPow p) := by
  rw [fValue, signOf, mul_assoc]
  cases fNeg p <;> simp

/-- No half-float is closer to a value than the one of its sign and of the magnitude to which it rounds. -/
theorem RoundsTo.nearest_half {p : Word} {k r : Nat} (hr : RoundsTo binary16 (fMant p * 2 ^ fPow p) k r) {h : Half}
    (hs : h.getLsbD 15 = fNeg p) (hn : halfMagnitude h = k * 2 ^ 10 + r) (g : Half) :
    |halfValue h - fValue p| ≤ |halfValue g - fValue p| ∧
      (|halfValue h - fValue p| = |halfValue g - fValue p| → halfValue g = halfValue h ∨ halfMan h % 2 = 0) := by
  have hval : (halfValue h : ℝ) = signOf (fNeg p) * (r * 2 ^ ((k : Int) - 24)) := by
    rw [halfValue_units hn hr.units_le (or_iff_not_imp_left.2 hr.le_units), hs, signOf]
    cases fNeg p <;> simp
  obtain ⟨hclose, htie⟩ := hr.nearest (halfValue_inUnits g k (signOf_eq (fNeg p)))
  have heven : halfMan h % 2 = r % 2 := by
    rw [halfMan_eq, hn]
    omega
  have hreal : |(halfValue h : ℝ) - fValue p| ≤ |(halfValue g : ℝ) - fValue p| ∧
      (|(halfValue h : ℝ) - fValue p| = |(halfValue g : ℝ) - fValue p| →
        (halfValue g : ℝ) = halfValue h ∨ halfMan h % 2 = 0) := by
    rw [← signOf_mul_self (fNeg p) (halfValue g), hval, fValue_eq_signOf, abs_signOf_mul_sub, abs_signOf_mul_sub, heven]
    exact ⟨hclose, fun he => (htie he).imp_left fun hz => by rw [hz]; rfl⟩
  exact_mod_cast hreal

/-- The magnitude to which `f2h` rounds. -/
def narrowedMagnitude (p : Word) : Nat := if isInf p then 0x7C00 else roundMagnitude binary16 (fMant p) (fPow p)

theorem f2h_eq {p : Word} (h : isNaN p = false) (free : Half) : f2h free p = ofHalfMagnitude (fNeg p) (narrowedMagnitude p) := by
  rw [f2h, h, if_neg Bool.false_ne_true, ofHalfMagnitude, narrowedMagnitude]
  cases isInf p <;> rfl

theorem halfNaNOf_isNaN (free : Half) : halfExp (halfNaNOf free) = 31 ∧ halfMan (halfNaNOf free) ≠ 0 := by
  rw [halfNaNOf]
  split
  case isTrue h =>
    rw [Bool.and_eq_true, beq_iff_eq, bne_iff_ne] at h
    exact ⟨congrArg BitVec.toNat h.1, fun h0 => h.2 (BitVec.eq_of_toNat_eq h0)⟩
  case isFalse =>
    rw [halfExp, halfMan, BitVec.extractLsb'_or, BitVec.extractLsb'_or, show (0x7C01#16).extractLsb' 10 5 = BitVec.allOnes 5 from rfl,
      show (0x7C01#16).extractLsb' 0 10 = 1#10 from rfl, BitVec.or_allOnes]
    refine ⟨rfl, fun h0 => ?_⟩
    have hbit := congrArg (fun n => n.testBit 0) h0
    simp [BitVec.toNat_or] at hbit

/-- Where a value narrows to infinity, and how it rounds below the threshold. -/
theorem narrowedMagnitude_spec (p : Word) :
    if isInf p = true ∨ 2 ^ 16 - 2 ^ 4 ≤ |fValue p| then narrowedMagnitude p = 0x7C00
    else ∃ k r, narrowedMagnitude p = k * 2 ^ 10 + r ∧ k * 2 ^ 10 + r < 0x7C00 ∧ RoundsTo binary16 (fMant p * 2 ^ fPow p) k r := by
  obtain ⟨k, r, heq, hr⟩ := roundMagnitude_roundsTo (fmt := binary16) (by decide) (fMant p) (fPow p)
  have habs : |(fValue p : ℝ)| = fMant p * 2 ^ fPow p := by
    rw [fValue_eq_signOf, abs_mul, abs_of_nonneg (a := (fMant p : ℝ) * 2 ^ fPow p) (by positivity)]
    cases fNeg p <;> simp [signOf]
  have hover : 0x7C00 ≤ k * 2 ^ 10 + r ↔ 2 ^ 16 - 2 ^ 4 ≤ |fValue p| := by
    have h := hr.reaches_iff (by decide) 29
    rw [← habs] at h
    norm_num at h ⊢
    exact_mod_cast h
  simp only [narrowedMagnitude, heq, ← hover]
  cases isInf p with
  | true => simp
  | false =>
    simp only [Bool.false_eq_true, false_or, if_false]
    split
    case isTrue h => exact min_eq_right h
    case isFalse h => exact ⟨k, r, min_eq_left (not_le.1 h).le, not_le.1 h, hr⟩

theorem f2h_isHalfNarrowed (free : Half) (p : Word) : IsHalfNarrowed p (f2h free p) := by
  rw [IsHalfNarrowed]
  cases hnan : isNaN p with
  | true =>
    rw [if_pos rfl, f2h, hnan, if_pos rfl]
    exact halfNaNOf_isNaN free
  | false =>
    have hspec := narrowedMagnitude_spec p
    rw [if_neg Bool.false_ne_true, f2h_eq hnan]
    generalize narrowedMagnitude p = n at *
    split at hspec
    case isTrue hinf =>
      subst hspec
      rw [if_pos hinf, halfExp_eq, halfMan_eq, halfMagnitude_ofHalfMagnitude _ (by decide), sign_ofHalfMagnitude _ (by decide)]
      exact ⟨rfl, by decide, by decide⟩
    case isFalse hfin =>
      obtain ⟨k, r, rfl, hlt, hr⟩ := hspec
      have hmag := halfMagnitude_ofHalfMagnitude (fNeg p) (show k * 2 ^ 10 + r < 2 ^ 15 by omega)
      have hsign := sign_ofHalfMagnitude (fNeg p) (show k * 2 ^ 10 + r < 2 ^ 15 by omega)
      rw [if_neg hfin, halfExp_eq, hmag]
      exact ⟨hsign, by omega, fun g _ => hr.nearest_half hsign hmag g⟩

end Sys2Proof.Machine
end

section
/-! PROOF. VFPU packing (46_vfpu_vector.md R511, R519 to R522; 47_vfpu_matrix_misc.md R572 to R574): the parts that are joined are numbers
below a power of two, so the word that they make is their sum in place (`packBytes_eq`, `packHalves_eq`). -/

namespace Sys2Proof.Machine

open Sys2Proof

/-! ### Parts joined -/

theorem packHalves_eq (lo hi : Half) : packHalves lo hi = BitVec.ofNat 32 (lo.toNat + hi.toNat * 2 ^ 16) :=
  eq_ofNat_of_toNat_eq (by rw [packHalves, append_toNat_eq, Nat.add_comm])

theorem packBytes_eq (b0 b1 b2 b3 : Byte) : packBytes b0 b1 b2 b3 =
    BitVec.ofNat 32 (b0.toNat * 2 ^ 0 + b1.toNat * 2 ^ 8 + b2.toNat * 2 ^ 16 + b3.toNat * 2 ^ 24) := by
  refine eq_ofNat_of_toNat_eq ?_
  rw [packBytes, append_toNat_eq, append_toNat_eq, append_toNat_eq]
  ring

/-! ### The parts (R519 to R522, R572 to R574) -/

section
variable (w : Word)

theorem slt_zero_iff : w.slt 0#32 = true ↔ w.toInt < 0 := by rw [BitVec.slt_iff_toInt_lt, BitVec.toInt_zero]

theorem clampByte_toNat : (clampByte w).toNat = if w.toInt < 0 then 0 else w.toNat / 2 ^ 23 % 2 ^ 8 := by
  simp only [clampByte, slt_zero_iff]
  split
  · rfl
  · exact extractLsb'_toNat_eq w 23 8

theorem clampHalf_toNat : (clampHalf w).toNat = if w.toInt < 0 then 0 else w.toNat / 2 ^ 15 % 2 ^ 16 := by
  simp only [clampHalf, slt_zero_iff]
  split
  · rfl
  · exact extractLsb'_toNat_eq w 15 16

theorem topByte_toNat : (topByte w).toNat = w.toNat / 2 ^ 24 := by
  have := w.isLt
  rw [topByte, extractLsb'_toNat_eq]
  omega

theorem highHalf_toNat : (highHalf w).toNat = w.toNat / 2 ^ 16 := by
  have := w.isLt
  rw [highHalf, extractLsb'_toNat_eq]
  omega

theorem color4444_toNat : (color4444 w).toNat = w.toNat / 2 ^ 28 % 16 * 2 ^ 12 + w.toNat / 2 ^ 20 % 16 * 2 ^ 8 +
    w.toNat / 2 ^ 12 % 16 * 2 ^ 4 + w.toNat / 2 ^ 4 % 16 := by
  simp only [color4444, append_toNat_eq, extractLsb'_toNat_eq]
  omega

theorem color5551_toNat : (color5551 w).toNat = w.toNat / 2 ^ 31 % 2 * 2 ^ 15 + w.toNat / 2 ^ 19 % 32 * 2 ^ 10 +
    w.toNat / 2 ^ 11 % 32 * 2 ^ 5 + w.toNat / 2 ^ 3 % 32 := by
  simp only [color5551, append_toNat_eq, extractLsb'_toNat_eq]
  omega

theorem color5650_toNat : (color5650 w).toNat = w.toNat / 2 ^ 19 % 32 * 2 ^ 11 + w.toNat / 2 ^ 10 % 64 * 2 ^ 5 + w.toNat / 2 ^ 3 % 32 := by
  simp only [color5650, append_toNat_eq, extractLsb'_toNat_eq]
  omega

end

/-! ### The instructions -/

/-- `vf2h` joins two half-floats a lane, a NaN drawn (R511). -/
theorem sized_narrowed {ok : Bool} (hok : ok = true) (sz out : Size) (vd vs : VReg) (s : State) : ∃ t d,
    sized ok (vectorConvert .vf2h sz out vd vs (fun a j => packHalves (f2h (lowHalf (s.free (laneDraws + j))) (a (2 * j)))
      (f2h (highHalf (s.free (laneDraws + j))) (a (2 * j + 1)))) s) = .next t ∧ VectorDone out vd d s t ∧
      ∀ j, j < out.lanes → ∃ x y : Half, d j = y ++ x ∧ IsHalfNarrowed (s.sOperand .vf2h sz (some (sz, vd)) vs (2 * j)) x ∧
        IsHalfNarrowed (s.sOperand .vf2h sz (some (sz, vd)) vs (2 * j + 1)) y := by
  obtain ⟨t, ht, hd⟩ := sized_vectorConvert hok .vf2h sz out vd vs s fun _ => rfl
  exact ⟨t, _, ht, hd, fun j _ => ⟨_, _, rfl, f2h_isHalfNarrowed _ _, f2h_isHalfNarrowed _ _⟩⟩

/-- A colour conversion whose colours are reduced as its rule says (R572 to R574). -/
theorem colorOp_spec {c : Word → Half} {n : Word → Nat} (h : ∀ w, (c w).toNat = n w) (op : VfpuOp) (vd vs : VReg) (s : State) :
    ∃ t, colorOp op .quad vd vs c s = .next t ∧ VectorDone .pair vd (fun j => BitVec.ofNat 32
      (n (s.sOperand op .quad (some (.quad, vd)) vs (2 * j)) + n (s.sOperand op .quad (some (.quad, vd)) vs (2 * j + 1)) * 2 ^ 16)) s t :=
  sized_vectorConvert rfl op .quad .pair vd vs s fun j => by rw [packHalves_eq, h, h]

/-- Settles O41: each lane joins its parts (`packBytes_eq`, `packHalves_eq`, `colorOp_spec`), or half-floats narrowed (`sized_narrowed`). -/
theorem packingConversions : Obligations.PackingConversions := by
  unfold Obligations.PackingConversions
  intro s vd vs
  simp only [exec, execVf2h, execVi2uc, execVi2c, execVi2us, execVi2s]
  refine ⟨?vf2h, ?vf2hQuad, ?vi2uc, ?vi2c, ?vi2us, ?vi2usQuad, ?vi2s, ?vi2sQuad, ?vt4444, ?vt5551, ?vt5650⟩ <;> intro a
  case vf2h =>
    rintro rfl
    exact sized_narrowed rfl .pair .single vd vs s
  case vf2hQuad =>
    rintro rfl
    exact sized_narrowed rfl .quad .pair vd vs s
  case vi2uc =>
    rintro rfl
    exact sized_vectorConvert rfl .vi2uc .quad .single vd vs s fun _ => by simp only [packBytes_eq, clampByte_toNat]
  case vi2c =>
    rintro rfl
    exact sized_vectorConvert rfl .vi2c .quad .single vd vs s fun _ => by simp only [packBytes_eq, topByte_toNat]
  case vi2us | vi2usQuad =>
    rintro rfl
    exact sized_vectorConvert rfl .vi2us _ _ vd vs s fun _ => by simp only [packHalves_eq, clampHalf_toNat]
  case vi2s | vi2sQuad =>
    rintro rfl
    exact sized_vectorConvert rfl .vi2s _ _ vd vs s fun _ => by simp only [packHalves_eq, highHalf_toNat]
  case vt4444 =>
    rintro c rfl hc
    exact colorOp_spec (fun w => (color4444_toNat w).trans (hc w).symm) .vt4444 vd vs s
  case vt5551 =>
    rintro c rfl hc
    exact colorOp_spec (fun w => (color5551_toNat w).trans (hc w).symm) .vt5551 vd vs s
  case vt5650 =>
    rintro c rfl hc
    exact colorOp_spec (fun w => (color5650_toNat w).trans (hc w).symm) .vt5650 vd vs s

end Sys2Proof.Machine
end

section
/-! PROOF. VFPU sorts, butterflies and complements (47_vfpu_matrix_misc.md R561 to R566, R569, R570; 45_vfpu_engine.md R439, R441): a sort is
`vectorEnd` of its pairs; the others add the operands that their entries make of one register, which under identity prefixes take its lanes,
some negated (`TakesLane`), or constants (`ForcesConstant`). -/

namespace Sys2Proof.Machine

open Sys2Proof

/-- An instruction of size Quad, whose lanes are those of the rule. -/
theorem quadOp_spec (op : VfpuOp) (vd vs : VReg) (f : Lanes → Lanes) (s : State) (a : Lanes)
    (ha : a = s.sOperand op .quad (some (.quad, vd)) vs) :
    ∃ t, quadOp op .quad vd vs f s = .next t ∧ VectorDone .quad vd (s.applyD op .quad (f a)) s t := by
  subst ha
  exact vectorEnd_spec op .quad .quad vd _ s

/-- A float result at a size that the rule lists, whose lanes may be NaNs, each drawn. -/
theorem sized_drawn {ok : Bool} (hok : ok = true) (op : VfpuOp) (sz out : Size) (vd : VReg) (r : Nat → Option Word) (s : State) :
    ∃ t d, sized ok (vectorEnd op sz out vd (fun i => s.drawn i (r i)) s) = .next t ∧ (∀ i, i < out.lanes → IsFloat (r i) (d i)) ∧
      VectorDone out vd (s.applyD op sz d) s t := by
  rw [sized_true _ hok]
  exact vectorEnd_drawn op sz out vd r s

/-! ### The effective prefixes under identity prefixes (R433, R439) -/

theorem State.prefixesIdentity_iff {s : State} : s.prefixesIdentity = true ↔
    s.vc CReg.spfx = passThrough ∧ s.vc CReg.tpfx = passThrough ∧ s.vc CReg.dpfx = 0#32 := by
  simp only [State.prefixesIdentity, Bool.and_eq_true, beq_iff_eq, and_assoc]

/-- `effD(op)` under identity prefixes, by the entry of R441. -/
def identityEffD (op : VfpuOp) (sz : Size) : Word := effective 0#32 (defaultOverride op sz).dRemove (defaultOverride op sz).dAdd

section
variable {s : State} {op : VfpuOp} {sz : Size} {e : PrefixOverride} (hid : s.prefixesIdentity = true)
include hid

theorem State.effS_of_identity (he : prefixOverride s.cfg op sz = e) : s.effS op sz = effective passThrough e.sRemove e.sAdd := by
  obtain ⟨spfx, -, -⟩ := State.prefixesIdentity_iff.1 hid
  rw [State.effS, spfx, he]

theorem State.effT_of_identity (he : prefixOverride s.cfg op sz = e) : s.effT op sz = effective passThrough e.tRemove e.tAdd := by
  obtain ⟨-, tpfx, -⟩ := State.prefixesIdentity_iff.1 hid
  rw [State.effT, tpfx, he]

theorem State.effD_of_identity (he : prefixOverride s.cfg op sz = e) : s.effD op sz = effective 0#32 e.dRemove e.dAdd := by
  obtain ⟨-, -, dpfx⟩ := State.prefixesIdentity_iff.1 hid
  rw [State.effD, dpfx, he]

end

/-! ### Lanes taken from others, some negated (R431) -/

/-- Among the S and T prefixes, `P` makes of lane `i` the lane `j`, as `PicksLane` says, negated if `neg` holds. -/
def TakesLane (P : Word) (i j : Nat) (neg : Bool) : Prop :=
  P ≠ passThrough ∧ P.getLsbD (12 + i) = false ∧ P.getLsbD (16 + i) = neg ∧ P.extractLsb' (8 + i) 1 = 0#1 ∧
    (P.extractLsb' (2 * i) 2).toNat = j

section
variable {P : Word} {n i j : Nat}

theorem TakesLane.applyST_eq {neg : Bool} (h : TakesLane P i j neg) (hj : j < n) (v inv : Lanes) :
    applyST P n v inv i = if neg then v j ^^^ signBit else v j := by
  obtain ⟨hP, hconst, hneg, habs, hswz⟩ := h
  simp [applyST, hP, prefixLane, hconst, hneg, habs, hswz, hj]

theorem TakesLane.applyST_of_decide {c : Prop} [Decidable c] (h : TakesLane P i j (decide c)) (hj : j < n) (v inv : Lanes) :
    applyST P n v inv i = if c then v j ^^^ signBit else v j := by
  simpa only [decide_eq_true_eq] using h.applyST_eq hj v inv

theorem extractLsb'_congr {Q : Word} {lo len : Nat} (h : ∀ k, k < len → P.getLsbD (lo + k) = Q.getLsbD (lo + k)) :
    P.extractLsb' lo len = Q.extractLsb' lo len := by
  apply BitVec.eq_of_getLsbD_eq
  intro k hk
  rw [BitVec.getLsbD_extractLsb', BitVec.getLsbD_extractLsb', h k hk]

/-- What `P` makes of a lane, its low 20 bits say. -/
theorem TakesLane.congr {Q : Word} {neg : Bool} (h : TakesLane Q i j neg) (hbits : ∀ k, k < 20 → P.getLsbD k = Q.getLsbD k)
    (hP : P ≠ passThrough) (hi : i < 4) : TakesLane P i j neg := by
  obtain ⟨-, hconst, hneg, habs, hswz⟩ := h
  refine ⟨hP, ?_, ?_, ?_, ?_⟩
  · rw [hbits _ (by omega), hconst]
  · rw [hbits _ (by omega), hneg]
  · rw [extractLsb'_congr fun k hk => hbits _ (by omega), habs]
  · rw [extractLsb'_congr fun k hk => hbits _ (by omega), hswz]

/-- An entry that removes every bit leaves those it adds. -/
theorem effective_all_bit (P add : Word) {k : Nat} (hk : k < 20) : (effective P 0x000FFFFF#32 add).getLsbD k = add.getLsbD k := by
  have hmask : (0x000FFFFF#32).getLsbD k = true := (lowMask_bit 20 k (by omega)).trans (decide_eq_true hk)
  rw [effective, BitVec.getLsbD_or, BitVec.getLsbD_and, BitVec.getLsbD_not, hmask, Bool.not_true, Bool.and_false, Bool.and_false,
    Bool.false_or]

end

/-! ### The entries of R441 -/

/-- The other lane of the pair of a lane. -/
def pairedLane (i : Nat) : Nat := if i % 2 = 0 then i + 1 else i - 1

theorem pairedLane_lt {sz : Size} (hsz : sz = .pair ∨ sz = .quad) : ∀ i, i < sz.lanes → pairedLane i < sz.lanes := by
  obtain rfl | rfl := hsz <;> decide

theorem vbfy1_negatesOdd (sz : Size) : ∀ i, i < sz.lanes → TakesLane (identityEffS .vbfy1 sz) i i (decide (i % 2 = 1)) := by
  unfold TakesLane
  cases sz <;> decide

theorem vbfy1_takesPaired (sz : Size) : ∀ i, i < sz.lanes → TakesLane (identityEffT .vbfy1 sz) i (pairedLane i) false := by
  unfold TakesLane
  cases sz <;> decide

/-- The entry of log 41 pairs the lanes whatever TPFX holds. -/
theorem vbfy1_takesPaired_of_any (P : Word) {i : Nat} (hi : i < 4) :
    TakesLane (effective P 0x000FFFFF#32 0x000000B1#32) i (pairedLane i) false := by
  have hadd : ∀ i, i < 4 → TakesLane 0x000000B1#32 i (pairedLane i) false := by
    unfold TakesLane
    decide
  refine (hadd i hi).congr (fun k hk => effective_all_bit P _ hk) (fun h => ?_) hi
  have h0 := effective_all_bit P 0x000000B1#32 (k := 0) (by decide)
  rw [h] at h0
  exact absurd h0 (by decide)

theorem State.effT_vbfy1_takesPaired {s : State} {sz : Size}
    (he : prefixOverride s.cfg .vbfy1 sz = ⟨0#32, 0x000A0000#32, 0x000FFFFF#32, 0x000000B1#32, 0#32, 0#32⟩)
    {i : Nat} (hi : i < sz.lanes) : TakesLane (s.effT .vbfy1 sz) i (pairedLane i) false := by
  rw [State.effT, he]
  exact vbfy1_takesPaired_of_any _ (hi.trans_le (Size.lanes_le sz))

theorem vbfy2_negatesHigh : ∀ i, i < 4 → TakesLane (identityEffS .vbfy2 .quad) i i (decide (2 ≤ i)) := by
  unfold TakesLane
  decide

theorem vbfy2_takesOtherHalf : ∀ i, i < 4 → TakesLane (identityEffT .vbfy2 .quad) i (if i < 2 then i + 2 else i - 2) false := by
  unfold TakesLane
  decide

theorem vocp_negates (sz : Size) : ∀ i, i < sz.lanes → TakesLane (identityEffS .vocp sz) i i true := by
  unfold TakesLane
  cases sz <;> decide

theorem vocp_forcesOne (sz : Size) : ∀ i, i < sz.lanes → ForcesConstant (identityEffT .vocp sz) i 0x3F800000#32 := by
  unfold ForcesConstant
  cases sz <;> decide

theorem vsocp_doubles (sz : Size) : ∀ i, i < 4 → TakesLane (identityEffS .vsocp sz) i (i / 2) (decide (i % 2 = 0)) := by
  unfold TakesLane
  cases sz <;> decide

theorem vsocp_forcesOneZero (sz : Size) : ∀ i, i < 4 →
    ForcesConstant (identityEffT .vsocp sz) i (if i % 2 = 0 then 0x3F800000#32 else 0#32) := by
  unfold ForcesConstant
  cases sz <;> decide

/-- Saturation mode 1 in every lane: the clamp to [0, 1]. -/
theorem vsocp_saturates (sz : Size) : ∀ i, i < 4 → (identityEffD .vsocp sz).toNat / 4 ^ i % 4 = 1 := by
  cases sz <;> decide

/-! ### The statement -/

/-- Settles O44: a sort is `vectorEnd` of its pairs, and the other instructions add two operands, a NaN drawn (`sized_drawn`), whose lanes
under identity prefixes are those of the entries of R441 (`TakesLane.applyST_eq`, `ForcesConstant.applyST_eq`). -/
theorem sortButterfly : Obligations.SortButterfly := by
  unfold Obligations.SortButterfly
  intro s vd vs sz
  simp only [exec, execVsrt1, execVsrt2, execVsrt3, execVsrt4]
  refine ⟨quadOp_spec .vsrt1 vd vs _ s, quadOp_spec .vsrt2 vd vs _ s, quadOp_spec .vsrt3 vd vs _ s, quadOp_spec .vsrt4 vd vs _ s,
    fun hsz => ?vbfy1, sized_drawn rfl .vbfy2 .quad .quad vd _ s, vectorEnd_drawn .vocp sz sz vd _ s, ?vsocp, ?identity, ?paired, ?doubled⟩
  case vbfy1 =>
    have hok : isEvenSize sz = true := by obtain rfl | rfl := hsz <;> rfl
    exact sized_drawn hok .vbfy1 sz sz vd _ s
  case vsocp =>
    rintro out a hsz ha
    obtain rfl : a = _ := funext ha
    obtain ⟨hok, rfl⟩ : isUpToPair sz = true ∧ out = doubleSize sz := by
      obtain ⟨rfl, rfl⟩ | ⟨rfl, rfl⟩ := hsz <;> exact ⟨rfl, rfl⟩
    obtain ⟨t, d, ht, hlanes, hd⟩ := sized_drawn hok .vsocp sz (doubleSize sz) vd _ s
    exact ⟨t, d, ht, hd, hlanes⟩
  case identity =>
    rintro hid a rfl i hi
    refine ⟨fun hf => ?vocp, fun hentry hsz => ⟨?vbfy1S, ?vbfy1T⟩, ?vbfy2⟩
    case vocp =>
      rw [State.sOperand_of_identity hid hf, State.tOperand_of_identity hid hf]
      exact ⟨(vocp_negates sz i hi).applyST_eq hi _ _, (vocp_forcesOne sz i hi).applyST_eq _ _ _⟩
    case vbfy1S =>
      have heff : s.effS .vbfy1 sz = identityEffS .vbfy1 sz := by
        obtain hf | he := hentry
        · exact State.effS_of_identity hid hf.prefixOverride_eq
        · exact (State.effS_of_identity hid he :)
      rw [State.sOperand, State.sOperandAt, heff]
      exact (vbfy1_negatesOdd sz i hi).applyST_of_decide hi _ _
    case vbfy1T =>
      have htakes : TakesLane (s.effT .vbfy1 sz) i (pairedLane i) false := by
        obtain hf | he := hentry
        · rw [State.effT_of_identity hid hf.prefixOverride_eq]
          exact vbfy1_takesPaired sz i hi
        · exact State.effT_vbfy1_takesPaired he hi
      exact htakes.applyST_eq (pairedLane_lt hsz i hi) _ _
    case vbfy2 =>
      rintro hf rfl
      rw [State.sOperand_of_identity hid hf, State.tOperand_of_identity hid hf]
      have hhalf : (if i < 2 then i + 2 else i - 2) < Size.quad.lanes := by revert i; decide
      exact ⟨(vbfy2_negatesHigh i hi).applyST_of_decide hi _ _, (vbfy2_takesOtherHalf i hi).applyST_eq hhalf _ _⟩
  case paired =>
    intro he hsz i hi
    exact (State.effT_vbfy1_takesPaired he hi).applyST_eq (pairedLane_lt hsz i hi) _ _
  case doubled =>
    intro hid hf hsz a _ i hi
    have hi4 : i < 4 := by
      obtain rfl | rfl := hsz
      · exact hi.trans (by decide)
      · exact hi
    rw [State.effS_of_identity hid hf.prefixOverride_eq, State.effT_of_identity hid hf.prefixOverride_eq,
      State.effD_of_identity hid hf.prefixOverride_eq]
    exact ⟨(vsocp_doubles sz i hi4).applyST_of_decide (Nat.div_lt_of_lt_mul hi) _ _, (vsocp_forcesOneZero sz i hi4).applyST_eq _ _ _,
      vsocp_saturates sz i hi4⟩

end Sys2Proof.Machine
end

section
/-! PROOF. The matrix instructions (47_vfpu_matrix_misc.md R577 to R584, R587 to R590; 45_vfpu_engine.md R461): under identity prefixes, at a
size that is not Single, each is its end (`matrixEnd_spec`, `transformEnd_spec`) with the elements computed from what was read. -/

namespace Sys2Proof.Machine

open Sys2Proof

section
variable {s : State} (hid : s.prefixesIdentity = true)
include hid

/-- A matrix instruction with the result `m`. -/
theorem matrixOp_matrixEnd {sz : Size} (hsz : sz ≠ .single) (vd : VReg) (m : Nat → Lanes) :
    ∃ t, matrixOp sz s (matrixEnd sz vd m s) = .next t ∧ MatrixDone sz vd m s t := by
  rw [matrixOp_ok _ hid hsz]
  exact matrixEnd_spec sz vd m s

/-- A matrix times the vector `v` (R578). -/
theorem transform_spec {sz : Size} (hsz : sz ≠ .single) (vd vs : VReg) (v : Lanes) :
    ∃ t, transform sz vd vs v s = .next t ∧ VectorDone sz vd (fun i => Config.vfpuDot
      ((List.range sz.lanes).map (s.readMatrix sz vs i)) ((List.range sz.lanes).map v)) s t := by
  rw [transform, matrixOp_ok _ hid hsz]
  exact transformEnd_spec sz vd _ s

end

/-- The one slot of a Single is the register (R422). -/
theorem vectorSlot_single_zero : ∀ r : VReg, vectorSlot .single r 0 = r := by decide

/-- Settles O45: each instruction is its end under identity prefixes (`matrixOp_matrixEnd`, `transform_spec`). -/
theorem matrixInstructions : Obligations.MatrixInstructions := by
  unfold Obligations.MatrixInstructions
  intro s vd vs vt sz hid hsz
  have ends (m : Nat → Lanes) := matrixOp_matrixEnd hid hsz vd m
  refine ⟨ends _, transform_spec hid (by decide) vd vs _, transform_spec hid (by decide) vd vs _, transform_spec hid (by decide) vd vs _,
    transform_spec hid (by decide) vd vs _, transform_spec hid (by decide) vd vs _, transform_spec hid (by decide) vd vs _, ?vmscl,
    ends _, ends _, ends _, ends _⟩
  case vmscl =>
    obtain ⟨t, ht, hd⟩ := ends fun j i => s.drawn (4 * j + i) (fMul s.cfg.ftz (s.readMatrix sz vs j i) (s.readVector .single vt 0))
    refine ⟨t, _, ht, hd, fun j i _ _ => ?_⟩
    rw [State.readVector, vectorSlot_single_zero]
    exact isFloat_orNaN _ _

end Sys2Proof.Machine
end

section
/-! PROOF. The cross product, the quaternion product and the rotation (47_vfpu_matrix_misc.md R585, R586, R591): `vectorEnd` of their lanes;
a sum that stops at its first NaN is that of products which are all taken before it (`signedSum_eq`). -/

namespace Sys2Proof.Machine

open Sys2Proof

/-! ### Sums of signed products (R586) -/

/-- A pattern, negated where its term is subtracted. -/
def signedTerm (minus : Bool) (p : Word) : Word := if minus then p ^^^ signBit else p

theorem sumProducts_cons (z : Bool) (acc : Option Word) (minus : Bool) (a b : Word) (l : List (Bool × Word × Word)) :
    sumProducts z acc ((minus, a, b) :: l) =
      sumProducts z (do let x ← acc; let p ← fMul z a b; fAdd z x (signedTerm minus p)) l := by
  cases acc <;> cases h : fMul z a b <;> simp [sumProducts, signedTerm, h]

/-- Four signed products, summed left to right. -/
theorem signedSum_eq (z n0 n1 n2 n3 : Bool) (a0 a1 a2 a3 b0 b1 b2 b3 : Word) :
    signedSum z (n0, a0, b0) [(n1, a1, b1), (n2, a2, b2), (n3, a3, b3)] = (do
      let p0 ← fMul z a0 b0
      let p1 ← fMul z a1 b1
      let p2 ← fMul z a2 b2
      let p3 ← fMul z a3 b3
      let q1 ← fAdd z (signedTerm n0 p0) (signedTerm n1 p1)
      let q2 ← fAdd z q1 (signedTerm n2 p2)
      fAdd z q2 (signedTerm n3 p3)) := by
  rw [signedSum, sumProducts_cons, sumProducts_cons, sumProducts_cons, sumProducts]
  cases fMul z a2 b2 with
  | none => simp
  | some p2 =>
    cases fMul z a3 b3 with
    | none => simp
    | some p3 => simp [Option.bind_assoc, Option.map_eq_bind, signedTerm]

/-- A drawn lane, its result written in another way. -/
theorem isFloat_drawn_of_eq {r r' : Option Word} (h : r = r') (s : State) (i : Nat) : IsFloat r' (s.drawn i r) := by
  rw [← h]
  exact isFloat_orNaN _ _

/-! ### The rotation (R591) -/

/-- A lane of `vrot`, by the two lanes that `imm5` names. -/
theorem rotLane_eq (imm5 : BitVec 5) (sn cs : Word) (i : Nat) : rotLane imm5 sn cs i =
    if i = imm5.toNat % 4 then cs
    else if imm5.toNat / 4 % 4 = imm5.toNat % 4 ∨ i = imm5.toNat / 4 % 4 then (if imm5.getLsbD 4 then sn ^^^ signBit else sn)
    else 0#32 := by
  simp only [rotLane, BitVec.extractLsb'_toNat, Nat.shiftRight_eq_div_pow, Nat.reducePow, Nat.div_one]

/-- Settles O46: the lanes are the differences and sums of the rules, NaNs drawn (`isFloat_orNaN`, `signedSum_eq`), and those of the
rotation (`rotLane_eq`). -/
theorem crossQuaternionRotate : Obligations.CrossQuaternionRotate := by
  unfold Obligations.CrossQuaternionRotate
  rintro s vd vs vt sz imm5 z rfl
  refine ⟨?vcrsp, ?vqmul, ?vrot⟩
  case vcrsp =>
    rintro a b rfl rfl
    obtain ⟨t, ht, hd⟩ := vectorEnd_spec .vcrsp .triple .triple vd _ s
    exact ⟨t, _, ht, hd, isFloat_orNaN _ _, isFloat_orNaN _ _, isFloat_orNaN _ _⟩
  case vqmul =>
    rintro a b rfl rfl
    obtain ⟨t, ht, hd⟩ := vectorEnd_spec .vqmul .quad .quad vd _ s
    exact ⟨t, _, ht, hd, isFloat_drawn_of_eq (signedSum_eq _ false false true false ..) s 0,
      isFloat_drawn_of_eq (signedSum_eq _ true false false false ..) s 1,
      isFloat_drawn_of_eq (signedSum_eq _ false true false false ..) s 2,
      isFloat_drawn_of_eq (signedSum_eq _ true true true false ..) s 3⟩
  case vrot =>
    rintro hsz a sn cs rfl rfl rfl
    obtain ⟨t, ht, hd⟩ := vectorEnd_spec .vrot sz sz vd (rotLane imm5 _ _) s
    rw [funext (rotLane_eq imm5 _ _)] at hd
    exact ⟨t, (sized_true _ (bne_iff_ne.2 hsz)).trans ht, hd⟩

end Sys2Proof.Machine
end

section
/-! PROOF. The reset state (70_reset_and_hazards.md R741 to R743): the loader's Contexts are well formed (`startContext_wf`), and every
other value is the one that `State.resetWith` names. -/

namespace Sys2Proof.Machine

open Sys2Proof

/-- `INITIAL_MEMORY` is canonical and inside the windows under well-formed parameters (20_memory.md R86). -/
theorem State.resetWith_memWf {p : Params} (h : p.wf = true) : (State.resetWith p).memWf = true := by
  simp only [Params.wf, Bool.and_eq_true] at h
  obtain ⟨⟨⟨⟨⟨⟨⟨⟨-, hmem, hinside⟩, -⟩, -⟩, -⟩, -⟩, -⟩, -⟩, -⟩ := h
  exact Bool.and_eq_true_iff.2 ⟨hmem, hinside⟩

section
variable (p : Params)

/-- The boot thread's Context and the live one are reset Contexts (R741, R742). -/
theorem State.resetWith_regsWf : RegsWf (State.resetWith p) := by
  refine (regsWf_iff _).2 ⟨?live, nofun, ?saved⟩
  case live => exact (ProcessorState.wf_iff _).2 ⟨resetContext_wf p 0, nofun⟩
  case saved =>
    intro th hth
    obtain rfl := List.mem_singleton.1 hth
    exact startContext_wf _ _ _ _ _ _ _

/-- The register seeds of the boot thread (R741). -/
theorem bootThread_seeds (base : Nat) : (bootThread p base).ctx.gpr[29] = p.bootSp ∧
    (bootThread p base).ctx.gpr[31] = p.threadExitAddr := by
  simp [bootThread, startContext]

/-- The VFPU control registers of the table (R742). -/
theorem State.resetWith_vc (k : CReg) : (State.resetWith p).vc k =
    ([0xE4#32, 0xE4#32, 0#32, 0x3F#32, 0#32, 0#32, 0#32, 0x7772CEAB#32, 0x3F800001#32, 0x3F800002#32,
      0x3F800004#32, 0x3F800008#32, 0x3F800000#32, 0x3F800000#32, 0x3F800000#32, 0x3F800000#32] : List Word).getD k.val 0#32 := by
  change resetVfpuCtrl[k.val] = _
  revert k
  decide

end

/-- Settles O53: the parameters bear on memory alone (`State.resetWith_memWf`); the rest is read off the reset state. -/
theorem resetState : Obligations.ResetState := by
  unfold Obligations.ResetState
  refine ⟨rfl, by decide, fun p hp => ?_⟩
  obtain ⟨hsp, hra⟩ := bootThread_seeds p drawsPerContext
  exact ⟨rfl, State.resetWith_memWf hp, State.resetWith_regsWf p, rfl, State.x_zero _, rfl, rfl, rfl, rfl, rfl, State.resetWith_vc p, rfl,
    rfl, rfl, rfl, rfl, rfl, rfl, rfl, _, rfl, rfl, rfl, rfl, hsp, hra, rfl⟩

end Sys2Proof.Machine
end

section
/-! PROOF. Time (48_scheduler.md R641, R644): no write of an instruction or a command touches a clock (`keptByWrites_clocks`), and the
scheduler only adds to `now` and `idleCycles`. -/

namespace Sys2Proof.Machine

open Sys2Proof

/-! ### What the clocks keep -/

/-- `C` holds of the clocks of a state: `now`, `downcount` and `idleCycles` (R641). -/
def Clocks (C : Nat → Int → Nat → Prop) (s : State) : Prop := C s.sched.now s.sched.downcount s.sched.idleCycles

/-- No write of an instruction, and none of a command, touches a clock. -/
theorem keptByWrites_clocks (C : Nat → Int → Nat → Prop) : KeptByWrites (Clocks C) where
  cpu _ _ h := h
  restoreCpu _ ht := ht
  sched q hq h := by rwa [Clocks, hq.now, hq.downcount, hq.idleCycles]
  storeByte a b h := by simpa [Clocks] using h
  latchFailure _ _ _ h := by
    unfold State.latchFailure
    split <;> exact h
  takeDraws _ h := h
  setIr _ h := h

/-- `now` and `idleCycles` are not before those of `s`. -/
abbrev NotBefore (s : State) : State → Prop := Clocks fun now _ idle => s.sched.now ≤ now ∧ s.sched.idleCycles ≤ idle

/-! ### The phases of the scheduler -/

section
variable {s₀ s : State} (h : NotBefore s₀ s)
include h

/-- An instruction with its accounting, which adds to `now` (R641). -/
theorem accounted_notBefore {count : State → State} (hc : ∀ t, NotBefore s₀ t → NotBefore s₀ (count t)) :
    Ensures (NotBefore s₀) (accounted count (fetchAndExecute s)) :=
  ((keptByWrites_clocks _).fetchAndExecute h).accounted hc

theorem State.account_notBefore : NotBefore s₀ s.account := ⟨Nat.le_add_right_of_le h.1, h.2⟩

theorem State.accountNested_notBefore : NotBefore s₀ s.accountNested := ⟨Nat.le_add_right_of_le h.1, h.2⟩

/-- The idle credit adds to both (R644). -/
theorem State.creditIdle_notBefore : NotBefore s₀ s.creditIdle := ⟨Nat.le_add_right_of_le h.1, Nat.le_add_right_of_le h.2⟩

theorem State.enterHandler_notBefore (handler a0 a1 a2 : Word) : NotBefore s₀ (s.enterHandler handler a0 a1 a2) := by
  have hK := keptByWrites_clocks fun now _ idle => s₀.sched.now ≤ now ∧ s₀.sched.idleCycles ≤ idle
  exact hK.resolveSlot (hK.setX (hK.setX (hK.setX (hK.setX (hK.poison h) 4 a0) 5 a1) 6 a2) 31 s.cfg.handlerReturnAddr) handler

theorem beginCall_notBefore : NotBefore s₀ (beginCall s) := by
  unfold beginCall
  split <;> exact h

/-- A quantum's start sets `downcount` alone (R641). -/
theorem frameStep_notBefore : NotBefore s₀ (frameStep s) := by
  unfold frameStep
  dsimp only
  split
  · exact h
  · split <;> exact h

theorem endRunLoop_notBefore : NotBefore s₀ (endRunLoop s) := by
  unfold endRunLoop
  dsimp only
  split <;> exact h

theorem runStep_notBefore : Ensures (NotBefore s₀) (runStep s) := by
  have instruction := accounted_notBefore h fun _ => State.account_notBefore
  unfold runStep
  refine .ite instruction (.ite (.next (endRunLoop_notBefore h)) (.ite ?_ instruction))
  split
  · exact .next (endRunLoop_notBefore ((keptByWrites_clocks _).exitCurrent h _ _ _))
  · exact .next (endRunLoop_notBefore h)

theorem afterNested_notBefore : NotBefore s₀ (afterNested s) := by
  unfold afterNested
  split <;> exact h

theorem nestedStep_notBefore (saved : ProcessorState) : Ensures (NotBefore s₀) (nestedStep saved s) :=
  .ite (.next (afterNested_notBefore (s := s.leaveHandler saved) h))
    (.ite (.refuse _) (accounted_notBefore h fun _ => State.accountNested_notBefore))

theorem endCallbacks_notBefore : NotBefore s₀ (endCallbacks s) := by
  unfold endCallbacks
  split
  · split <;> exact h
  · exact h

theorem callbackStep_notBefore (todo : List Word) : NotBefore s₀ (callbackStep todo s) := by
  unfold callbackStep
  split
  · exact endCallbacks_notBefore h
  · split
    · exact State.enterHandler_notBefore h _ _ _ _
    · exact h

theorem interruptStep_notBefore (left : Nat) : NotBefore s₀ (interruptStep left s) := by
  unfold interruptStep
  split
  · rename_i n e rest _
    split
    · have popped : NotBefore s₀ { s with sched := { s.sched with pendingIntr := rest, phase := .interrupts n } } := h
      dsimp only
      split
      · split
        · split
          · exact State.enterHandler_notBefore popped _ _ _ _
          · exact popped
        · exact popped
      · exact State.enterHandler_notBefore popped _ _ _ _
    · exact h
  · exact h

theorem finishStep_notBefore : Ensures (NotBefore s₀) (finishStep s) := by
  have hK := keptByWrites_clocks fun now _ idle => s₀.sched.now ≤ now ∧ s₀.sched.idleCycles ≤ idle
  have toFrame : ∀ t, NotBefore s₀ t → Ensures (NotBefore s₀) (.next (t.creditIdle.displayStep.setPhase .frame)) :=
    fun t ht => .next (hK.displayStep (State.creditIdle_notBefore ht))
  unfold finishStep
  dsimp only
  split
  · exact (hK.requeueOrDelete (s := s.saveThread _) h _).andThen toFrame
  · exact (Ensures.next h).andThen toFrame

theorem phaseStep_notBefore : Ensures (NotBefore s₀) (phaseStep s) := by
  unfold phaseStep
  cases s.sched.phase with
  | host => exact .next (beginCall_notBefore h)
  | frame => exact .next (frameStep_notBefore h)
  | run => exact runStep_notBefore h
  | callbacks todo => exact .next (callbackStep_notBefore h todo)
  | interrupts left => exact .next (interruptStep_notBefore h left)
  | reevaluate => exact ((keptByWrites_clocks _).reevaluateAll h _).andThen fun _ ht => .next ht
  | finish => exact finishStep_notBefore h

theorem liveStep_notBefore : Ensures (NotBefore s₀) (liveStep s) := by
  unfold liveStep
  split
  · exact nestedStep_notBefore h _
  · exact phaseStep_notBefore h

end

/-- Settles O52: no write of an instruction touches a clock (`keptByWrites_clocks`), and the scheduler only adds to two of them. -/
theorem timeNeverDecreases : Obligations.TimeNeverDecreases := by
  unfold Obligations.TimeNeverDecreases
  refine ⟨fun s t i hex => ?_, fun s t hst => ?_⟩
  · exact (keptByWrites_clocks fun now down idle => now = s.sched.now ∧ down = s.sched.downcount ∧ idle = s.sched.idleCycles).exec
      ⟨rfl, rfl, rfl⟩ i t hex
  · unfold step at hst
    split at hst
    · cases hst
    · cases hst
    · exact liveStep_notBefore ⟨le_rfl, le_rfl⟩ t hst

end Sys2Proof.Machine
end

section
/-! PROOF. What an instruction can do to the latch and to the scheduler (60_exceptions.md R701, R704, R705): a guest instruction other than
`syscall` keeps both, or sets the latch and does nothing else (`exec_guestEnds`); a command fails before its first change
(`runCommand_commandEnds`); and no instruction is a fault. -/

namespace Sys2Proof.Machine

open Sys2Proof

/-! ### Results that are no fault -/

/-- A result that is no fault, and whose next state, if it answers one, satisfies `P`. -/
structure Lawful (P : State → Prop) (r : Result) : Prop where
  ensures : Ensures P r
  noFault : ∀ e, r ≠ .fault e

namespace Lawful

variable {P Q : State → Prop} {s : State} {r r' : Result}

theorem next (h : P s) : Lawful P (.next s) := ⟨.next h, nofun⟩

theorem refuse (e : Refusal) : Lawful P (refuse e) := ⟨.refuse e, nofun⟩

theorem imp (h : Lawful P r) (hPQ : ∀ t, P t → Q t) : Lawful Q r := ⟨fun t ht => hPQ t (h.ensures t ht), h.noFault⟩

theorem ite {c : Prop} [Decidable c] (h : Lawful P r) (h' : Lawful P r') : Lawful P (if c then r else r') := by
  split
  · exact h
  · exact h'

theorem sized {ok : Bool} (h : Lawful P r) : Lawful P (sized ok r) := .ite h (.refuse _)

theorem matrixOp {sz : Size} (h : Lawful P r) : Lawful P (matrixOp sz s r) := .ite h.sized (.refuse _)

theorem outsideSlot (h : Lawful P r) : Lawful P (outsideSlot s r) := .ite (.refuse _) h

theorem outsideNested (h : Lawful P r) : Lawful P (outsideNested s r) := .ite (.refuse _) h

theorem onceOnly (exits : Bool) (h : Lawful P r) : Lawful P (onceOnly exits s r) := by
  rcases onceOnly_cases exits s r with e | e <;> rw [e]
  · exact h
  · exact .refuse _

theorem withCaller {k : PSPThread → Result} (hk : ∀ c, Lawful P (k c)) : Lawful P (withCaller s k) := by
  unfold Machine.withCaller
  split
  · exact hk _
  · exact .refuse _

/-- A step that goes on unless the first part failed. -/
theorem andThen {k : State → Result} (h : Lawful Q r) (stop : ∀ t, Q t → t.failure.isSome = true → P t) (hk : ∀ t, Q t → Lawful P (k t)) :
    Lawful P (andThen r k) := by
  cases r with
  | next t =>
    have ht : Q t := h.ensures t rfl
    unfold Machine.andThen
    dsimp only
    split
    · exact .next (stop t ht ‹_›)
    · exact hk t ht
  | fault e => exact absurd rfl (h.noFault e)
  | refused e => exact .refuse e

theorem accounted {f : State → State} (h : Lawful Q r) (hf : ∀ t, Q t → P (f t)) : Lawful P (accounted f r) := by
  cases r with
  | next t => exact .next (hf t (h.ensures t rfl))
  | fault e => exact absurd rfl (h.noFault e)
  | refused e => exact .refuse e

end Lawful

/-! ### Instructions other than `syscall` -/

/-- The latch and the scheduler are as before. -/
def GuestOnly (s t : State) : Prop := t.failure = s.failure ∧ t.sched = s.sched

theorem OnlySlots.failure {s t : State} (h : OnlySlots s t) : t.failure = s.failure := by rw [h]

theorem OnlySlots.sched {s t : State} (h : OnlySlots s t) : t.sched = s.sched := by rw [h]

@[simp] theorem State.writeVector_failure (s : State) (sz : Size) (r : VReg) (d : Lanes) : (s.writeVector sz r d).failure = s.failure :=
  (writeVector_spec s sz r d).1.failure

@[simp] theorem State.writeVector_sched (s : State) (sz : Size) (r : VReg) (d : Lanes) : (s.writeVector sz r d).sched = s.sched :=
  (writeVector_spec s sz r d).1.sched

@[simp] theorem State.writeMatrix_failure (s : State) (sz : Size) (r : VReg) (m : Nat → Lanes) :
    (s.writeMatrix sz r m).failure = s.failure := (writeMatrix_spec s sz r m).1.failure

@[simp] theorem State.writeMatrix_sched (s : State) (sz : Size) (r : VReg) (m : Nat → Lanes) :
    (s.writeMatrix sz r m).sched = s.sched := (writeMatrix_spec s sz r m).1.sched

@[simp] theorem State.setHl_failure (s : State) (v : DWord) : (s.setHl v).failure = s.failure := rfl

@[simp] theorem State.setHl_sched (s : State) (v : DWord) : (s.setHl v).sched = s.sched := rfl

@[simp] theorem State.drawRcx_failure (s : State) : s.drawRcx.failure = s.failure :=
  List.foldlRecOn (motive := fun t : State => t.failure = s.failure) _ _ rfl fun _ ht _ _ => ht

@[simp] theorem State.drawRcx_sched (s : State) : s.drawRcx.sched = s.sched :=
  List.foldlRecOn (motive := fun t : State => t.sched = s.sched) _ _ rfl fun _ ht _ _ => ht

@[simp] theorem State.writeVc_failure (s : State) (k : CReg) (v : Word) : (s.writeVc k v).failure = s.failure := by
  unfold State.writeVc
  split <;> rfl

@[simp] theorem State.writeVc_sched (s : State) (k : CReg) (v : Word) : (s.writeVc k v).sched = s.sched := by
  unfold State.writeVc
  split <;> rfl

@[simp] theorem storeWords_failure (l : List (Word × Word)) (s : State) : (storeWords l s).failure = s.failure :=
  (storeWords_rest l s).2.failure

@[simp] theorem storeWords_sched (l : List (Word × Word)) (s : State) : (storeWords l s).sched = s.sched := (storeWords_rest l s).2.sched

@[simp] theorem branch_failure (likely taken : Bool) (target : Word) (s : State) : (branch likely taken target s).failure = s.failure := by
  cases taken <;> cases likely <;> rfl

@[simp] theorem branch_sched (likely taken : Bool) (target : Word) (s : State) : (branch likely taken target s).sched = s.sched := by
  cases taken <;> cases likely <;> rfl

/-- How an instruction other than `syscall` ends (R701): with the latch and the scheduler as before, or with the latch set and nothing else
changed. -/
inductive GuestEnds (s : State) : State → Prop
  | done {t : State} (h : GuestOnly s t) : GuestEnds s t
  | raised (c : FatalCause) (addr : Word) : GuestEnds s (s.latchFailure c s.ir addr)

section
variable {s t : State} {r : Result}

theorem Lawful.quiet (h : GuestOnly s t) : Lawful (GuestEnds s) (.next t) := .next (.done h)

theorem lawful_raise (c : FatalCause) (addr : Word) (s : State) : Lawful (GuestEnds s) (raise c addr s) := .next (.raised c addr)

theorem Lawful.checked (h : Lawful (GuestEnds s) r) (a : Word) (n align : Nat) : Lawful (GuestEnds s) (checked a n align s r) := by
  unfold Machine.checked
  split
  · exact lawful_raise _ _ s
  · exact h

theorem Lawful.checkedWords (h : Lawful (GuestEnds s) r) (l : List Word) : Lawful (GuestEnds s) (checkedWords l s r) := by
  induction l with
  | nil => exact h
  | cons a rest ih => exact ih.checked a 4 4

theorem Lawful.checkedQuad (h : Lawful (GuestEnds s) r) (ea : Word) : Lawful (GuestEnds s) (checkedQuad ea s r) :=
  .ite (lawful_raise _ _ s) (h.checkedWords _)

end

/-- Every instruction but `syscall`, by how it ends. -/
theorem exec_guestEnds {i : Instr} (hsys : ∀ code, i ≠ .syscall code) (s : State) : Lawful (GuestEnds s) (exec i s) := by
  cases i with
  | syscall code => exact absurd rfl (hsys code)
  | beq | bne | blez | bgtz | beql | bnel | blezl | bgtzl | bltz | bgez | bltzl | bgezl | bltzal | bgezal | bltzall | bgezall | j | jal | jr
  | jalr | bc1f | bc1t | bc1fl | bc1tl | bvf | bvt | bvfl | bvtl => exact .outsideSlot (.quiet (by simp [GuestOnly]))
  | brk => exact lawful_raise _ _ s
  | add | sub | addi => exact .ite (lawful_raise _ _ s) (.quiet (by simp [GuestOnly]))
  | movz | movn | ctc1 => exact .ite (.quiet (by simp [GuestOnly])) (.quiet (by simp [GuestOnly]))
  | ext | ins | vcmovt | vcmovf => exact .ite (.refuse _) (.quiet (by simp [GuestOnly]))
  | lb | lbu | lh | lhu | lw | lwl | lwr | sb | sh | sw | swl | swr | ll | lwc1 | swc1 | lvS | svS =>
    exact .checked (.quiet (by simp [GuestOnly])) _ _ _
  | sc => exact .ite (.checked (.quiet (by simp [GuestOnly])) _ _ _) (.quiet (by simp [GuestOnly]))
  | lvQ | svQ => exact .checkedQuad (.quiet (by simp [GuestOnly])) _
  | lvlQ | lvrQ | svlQ | svrQ => exact .checkedWords (.quiet (by simp [GuestOnly])) _
  | mfvc | mtvc | vmtvc =>
    simp only [exec, execMfvc, execMtvc, execVmtvc]
    split <;> exact .quiet (by simp [GuestOnly])
  | vsbn | vscl | vhdp | vcrsT | vdetP | vidt | vh2f | vsrt1 | vsrt2 | vsrt3 | vsrt4 | vbfy1 | vbfy2 | vsocp | vrot | vrnds | vf2h | vuc2i
  | vc2i | vus2i | vs2i | vi2uc | vi2c | vi2us | vi2s | vt4444 | vt5551 | vt5650 => exact .sized (.quiet (by simp [GuestOnly]))
  | vsbz | vlgb | vwbn => exact .refuse _
  | vmmul | vmscl | vmmov | vmidt | vmzero | vmone | vtfm2P | vhtfm2P | vtfm3T | vhtfm3T | vtfm4Q | vhtfm4Q =>
    exact .matrixOp (.quiet (by simp [GuestOnly]))
  | _ => exact .quiet (by simp [GuestOnly])

/-! ### Commands -/

/-- The live ProcessorState, the latch, the refusal mark, the parameters, `ir` and the phase are as before: what a command's change of the
kernel's objects keeps. -/
structure ObjectsOnly (s t : State) : Prop where
  core : CoreSame s t
  phase : t.sched.phase = s.sched.phase

/-- How a command ends (48_scheduler.md R651): it has changed the kernel's objects and perhaps answers in `x[2]`, or it failed before its
first change (R705). -/
inductive CommandEnds (s : State) : State → Prop
  | silent {t : State} (h : ObjectsOnly s t) : CommandEnds s t
  | answered {t : State} (h : ObjectsOnly s t) (v : Word) : CommandEnds s (t.setX 2 v)
  | failed (c : FatalCause) (addr : Word) : CommandEnds s (s.latchFailure c s.ir addr)

namespace ObjectsOnly

variable {s t : State}

theorem refl (s : State) : ObjectsOnly s s := ⟨⟨rfl, rfl, rfl, rfl, rfl⟩, rfl⟩

/-- Any change of the scheduler's lists. -/
theorem sched (h : ObjectsOnly s t) (q : Scheduler) (hq : q.phase = t.sched.phase := by rfl) : ObjectsOnly s { t with sched := q } :=
  ⟨⟨h.core.cpu, h.core.failure, h.core.refused, h.core.cfg, h.core.ir⟩, hq.trans h.phase⟩

theorem takeDraws (h : ObjectsOnly s t) (n : Nat) : ObjectsOnly s (t.takeDraws n) :=
  ⟨⟨h.core.cpu, h.core.failure, h.core.refused, h.core.cfg, h.core.ir⟩, h.phase⟩

theorem issueUid (h : ObjectsOnly s t) (u : Word) : ObjectsOnly s (t.issueUid u) :=
  (h.sched { t.sched with uids := u :: t.sched.uids }).takeDraws 1

theorem updateThread (h : ObjectsOnly s t) (u : Word) (f : PSPThread → PSPThread) : ObjectsOnly s (t.updateThread u f) := h.sched _

theorem storeWord (h : ObjectsOnly s t) (a v : Word) : ObjectsOnly s (t.storeWord a v) :=
  ⟨⟨by simp [h.core.cpu], by simp [h.core.failure], by simp [h.core.refused], by simp [h.core.cfg], by simp [h.core.ir]⟩, by simp [h.phase]⟩

theorem setPriority (h : ObjectsOnly s t) (th : PSPThread) (p : Nat) : ObjectsOnly s (t.setPriority th p) := by
  unfold State.setPriority
  dsimp only
  split
  · exact (h.updateThread _ _).sched _
  · exact h.updateThread _ _

theorem rotateLevel (h : ObjectsOnly s t) (p : Nat) : ObjectsOnly s (t.rotateLevel p) := by
  unfold State.rotateLevel
  split
  · exact h.sched _
  · exact h

theorem enqueueReady (h : ObjectsOnly s t) (u : Word) : Lawful (ObjectsOnly s) (enqueueReady u t) :=
  .ite (.refuse _) (.next ((h.updateThread u _).sched _))

theorem answer (h : ObjectsOnly s t) (v : Word) : Lawful (CommandEnds s) (answer v t) := .next (.answered h v)

theorem answerOk (h : ObjectsOnly s t) : Lawful (CommandEnds s) (answerOk t) := h.answer _

theorem block (h : ObjectsOnly s t) (c : PSPThread) (w : Wait) (d : Option Nat) (cb : Bool) : Lawful (CommandEnds s) (block c w d cb t) :=
  .next (.silent ((h.updateThread _ _).sched _))

end ObjectsOnly

section
variable (s : State)

theorem answer_commandEnds (v : Word) : Lawful (CommandEnds s) (answer v s) := (ObjectsOnly.refl s).answer v

theorem answerOk_updateThread (u : Word) (f : PSPThread → PSPThread) : Lawful (CommandEnds s) (answerOk (s.updateThread u f)) :=
  ((ObjectsOnly.refl s).updateThread u f).answerOk

theorem answerOk_sched (q : Scheduler) (hq : q.phase = s.sched.phase := by rfl) :
    Lawful (CommandEnds s) (answerOk { s with sched := q }) := ((ObjectsOnly.refl s).sched q hq).answerOk

theorem block_commandEnds (c : PSPThread) (w : Wait) (d : Option Nat) (cb : Bool) : Lawful (CommandEnds s) (block c w d cb s) :=
  (ObjectsOnly.refl s).block c w d cb

/-! ### The shared steps of the commands -/

section
variable {s}

theorem withFreshUid_commandEnds {k : Word → State → Result} (hk : ∀ u t, ObjectsOnly s t → Lawful (CommandEnds s) (k u t)) :
    Lawful (CommandEnds s) (withFreshUid s k) := by
  unfold withFreshUid
  split
  · exact hk _ _ ((ObjectsOnly.refl s).issueUid _)
  · exact .refuse _

theorem withThread_commandEnds {u : Word} {k : PSPThread → Result} (hk : ∀ th, Lawful (CommandEnds s) (k th)) :
    Lawful (CommandEnds s) (withThread u s k) := by
  refine .ite (.withCaller hk) ?_
  split
  · exact hk _
  · exact answer_commandEnds s _

theorem withSema_commandEnds {u : Word} {k : Semaphore → Result} (hk : ∀ o, Lawful (CommandEnds s) (k o)) :
    Lawful (CommandEnds s) (withSema u s k) := by
  unfold withSema
  split
  · exact hk _
  · exact answer_commandEnds s _

theorem withEventFlag_commandEnds {u : Word} {k : EventFlag → Result} (hk : ∀ o, Lawful (CommandEnds s) (k o)) :
    Lawful (CommandEnds s) (withEventFlag u s k) := by
  unfold withEventFlag
  split
  · exact hk _
  · exact answer_commandEnds s _

theorem withTimeout_commandEnds {addr : Word} {k : Option Nat → Result} (hk : ∀ dl, Lawful (CommandEnds s) (k dl)) :
    Lawful (CommandEnds s) (withTimeout addr s k) := by
  refine .ite (hk none) ?_
  split
  · exact .next (.failed _ _)
  · exact hk _

end

/-- A latch that is set is set (R701). -/
theorem State.latchFailure_isSome (c : FatalCause) (word addr : Word) : (s.latchFailure c word addr).failure.isSome = true := by
  unfold State.latchFailure
  split
  · simp [*]
  · rfl

/-- A match reports and answers, or fails at its report (R678). -/
theorem report_commandEnds (o : EventFlag) (pattern mode outAddr : Word) :
    Lawful (CommandEnds s) (andThen (evfReport s.ir o pattern mode outAddr s) answerOk) := by
  have goesOn (t : State) (h : ObjectsOnly s t) : Lawful (CommandEnds s) (andThen (.next t) answerOk) :=
    .ite (.next (.silent h)) h.answerOk
  unfold evfReport
  dsimp only
  split
  · exact goesOn _ ((ObjectsOnly.refl s).sched _)
  · split
    · have stops : andThen (.next (s.latchFailure .dataAddress s.ir outAddr)) answerOk = .next (s.latchFailure .dataAddress s.ir outAddr) :=
        if_pos (s.latchFailure_isSome _ _ _)
      rw [stops]
      exact .next (.failed _ _)
    · exact goesOn _ (((ObjectsOnly.refl s).storeWord _ _).sched _)

/-! ### Every command -/

theorem cmdCreateThread_commandEnds (a : CommandArgs) : Lawful (CommandEnds s) (cmdCreateThread a s) := by
  refine .ite (answer_commandEnds s _) ?_
  split
  · exact answer_commandEnds s _
  · exact withFreshUid_commandEnds fun u t h => (h.sched _).answer u

theorem cmdStartThread_commandEnds (a : CommandArgs) : Lawful (CommandEnds s) (cmdStartThread a s) := by
  unfold cmdStartThread
  split
  · exact answer_commandEnds s _
  · refine .ite (answer_commandEnds s _) (.ite (.refuse _) (.andThen ?queued (fun t h _ => .silent h) fun t h => h.answerOk))
    exact (((ObjectsOnly.refl s).updateThread _ _).takeDraws _).enqueueReady _

theorem cmdDeleteThread_commandEnds (a : CommandArgs) : Lawful (CommandEnds s) (cmdDeleteThread a s) := by
  refine .outsideNested ?_
  split
  · exact answer_commandEnds s _
  · exact .ite (answer_commandEnds s _) (.ite (.refuse _) (answerOk_sched s _))

theorem rotateTo_commandEnds (p : Nat) : Lawful (CommandEnds s) (rotateTo p s) := by
  have rotated := ((ObjectsOnly.refl s).rotateLevel p).answerOk
  refine .ite (answer_commandEnds s _) ?_
  split
  · exact .ite (.outsideNested (answerOk_sched s _)) rotated
  · exact rotated

theorem cmdChangeThreadPriority_commandEnds (a : CommandArgs) : Lawful (CommandEnds s) (cmdChangeThreadPriority a s) :=
  have changed (th : PSPThread) (p : Nat) := ((ObjectsOnly.refl s).setPriority th p).answerOk
  withThread_commandEnds fun _ => .ite (.withCaller fun _ => changed _ _) (.ite (answer_commandEnds s _) (changed _ _))

theorem waitSemaWith_commandEnds (cb : Bool) (a : CommandArgs) : Lawful (CommandEnds s) (waitSemaWith cb a s) :=
  .outsideNested (.withCaller fun _ => withSema_commandEnds fun _ => .ite (answer_commandEnds s _) (withTimeout_commandEnds fun _ =>
    .ite (answerOk_sched s _) (block_commandEnds s _ _ _ _)))

theorem waitEventFlagWith_commandEnds (cb : Bool) (a : CommandArgs) : Lawful (CommandEnds s) (waitEventFlagWith cb a s) :=
  .outsideNested (.withCaller fun _ => withEventFlag_commandEnds fun _ => .ite (answer_commandEnds s _) (withTimeout_commandEnds fun _ =>
    .ite (report_commandEnds s _ _ _ _) (block_commandEnds s _ _ _ _)))

theorem cmdCreateEventFlag_commandEnds (a : CommandArgs) : Lawful (CommandEnds s) (cmdCreateEventFlag a s) :=
  withFreshUid_commandEnds fun u _ h => (h.sched _).answer u

theorem cmdSetAlarm_commandEnds (a : CommandArgs) : Lawful (CommandEnds s) (cmdSetAlarm a s) :=
  withFreshUid_commandEnds fun u _ h => (h.sched _).answer u

/-- Every command (48_scheduler.md R651), by how it ends. -/
theorem runCommand_commandEnds (c : Command) (a : CommandArgs) : Lawful (CommandEnds s) (runCommand c a s) := by
  have answers := answer_commandEnds s
  cases c with
  | createThread => exact cmdCreateThread_commandEnds s a
  | startThread => exact cmdStartThread_commandEnds s a
  | exitThread | exitDeleteThread => exact .outsideNested (.withCaller fun _ => .next (.silent ((ObjectsOnly.refl s).updateThread _ _)))
  | deleteThread => exact cmdDeleteThread_commandEnds s a
  | getThreadId => exact .withCaller fun _ => answers _
  | sleepThread | sleepThreadCB =>
    exact .outsideNested (.withCaller fun _ => .ite (answerOk_updateThread s _ _) (block_commandEnds s _ _ _ _))
  | wakeupThread => exact withThread_commandEnds fun _ => .ite (answers _) (answerOk_updateThread s _ _)
  | delayThread | delayThreadCB => exact .outsideNested (.withCaller fun _ => block_commandEnds s _ _ _ _)
  | waitThreadEnd =>
    exact .outsideNested (.withCaller fun _ => withThread_commandEnds fun _ => withTimeout_commandEnds fun _ =>
      .ite (answers _) (block_commandEnds s _ _ _ _))
  | rotateThreadReadyQueue => exact .ite (.withCaller fun _ => rotateTo_commandEnds s _) (rotateTo_commandEnds s _)
  | changeThreadPriority => exact cmdChangeThreadPriority_commandEnds s a
  | createSema => exact .ite (answers _) (withFreshUid_commandEnds fun u t h => (h.sched _).answer u)
  | deleteSema => exact withSema_commandEnds fun _ => .ite (.refuse _) (answerOk_sched s _)
  | signalSema => exact withSema_commandEnds fun _ => .ite (answers _) (.ite (answers _) (answerOk_sched s _))
  | waitSema | waitSemaCB => exact waitSemaWith_commandEnds s _ a
  | pollSema => exact withSema_commandEnds fun _ => .ite (answers _) (.ite (answerOk_sched s _) (answers _))
  | createEventFlag => exact cmdCreateEventFlag_commandEnds s a
  | setAlarm => exact cmdSetAlarm_commandEnds s a
  | deleteEventFlag => exact withEventFlag_commandEnds fun _ => .ite (.refuse _) (answerOk_sched s _)
  | setEventFlag | clearEventFlag => exact withEventFlag_commandEnds fun _ => answerOk_sched s _
  | waitEventFlag | waitEventFlagCB => exact waitEventFlagWith_commandEnds s _ a
  | pollEventFlag => exact withEventFlag_commandEnds fun _ => .ite (answers _) (.ite (report_commandEnds s _ _ _ _) (answers _))
  | createCallback => exact .withCaller fun _ => withFreshUid_commandEnds fun u t h => ((h.sched _).takeDraws 1).answer u
  | deleteCallback | notifyCallback | releaseSubIntrHandler | enableSubIntr | disableSubIntr =>
    simp only [runCommand, cmdDeleteCallback, cmdNotifyCallback, cmdReleaseSubIntrHandler, cmdEnableSubIntr, cmdDisableSubIntr, setSubIntr]
    split
    · exact answers _
    · exact answerOk_sched s _
  | checkCallback => exact .withCaller fun _ => answerOk_updateThread s _ _
  | cancelAlarm => exact .ite (answerOk_sched s _) (answers _)
  | registerSubIntrHandler | cpuResumeIntr => exact answerOk_sched s _
  | cpuSuspendIntr => exact ((ObjectsOnly.refl s).sched _).answer _

end

/-! ### `syscall` -/

/-- The latch after a part of an instruction at `s`: as it was, or set at the instruction's pc and word (R704). -/
def LatchedAt (s t : State) : Prop := t.failure = s.failure ∨ ∃ c addr, t.failure = some ⟨c, s.cpu.pc, s.ir, addr⟩

/-- What an external handler keeps (44_system.md R401), and how it may fail: at the pc and the word of the `syscall`. -/
structure HandlerKeeps (s t : State) : Prop where
  pc : t.cpu.pc = s.cpu.pc
  ir : t.ir = s.ir
  phase : t.sched.phase = s.sched.phase
  latch : LatchedAt s t

theorem HandlerKeeps.refl (s : State) : HandlerKeeps s s := ⟨rfl, rfl, rfl, .inl rfl⟩

theorem HandlerKeeps.trans {s t u : State} (h : HandlerKeeps s t) (k : HandlerKeeps t u) : HandlerKeeps s u where
  pc := k.pc.trans h.pc
  ir := k.ir.trans h.ir
  phase := k.phase.trans h.phase
  latch := by
    rcases k.latch with hk | ⟨c, addr, hk⟩
    · rw [LatchedAt, hk]
      exact h.latch
    · exact .inr ⟨c, addr, by rw [hk, h.pc, h.ir]⟩

theorem State.latchFailure_keeps (s : State) (c : FatalCause) (addr : Word) : HandlerKeeps s (s.latchFailure c s.ir addr) := by
  unfold State.latchFailure
  split
  · exact .refl s
  · exact ⟨rfl, rfl, rfl, .inr ⟨c, addr, rfl⟩⟩

theorem CommandEnds.keeps {s t : State} (h : CommandEnds s t) : HandlerKeeps s t := by
  cases h with
  | silent h => exact ⟨by rw [h.core.cpu], h.core.ir, h.phase, .inl h.core.failure⟩
  | answered h v => exact ⟨by simp [h.core.cpu], by simp [h.core.ir], by simp [h.phase], .inl (by simp [h.core.failure])⟩
  | failed c addr => exact s.latchFailure_keeps c addr

theorem runCommand_keeps (c : Command) (a : CommandArgs) (s : State) : Lawful (HandlerKeeps s) (runCommand c a s) :=
  (runCommand_commandEnds s c a).imp fun _ => CommandEnds.keeps

theorem runAction_keeps (act : HandlerAction) (s : State) : Lawful (HandlerKeeps s) (runAction act s) := by
  cases act with
  | setGpr i v => exact .next ⟨by simp, by simp, by simp, .inl (by simp)⟩
  | setHi v | setLo v => exact .next ⟨rfl, rfl, rfl, .inl rfl⟩
  | storeByte a v => exact .next ⟨by simp, by simp, by simp, .inl (by simp)⟩
  | command c a => exact (runCommand_keeps c a s).onceOnly _
  | block id deadline =>
    exact (Lawful.outsideNested (.withCaller fun c => (block_commandEnds s c _ _ _).imp fun _ => CommandEnds.keeps)).onceOnly _

theorem runActions_keeps (l : List HandlerAction) (s : State) : Lawful (HandlerKeeps s) (runActions l s) := by
  induction l generalizing s with
  | nil => exact .next (.refl s)
  | cons act rest ih => exact (runAction_keeps act s).andThen (fun _ h _ => h) fun t h => (ih t).imp fun _ => h.trans

theorem dispatch_keeps {nid : Word} {s : State} {r : Result} (h : dispatch nid s = some r) : Lawful (HandlerKeeps s) r := by
  unfold dispatch at h
  dsimp only at h
  split at h
  · obtain rfl := Option.some.inj h
    exact runCommand_keeps _ _ s
  · split at h
    · obtain rfl := Option.some.inj h
      exact runActions_keeps _ s
    · cases h

/-- How any instruction ends, seen from the scheduler: the phase is as before, and a latch that it set is set at its pc and word, with the
live ProcessorState as before (R704). -/
structure InstructionEnds (s t : State) : Prop where
  phase : t.sched.phase = s.sched.phase
  latch : t.failure = s.failure ∨ t.cpu = s.cpu ∧ ∃ c addr, t.failure = some ⟨c, s.cpu.pc, s.ir, addr⟩

theorem State.latchFailure_ends (s : State) (c : FatalCause) (addr : Word) : InstructionEnds s (s.latchFailure c s.ir addr) := by
  unfold State.latchFailure
  split
  · exact ⟨rfl, .inl rfl⟩
  · exact ⟨rfl, .inr ⟨rfl, c, addr, rfl⟩⟩

theorem afterHandler_ends {s : State} {r : Result} (h : Lawful (HandlerKeeps s) r) : Lawful (InstructionEnds s) (afterHandler s r) := by
  cases r with
  | next t =>
    have ht := h.ensures t rfl
    refine .next ?_
    split
    · exact ⟨ht.phase, ht.latch.imp id fun hl => ⟨rfl, hl⟩⟩
    · refine ⟨ht.phase, ht.latch.imp id fun ⟨c, addr, hl⟩ => ?_⟩
      exact absurd (Option.isSome_of_eq_some hl) ‹_›
  | fault e => exact absurd rfl (h.noFault e)
  | refused e => exact .refuse e

theorem execSyscall_ends (code : BitVec 20) (s : State) : Lawful (InstructionEnds s) (execSyscall code s) := by
  unfold execSyscall
  split
  · exact .next (s.latchFailure_ends _ _)
  · split
    · exact .next (s.latchFailure_ends _ _)
    · exact afterHandler_ends (dispatch_keeps ‹_›)

/-! ### Every instruction, fetched and executed -/

theorem GuestEnds.ends {s t : State} (h : GuestEnds s t) : InstructionEnds s t := by
  cases h with
  | done h => exact ⟨by rw [h.2], .inl h.1⟩
  | raised c addr => exact s.latchFailure_ends c addr

theorem exec_ends (i : Instr) (s : State) : Lawful (InstructionEnds s) (exec i s) := by
  by_cases hsys : ∃ code, i = .syscall code
  · obtain ⟨code, rfl⟩ := hsys
    exact execSyscall_ends code s
  · exact (exec_guestEnds (fun code h => hsys ⟨code, h⟩) s).imp fun _ => GuestEnds.ends

/-- The phase is as before. -/
def PhaseSame (s t : State) : Prop := t.sched.phase = s.sched.phase

theorem executeInstr_phase (i : Instr) (s : State) : Lawful (PhaseSame s) (executeInstr i s) := by
  have hi := exec_ends i s
  unfold executeInstr
  split
  next t ht =>
    have hp : PhaseSame s t := (hi.ensures t ht).phase
    exact .ite (.next hp) (.next (by simpa [PhaseSame] using hp))
  next e he => exact absurd he (hi.noFault e)
  next => exact .refuse _

theorem executeWord_phase (w : Word) (s : State) : Lawful (PhaseSame s) (executeWord w s) := by
  unfold executeWord
  dsimp only
  split
  · exact executeInstr_phase _ { s with ir := w }
  · exact .next (State.latchFailure_ends { s with ir := w } _ _).phase

/-- An instruction leaves the phase, and is no fault. -/
theorem fetchAndExecute_phase (s : State) : Lawful (PhaseSame s) (fetchAndExecute s) := by
  have raised (c : FatalCause) : Lawful (PhaseSame s) (raise c s.cpu.pc { s with ir := 0#32 }) :=
    .next (State.latchFailure_ends { s with ir := 0#32 } c s.cpu.pc).phase
  exact .ite (raised _) (.ite (executeWord_phase _ { s with ir := 0#32 }) (raised _))

/-! ### No step is a fault but that of a failed machine (R630) -/

section
variable (s : State)

theorem enqueueReady_lawful (u : Word) : Lawful (fun _ => True) (enqueueReady u s) := .ite (.refuse _) (.next trivial)

theorem waitEffect_lawful (th : PSPThread) : Lawful (fun _ => True) (waitEffect th s) := by
  unfold waitEffect
  cases th.wait with
  | eventFlag u pattern mode outAddr =>
    dsimp only
    split
    · refine .ite (.next trivial) ?_
      split <;> exact .next trivial
    · exact .next trivial
  | sema u need =>
    dsimp only
    split <;> exact .next trivial
  | none | sleep | delay | threadEnd | external => exact .next trivial

theorem reevaluateOne_lawful (u : Word) : Lawful (fun _ => True) (reevaluateOne u s) := by
  unfold reevaluateOne
  split
  · exact .next trivial
  · exact .ite ((waitEffect_lawful s _).andThen (fun _ _ _ => trivial) fun _ _ => enqueueReady_lawful _ _)
      (.ite (enqueueReady_lawful _ _) (.next trivial))

theorem reevaluateAll_lawful (l : List Word) : Lawful (fun _ => True) (reevaluateAll l s) := by
  induction l generalizing s with
  | nil => exact .next trivial
  | cons u rest ih => exact (reevaluateOne_lawful s u).andThen (fun _ _ _ => trivial) fun t _ => ih t

theorem requeueOrDelete_lawful (u : Word) : Lawful (fun _ => True) (requeueOrDelete u s) := by
  unfold requeueOrDelete
  split
  · exact .ite (enqueueReady_lawful s u) (.ite (.next trivial) (.next trivial))
  · exact .next trivial

theorem runStep_lawful : Lawful (fun _ => True) (runStep s) := by
  have instruction : Lawful (fun _ => True) (accounted State.account (fetchAndExecute s)) :=
    (fetchAndExecute_phase s).accounted fun _ _ => trivial
  refine .ite instruction (.ite (.next trivial) (.ite ?_ instruction))
  split <;> exact .next trivial

theorem nestedStep_lawful (saved : ProcessorState) : Lawful (fun _ => True) (nestedStep saved s) :=
  .ite (.next trivial) (.ite (.refuse _) ((fetchAndExecute_phase s).accounted fun _ _ => trivial))

theorem finishStep_lawful : Lawful (fun _ => True) (finishStep s) := by
  unfold finishStep
  dsimp only
  split
  · exact (requeueOrDelete_lawful _ _).andThen (fun _ _ _ => trivial) fun _ _ => .next trivial
  · exact .andThen (Q := fun _ => True) (.next trivial) (fun _ _ _ => trivial) fun _ _ => .next trivial

theorem phaseStep_lawful : Lawful (fun _ => True) (phaseStep s) := by
  unfold phaseStep
  cases s.sched.phase with
  | host | frame | callbacks | interrupts => exact .next trivial
  | run => exact runStep_lawful s
  | reevaluate => exact (reevaluateAll_lawful s _).andThen (fun _ _ _ => trivial) fun _ _ => .next trivial
  | finish => exact finishStep_lawful s

theorem liveStep_lawful : Lawful (fun _ => True) (liveStep s) := by
  unfold liveStep
  split
  · exact nestedStep_lawful s _
  · exact phaseStep_lawful s

end

/-- No instruction sets the refusal mark or changes the parameters. -/
theorem keptByWrites_marks {refused : Option Refusal} {cfg : Params} : KeptByWrites fun t => t.refused = refused ∧ t.cfg = cfg where
  cpu _ _ h := h
  restoreCpu _ ht := ht
  sched _ _ h := h
  storeByte a b h := by simpa using h
  latchFailure _ _ _ h := by
    unfold State.latchFailure
    split <;> exact h
  takeDraws _ h := h
  setIr _ h := h

theorem State.latchFailure_of_none {s : State} (h : s.failure = none) (c : FatalCause) (word addr : Word) :
    s.latchFailure c word addr = { s with failure := some ⟨c, s.cpu.pc, word, addr⟩ } := by
  simp [State.latchFailure, h]

theorem exec_syscall_unhandled {s : State} {nid : Word} (mapped : lookup s.cfg.nidMap s.cpu.pc = some nid)
    (external : lookup s.cfg.kernelNid nid = none) (unhandled : (Config.dispatch nid s).handled ≠ true) (code : BitVec 20) :
    exec (.syscall code) s = raise .syscall 0#32 s := by
  have hd : dispatch nid s = none := by
    rw [dispatch, external]
    exact if_neg unhandled
  change execSyscall code s = _
  rw [execSyscall, mapped]
  dsimp only
  rw [hd]

/-- Settles O51: an instruction that sets the latch has changed nothing else (`exec_guestEnds`), a `syscall` nothing of the live registers
(`exec_ends`); a latched or refused machine stays, and only a latched one is a fault (`liveStep_lawful`). -/
theorem faultsPreciseAndFinal : Obligations.FaultsPreciseAndFinal := by
  unfold Obligations.FaultsPreciseAndFinal
  refine ⟨?guest, ?unhandled, ?syscall, ?call, ?latched, ?refused, ?live⟩
  case guest =>
    intro s t i hsys running hex f hf
    cases (exec_guestEnds hsys s).ensures t hex with
    | done h => simp [h.1, running] at hf
    | raised c addr =>
      rw [State.latchFailure_of_none running] at hf ⊢
      obtain rfl := Option.some.inj hf
      exact ⟨rfl, rfl, rfl⟩
  case unhandled =>
    intro s code nid running mapped external
    by_cases handled : (Config.dispatch nid s).handled = true
    · exact .inl handled
    · rw [exec_syscall_unhandled mapped external handled]
      exact .inr (raise_fatalOnly .syscall 0#32 s running)
  case syscall =>
    intro s t code running hex f hf
    obtain ⟨hrefused, hcfg⟩ := keptByWrites_marks.exec (s := s) ⟨rfl, rfl⟩ _ t hex
    obtain hsame | ⟨hcpu, c, addr, hlatch⟩ := ((exec_ends _ s).ensures t hex).latch
    · simp [hsame, running] at hf
    · obtain rfl := Option.some.inj (hlatch.symm.trans hf)
      exact ⟨hcpu, rfl, rfl, hrefused, hcfg⟩
  case call =>
    intro s fuel cycles h
    exact if_pos (by simpa [or_assoc] using h)
  case latched =>
    intro s f w hf
    simp [step, interpretOneInstruction, hf]
  case refused =>
    intro s r w hf hr
    simp [step, interpretOneInstruction, hf, hr]
  case live =>
    intro s hf hr
    rw [step_eq_liveStep hf hr]
    exact (liveStep_lawful s).noFault

end Sys2Proof.Machine
end

section
/-! PROOF. The ready queue (48_scheduler.md R624, R631, R632, R646, R666, R667): `insertReady` passes every thread that is at least as urgent
and stops at the first that is less so, and the commands that reorder the queue take one thread out and insert it again. -/

namespace Sys2Proof.Machine

open Sys2Proof

/-! ### Commands that answer -/

/-- A command that answers and changes nothing else. -/
theorem answered_unchanged {r : Result} {v : Word} {s : State} (e : r = answer v s) :
    ∃ t, r = .next t ∧ Answered v s t ∧ t.sched = s.sched := answered_of_sched e

/-- Looking a thread up reads the scheduler alone. -/
theorem State.thread?_congr {s t : State} (h : t.sched = s.sched) (u : Word) : t.thread? u = s.thread? u := by
  rw [State.thread?, h, State.thread?]

/-- The thread that a command's UID names, 0 being the caller (92_eei_decisions.md D93). -/
def NamesThread (s : State) (u : Word) (th : PSPThread) : Prop :=
  (u ≠ 0#32 ∧ s.thread? u = some th) ∨ (u = 0#32 ∧ s.currentThread? = some th)

theorem NamesThread.thread? {s : State} {u : Word} {th : PSPThread} (h : NamesThread s u th) : s.thread? th.uid = some th := by
  obtain ⟨-, hu⟩ | ⟨-, hc⟩ := h
  · rwa [State.thread?_uid hu]
  · exact (State.currentThread?_thread? hc).2

theorem withThread_of_names {s : State} {u : Word} {th : PSPThread} (h : NamesThread s u th) (k : PSPThread → Result) :
    withThread u s k = k th := by
  obtain ⟨hu, ht⟩ | ⟨hu, hc⟩ := h
  · rw [withThread, if_neg hu, ht]
  · rw [withThread, if_pos hu, withCaller_of_some hc]

theorem withThread_unknown {s : State} {u : Word} (hu : u ≠ 0#32) (h : s.thread? u = none) (k : PSPThread → Result) :
    withThread u s k = answer s.cfg.err.unknownUid s := by rw [withThread, if_neg hu, h]

theorem priorityOk_iff (p : Nat) : Config.priorityOk p = true ↔ 0x08 ≤ p ∧ p ≤ 0x77 := by simp [Config.priorityOk]

theorem ne_zero_of_toNat_eq {w : Word} {n : Nat} (h : w.toNat = n) (hn : 0 < n) : w ≠ 0#32 := by
  rintro rfl
  simp at h
  omega

/-! ### Inserting in the queue (R624) -/

section
variable {prio : Word → Nat} {u : Word} {p : Nat}

/-- The threads that are at least as urgent stay in front. -/
theorem insertReady_append {q₁ : List Word} (h : ∀ v, v ∈ q₁ → prio v ≤ p) (q₂ : List Word) :
    insertReady prio u p (q₁ ++ q₂) = q₁ ++ insertReady prio u p q₂ := by
  induction q₁ with
  | nil => rfl
  | cons v rest ih =>
    obtain ⟨hv, hrest⟩ := List.forall_mem_cons.1 h
    simp [insertReady, Nat.not_lt.2 hv, ih hrest]

/-- The threads that are less urgent stay behind. -/
theorem insertReady_of_lt {q : List Word} (h : ∀ v, v ∈ q → p < prio v) : insertReady prio u p q = u :: q := by
  cases q with
  | nil => rfl
  | cons v rest => simp [insertReady, h v (by simp)]

/-- An insertion keeps the order. -/
theorem pairwise_insertion {q₁ q₂ : List Word} (h : (q₁ ++ q₂).Pairwise fun v w => prio v ≤ prio w) (h₁ : ∀ v, v ∈ q₁ → prio v ≤ prio u)
    (h₂ : ∀ v, v ∈ q₂ → prio u < prio v) : (q₁ ++ u :: q₂).Pairwise fun v w => prio v ≤ prio w := by
  obtain ⟨hq₁, hq₂, hcross⟩ := List.pairwise_append.1 h
  refine List.pairwise_append.2 ⟨hq₁, List.pairwise_cons.2 ⟨fun v hv => (h₂ v hv).le, hq₂⟩, fun v hv w hw => ?_⟩
  rcases List.mem_cons.1 hw with rfl | hw
  · exact h₁ v hv
  · exact hcross v hv w hw

end

section
variable {s : State} {u : Word} {th : PSPThread}

theorem State.priorityOf_of_thread? (h : s.thread? u = some th) : s.priorityOf u = th.priority := by simp [State.priorityOf, h]

/-- `enqueueReady` in an ordered queue with room. -/
theorem enqueueReady_ordered (h : s.thread? u = some th) (ordered : s.sched.readyQueue.Pairwise fun v w => s.priorityOf v ≤ s.priorityOf w)
    (room : s.sched.readyQueue.length < s.cfg.readyCapacity) : ∃ t q₁ q₂, enqueueReady u s = .next t ∧
      s.sched.readyQueue = q₁ ++ q₂ ∧ t.sched.readyQueue = q₁ ++ u :: q₂ ∧
      (∀ v, v ∈ q₁ → s.priorityOf v ≤ th.priority) ∧ (∀ v, v ∈ q₂ → th.priority < s.priorityOf v) ∧
      (t.sched.readyQueue.Pairwise fun v w => t.priorityOf v ≤ t.priorityOf w) ∧
      t.thread? u = some { th with status := .ready } ∧ t.cpu = s.cpu ∧ t.mem = s.mem := by
  obtain ⟨t, ht, core, hmem, hth, hothers, hqueue, -⟩ := enqueueReady_spec h room
  obtain ⟨q₁, q₂, hq, hins, h₁, h₂⟩ := insertReady_split s.priorityOf u th.priority _ ordered
  have prio : t.priorityOf = s.priorityOf := funext fun v => by
    by_cases hv : v = u
    · rw [hv, State.priorityOf_of_thread? hth, State.priorityOf_of_thread? h]
    · rw [State.priorityOf, hothers v hv, State.priorityOf]
  refine ⟨t, q₁, q₂, ht, hq, hqueue.trans hins, h₁, h₂, ?_, hth, core.cpu, hmem⟩
  rw [prio, hqueue.trans hins]
  rw [← State.priorityOf_of_thread? h] at h₁ h₂
  exact pairwise_insertion (hq ▸ ordered) h₁ h₂

/-- The first thread of an ordered queue is selected, and none is more urgent (R631). -/
theorem selectReady_first (h : s.thread? u = some th) (ordered : s.sched.readyQueue.Pairwise fun v w => s.priorityOf v ≤ s.priorityOf w)
    {rest : List Word} (hq : s.sched.readyQueue = u :: rest) : s.selectReady = some th ∧ ∀ v, v ∈ rest → th.priority ≤ s.priorityOf v := by
  rw [hq] at ordered
  rw [← State.priorityOf_of_thread? h]
  exact ⟨by rw [State.selectReady, hq]; exact h, (List.pairwise_cons.1 ordered).1⟩

end

/-! ### Rotating a level (R666) -/

section
variable {s : State} {p : Nat}

/-- A rotation changes the order of the queue alone. -/
theorem State.rotateLevel_frame (s : State) (p : Nat) : CoreSame s (s.rotateLevel p) ∧ (s.rotateLevel p).mem = s.mem ∧
    { (s.rotateLevel p).sched with readyQueue := s.sched.readyQueue } = s.sched := by
  unfold State.rotateLevel
  split <;> exact ⟨⟨rfl, rfl, rfl, rfl, rfl⟩, rfl, rfl⟩

/-- The first thread of the level goes behind the others of the level. -/
theorem State.rotateLevel_queue {q₁ q₂ q₃ : List Word} {v : Word} (hq : s.sched.readyQueue = q₁ ++ v :: (q₂ ++ q₃))
    (h₁ : ∀ w, w ∈ q₁ → s.priorityOf w < p) (hv : s.priorityOf v = p) (h₂ : ∀ w, w ∈ q₂ → s.priorityOf w = p)
    (h₃ : ∀ w, w ∈ q₃ → p < s.priorityOf w) : (s.rotateLevel p).sched.readyQueue = q₁ ++ q₂ ++ v :: q₃ := by
  have first : s.sched.readyQueue.find? (fun u => s.priorityOf u == p) = some v := by
    rw [hq, List.find?_append, List.find?_eq_none.2 fun w hw => by simpa using (h₁ w hw).ne]
    simp [hv]
  have hnot : v ∉ q₁ := fun hm => absurd hv (h₁ v hm).ne
  have erased : s.sched.readyQueue.erase v = (q₁ ++ q₂) ++ q₃ := by
    rw [hq, List.erase_append_right _ hnot, List.erase_cons_head, List.append_assoc]
  have urgent : ∀ w, w ∈ q₁ ++ q₂ → s.priorityOf w ≤ p := fun w hw =>
    (List.mem_append.1 hw).elim (fun hw => (h₁ w hw).le) fun hw => (h₂ w hw).le
  rw [State.rotateLevel, first]
  dsimp only
  rw [erased, insertReady_append urgent, insertReady_of_lt h₃]

theorem State.rotateLevel_empty (h : ∀ w, w ∈ s.sched.readyQueue → s.priorityOf w ≠ p) : s.rotateLevel p = s := by
  rw [State.rotateLevel, List.find?_eq_none.2 fun w hw => by simpa using h w hw]

theorem rotateTo_illegal (h : ¬ (0x08 ≤ p ∧ p ≤ 0x77)) : rotateTo p s = answer s.cfg.err.illegalPriority s := by
  rw [← priorityOk_iff, Bool.not_eq_true] at h
  simp [rotateTo, h]

/-- The caller's own level: it yields (R666). -/
theorem rotateTo_own {c : PSPThread} (ok : 0x08 ≤ p ∧ p ≤ 0x77) (hc : s.currentThread? = some c) (hp : c.priority = p) :
    rotateTo p s = outsideNested s (answerOk { s with sched := { s.sched with yieldRequested := true } }) := by
  simp [rotateTo, (priorityOk_iff p).2 ok, hc, hp]

theorem rotateTo_other (ok : 0x08 ≤ p ∧ p ≤ 0x77) (hc : ∀ c, s.currentThread? = some c → c.priority ≠ p) :
    rotateTo p s = answerOk (s.rotateLevel p) := by
  cases h : s.currentThread? with
  | none => simp [rotateTo, (priorityOk_iff p).2 ok, h]
  | some c => simp [rotateTo, (priorityOk_iff p).2 ok, h, hc c h]

/-- The level that the argument names, 0 being that of the caller. -/
theorem cmdRotateThreadReadyQueue_eq {a : CommandArgs} (hp : 0 < p)
    (h : a.a0.toNat = p ∨ (a.a0 = 0#32 ∧ ∃ c, s.currentThread? = some c ∧ c.priority = p)) :
    cmdRotateThreadReadyQueue a s = rotateTo p s := by
  obtain rfl | ⟨h0, c, hc, rfl⟩ := h
  · exact if_neg (ne_zero_of_toNat_eq rfl hp)
  · rw [cmdRotateThreadReadyQueue, if_pos h0, withCaller_of_some hc]

theorem outsideNested_none (h : s.sched.nested = none) (r : Result) : outsideNested s r = r := by simp [outsideNested, h]

theorem outsideNested_some (h : s.sched.nested ≠ none) (r : Result) : outsideNested s r = .refused .unmodelledKernelCase :=
  if_pos (Option.isSome_iff_ne_none.2 h)

end

/-! ### Changing a priority (R667) -/

section
variable {s : State} {th : PSPThread}

/-- The threads' records after a change of one of them. -/
theorem State.updateThread_lookup (h : s.thread? th.uid = some th) (f : PSPThread → PSPThread) (hf : ∀ t, (f t).uid = t.uid := by exact fun _ => rfl) :
    (s.updateThread th.uid f).thread? th.uid = some (f th) ∧ ∀ v, v ≠ th.uid → (s.updateThread th.uid f).thread? v = s.thread? v := by
  refine ⟨?_, fun v hv => ?_⟩
  · rw [State.updateThread_thread? s _ _ f hf, if_pos rfl, h]
    rfl
  · rw [State.updateThread_thread? s _ _ f hf, if_neg hv]

theorem cmdChangeThreadPriority_eq {a : CommandArgs} {p : Nat} (ok : 0x08 ≤ p ∧ p ≤ 0x77) (h : NamesThread s a.a0 th)
    (hp : a.a1.toNat = p ∨ (a.a1 = 0#32 ∧ ∃ c, s.currentThread? = some c ∧ c.priority = p)) :
    cmdChangeThreadPriority a s = answerOk (s.setPriority th p) := by
  rw [cmdChangeThreadPriority, withThread_of_names h]
  obtain rfl | ⟨h0, c, hc, rfl⟩ := hp
  · simp [ne_zero_of_toNat_eq rfl (by omega : 0 < a.a1.toNat), (priorityOk_iff _).2 ok]
  · rw [if_pos h0, withCaller_of_some hc]

/-- The record takes the priority, and the queue alone changes beside it. -/
theorem State.setPriority_frame (h : s.thread? th.uid = some th) (p : Nat) : CoreSame s (s.setPriority th p) ∧
    (s.setPriority th p).mem = s.mem ∧ (s.setPriority th p).thread? th.uid = some { th with priority := p } ∧
    (∀ v, v ≠ th.uid → (s.setPriority th p).thread? v = s.thread? v) ∧
    { (s.setPriority th p).sched with threads := s.sched.threads, readyQueue := s.sched.readyQueue } = s.sched := by
  obtain ⟨hself, hothers⟩ := State.updateThread_lookup h fun r => { r with priority := p }
  unfold State.setPriority
  dsimp only
  split <;> exact ⟨⟨rfl, rfl, rfl, rfl, rfl⟩, rfl, hself, hothers, rfl⟩

theorem State.setPriority_not_ready (h : th.status ≠ .ready) (p : Nat) :
    (s.setPriority th p).sched.readyQueue = s.sched.readyQueue := by
  rw [State.setPriority, if_neg h]
  rfl

/-- A READY thread goes behind the others of its new level: the queue without it is ordered as before. -/
theorem State.setPriority_ready (h : s.thread? th.uid = some th) (hr : th.status = .ready) (p : Nat) (nodup : s.sched.readyQueue.Nodup)
    (ordered : s.sched.readyQueue.Pairwise fun v w => s.priorityOf v ≤ s.priorityOf w) :
    ∃ q₁ q₂, s.sched.readyQueue.erase th.uid = q₁ ++ q₂ ∧ (s.setPriority th p).sched.readyQueue = q₁ ++ th.uid :: q₂ ∧
      (∀ v, v ∈ q₁ → s.priorityOf v ≤ p) ∧ ∀ v, v ∈ q₂ → p < s.priorityOf v := by
  let t := s.updateThread th.uid fun r => { r with priority := p }
  have prio : ∀ v, v ∈ s.sched.readyQueue.erase th.uid → t.priorityOf v = s.priorityOf v := fun v hv => by
    have hne : v ≠ th.uid := (nodup.mem_erase_iff.1 hv).1
    rw [State.priorityOf, (State.updateThread_lookup h fun r => { r with priority := p }).2 v hne, State.priorityOf]
  have erased : (s.sched.readyQueue.erase th.uid).Pairwise fun v w => t.priorityOf v ≤ t.priorityOf w :=
    (ordered.sublist List.erase_sublist).imp_of_mem fun hv hw hvw => by rwa [prio _ hv, prio _ hw]
  obtain ⟨q₁, q₂, hq, hins, h₁, h₂⟩ := insertReady_split t.priorityOf th.uid p _ erased
  have mem : ∀ v, v ∈ q₁ ++ q₂ → t.priorityOf v = s.priorityOf v := fun v hv => prio v (hq ▸ hv)
  refine ⟨q₁, q₂, hq, ?_, fun v hv => ?_, fun v hv => ?_⟩
  · rw [State.setPriority, if_pos hr]
    exact hins
  · exact mem v (by simp [hv]) ▸ h₁ v hv
  · exact mem v (by simp [hv]) ▸ h₂ v hv

end

/-- Settles O55: `insertReady` splits an ordered queue (`insertReady_split`, `enqueueReady_ordered`); a rotation and a change of priority
insert a thread again (`State.rotateLevel_queue`, `State.setPriority_ready`). -/
theorem readyQueueOrder : Obligations.ReadyQueueOrder := by
  unfold Obligations.ReadyQueueOrder
  refine ⟨?queue, ?levels, ?errors⟩
  case queue =>
    intro s u th h ordered
    exact ⟨enqueueReady_ordered h ordered, enqueueReady_full u, fun rest => selectReady_first h ordered,
      fun hq => by rw [State.selectReady, hq]⟩
  case levels =>
    intro s a p hmin hmax
    refine ⟨fun hp => ⟨fun c hc hcp => ?own, fun hother => ?other⟩, fun th hth hp => ?priority⟩
    case own =>
      have e : runCommand .rotateThreadReadyQueue a s = _ :=
        (cmdRotateThreadReadyQueue_eq (by omega) hp).trans (rotateTo_own ⟨hmin, hmax⟩ hc hcp)
      exact ⟨fun hn => answered_of_sched (e.trans (outsideNested_none hn _)), fun hn => e.trans (outsideNested_some hn _)⟩
    case other =>
      have e : runCommand .rotateThreadReadyQueue a s = _ :=
        (cmdRotateThreadReadyQueue_eq (by omega) hp).trans (rotateTo_other ⟨hmin, hmax⟩ hother)
      obtain ⟨core, hmem, hrest⟩ := s.rotateLevel_frame p
      rw [answerOk, core.cfg] at e
      obtain ⟨t, ht, ha, hs⟩ := answered_of_eq e core hmem
      refine ⟨t, ht, ha, by rw [hs]; exact hrest, fun q₁ v q₂ q₃ hq h₁ hv h₂ h₃ => ?_, fun hno => ?_⟩
      · rw [hs, State.rotateLevel_queue hq h₁ hv h₂ h₃]
      · rw [hs, State.rotateLevel_empty hno]
    case priority =>
      have hself := NamesThread.thread? hth
      have e : runCommand .changeThreadPriority a s = _ := cmdChangeThreadPriority_eq ⟨hmin, hmax⟩ hth hp
      obtain ⟨core, hmem, hthread, hothers, hrest⟩ := State.setPriority_frame hself p
      rw [answerOk, core.cfg] at e
      obtain ⟨t, ht, ha, hs⟩ := answered_of_eq e core hmem
      refine ⟨t, ht, ha, (State.thread?_congr hs _).trans hthread, fun v hv => (State.thread?_congr hs v).trans (hothers v hv),
        by rw [hs]; exact hrest, fun hr => ?_, fun hr nodup ordered => ?_⟩
      · rw [hs, State.setPriority_not_ready hr]
      · rw [hs]
        exact State.setPriority_ready hself hr p nodup ordered
  case errors =>
    intro s a
    refine ⟨fun h0 hp => ?level, fun h0 hth => ?unknown, fun th hth h0 h1 hp => ?illegal⟩
    case level => exact answered_unchanged ((if_neg h0).trans (rotateTo_illegal hp))
    case unknown => exact answered_unchanged (withThread_unknown h0 hth _)
    case illegal =>
      refine answered_unchanged ((withThread_of_names (.inl ⟨h0, hth⟩) _).trans ?_)
      rw [← priorityOk_iff, Bool.not_eq_true] at hp
      simp [h1, hp]

end Sys2Proof.Machine
end

section
/-! PROOF. A quantum (48_scheduler.md R627 to R644), phase by phase: the call and its loop head, the run loop and its stop tests, and the
context save with requeue, deletion and idle credit. -/

namespace Sys2Proof.Machine

open Sys2Proof

section
variable {s : State} (running : s.failure = none) (live : s.refused = none) (outside : s.sched.nested = none)
include running live outside

/-- Outside a nested run a live step is what the phase says [log 16]. -/
theorem step_eq_phaseStep : step s = phaseStep s := by
  rw [step_eq_liveStep running live, liveStep, outside]

theorem step_host (h : s.sched.phase = .host) : step s = .next (beginCall s) := by
  rw [step_eq_phaseStep running live outside, phaseStep, h]

theorem step_frame (h : s.sched.phase = .frame) : step s = .next (frameStep s) := by
  rw [step_eq_phaseStep running live outside, phaseStep, h]

theorem step_run (h : s.sched.phase = .run) : step s = runStep s := by
  rw [step_eq_phaseStep running live outside, phaseStep, h]

theorem step_callbacks {todo : List Word} (h : s.sched.phase = .callbacks todo) : step s = .next (callbackStep todo s) := by
  rw [step_eq_phaseStep running live outside, phaseStep, h]

theorem step_interrupts {n : Nat} (h : s.sched.phase = .interrupts n) : step s = .next (interruptStep n s) := by
  rw [step_eq_phaseStep running live outside, phaseStep, h]

theorem step_reevaluate (h : s.sched.phase = .reevaluate) : step s = reevaluateStep s := by
  rw [step_eq_phaseStep running live outside, phaseStep, h]

theorem step_finish (h : s.sched.phase = .finish) : step s = finishStep s := by
  rw [step_eq_phaseStep running live outside, phaseStep, h]

end

section
variable {s : State}

/-! ### The call and the quantum's start (R627, R633) -/

theorem beginCall_of_nil (h : s.sched.calls = []) : beginCall s = s.startCall s.cfg.frameBudget := by rw [beginCall, h]

theorem beginCall_of_cons {n : Int} {rest : List Int} (h : s.sched.calls = n :: rest) :
    beginCall s = State.startCall { s with sched := { s.sched with calls := rest } } n := by rw [beginCall, h]

theorem beginCall_frame (s : State) : (beginCall s).sched.phase = .frame ∧ (beginCall s).sched.consumed = 0 ∧
    (beginCall s).cpu = s.cpu ∧ (beginCall s).mem = s.mem := by
  unfold beginCall
  split <;> exact ⟨rfl, rfl, rfl, rfl⟩

theorem frameStep_spent (h : s.sched.callCycles ≤ s.sched.consumed) : frameStep s = s.setPhase .host := if_pos h

/-- The state whose `downcount` is the quantum's budget (R627, R641). -/
def State.budgeted (s : State) : State :=
  { s with sched := { s.sched with downcount := (min s.cfg.quantumCycles (s.sched.callCycles - s.sched.consumed) : Nat) } }

theorem frameStep_selected {th : PSPThread} (h : s.sched.consumed < s.sched.callCycles) (hs : s.selectReady = some th) :
    frameStep s = (s.budgeted.loadThread th).setPhase .run := by
  have selected : s.budgeted.selectReady = some th := hs
  rw [State.budgeted] at selected
  simp only [frameStep, Nat.not_le.2 h, if_false, selected]
  rfl

/-- The selected thread is the first of the ready queue, and in the table (R631). -/
theorem selectReady_eq_some {th : PSPThread} (h : s.selectReady = some th) :
    s.thread? th.uid = some th ∧ ∃ rest, s.sched.readyQueue = th.uid :: rest := by
  unfold State.selectReady at h
  split at h
  · rename_i u rest hq
    obtain rfl := State.thread?_uid h
    exact ⟨h, rest, hq⟩
  · cases h

/-! ### The run loop (R634, R635) -/

theorem runStep_pending (h : s.pending = true) : runStep s = accounted State.account (fetchAndExecute s) := if_pos h

theorem runStep_over (hp : s.pending = false) (h : s.quantumOver = true) : runStep s = .next (endRunLoop s) := by
  simp [runStep, hp, h]

theorem runStep_exit {c : PSPThread} (hp : s.pending = false) (hq : s.quantumOver = false) (hpc : s.cpu.pc = s.cfg.threadExitAddr)
    (hc : s.currentThread? = some c) : runStep s = .next (endRunLoop (exitCurrent c (s.x 2#5) false s)) := by
  simp [runStep, hp, hq, hpc, hc]

/-- The end of the run loop clears the yield request and goes on to step 4; nothing else changes. -/
theorem endRunLoop_frame (s : State) : (endRunLoop s).cpu = s.cpu ∧ (endRunLoop s).mem = s.mem ∧ (endRunLoop s).sched.phase ≠ .run ∧
    (endRunLoop s).sched.yieldRequested = false ∧ (endRunLoop s).sched.now = s.sched.now ∧
    ∀ u, (endRunLoop s).thread? u = s.thread? u := by
  unfold endRunLoop
  dsimp only
  split <;> exact ⟨rfl, rfl, nofun, rfl, rfl, fun _ => rfl⟩

/-- The caller's record after its exit (R656). -/
theorem exitCurrent_thread? {c : PSPThread} (h : s.thread? c.uid = some c) (status : Word) (del : Bool) :
    (exitCurrent c status del s).thread? c.uid =
      some { c with status := .dormant, exitStatus := status, deletePending := c.deletePending || del } :=
  (State.updateThread_lookup h fun t => { t with status := .dormant, exitStatus := status, deletePending := t.deletePending || del }).1

/-! ### The quantum's end (R639, R643, R644) -/

/-- The end of a quantum whose thread is `u`, saved and then requeued, destroyed or left. -/
theorem finishStep_current {u : Word} {t : State} (h : s.sched.current = some u) (hr : requeueOrDelete u (s.saveThread u) = .next t)
    (hf : t.failure = none) : finishStep s = .next (t.creditIdle.displayStep.setPhase .frame) := by
  simp only [finishStep, h, hr]
  exact andThen_next hf _

/-- The display list changes memory and its own draw alone (R629). -/
theorem State.displayStep_sched (s : State) : s.displayStep.sched = s.sched := by
  unfold State.displayStep
  split
  · rfl
  · exact List.foldlRecOn (motive := fun t : State => t.sched = s.sched) _ _ rfl fun t ht c _ => by simpa using ht

theorem State.displayStep_identity (h : s.cfg.displayStep = .identity) : s.displayStep = s := by rw [State.displayStep, h]

/-- Looking a thread up after the idle credit and the display list. -/
theorem finished_thread? (t : State) (u : Word) : (t.creditIdle.displayStep.setPhase .frame).thread? u = t.thread? u := by
  change t.creditIdle.displayStep.sched.threads.find? _ = _
  rw [State.displayStep_sched]
  rfl

/-- A list of the scheduler that no step of the quantum's end but requeueing changes. -/
theorem finished_sched (t : State) : (t.creditIdle.displayStep.setPhase .frame).sched = { t.creditIdle.sched with phase := .frame } := by
  simp only [State.setPhase, State.displayStep_sched]

/-- The thread's record after the save (R639). -/
theorem saveThread_thread? {u : Word} {th : PSPThread} (h : s.thread? u = some th) :
    (s.saveThread u).thread? u = some { th with ctx := s.cpu.toContext } := by
  obtain rfl := State.thread?_uid h
  exact (State.updateThread_lookup h fun r => { r with ctx := s.cpu.toContext }).1

/-- The save keeps every priority. -/
theorem saveThread_priorityOf (s : State) (u : Word) : (s.saveThread u).priorityOf = s.priorityOf := funext fun v =>
  s.updateThread_priorityOf u v (fun r => { r with ctx := s.cpu.toContext }) (fun _ => rfl) fun _ => rfl

theorem requeueOrDelete_running {u : Word} {th : PSPThread} (h : s.thread? u = some th) (hs : th.status = .running) :
    requeueOrDelete u s = enqueueReady u s := by simp [requeueOrDelete, h, hs]

theorem requeueOrDelete_destroyed {u : Word} {th : PSPThread} (h : s.thread? u = some th) (hs : th.status = .dormant)
    (hd : th.deletePending = true) : requeueOrDelete u s = .next (s.destroyThread u) := by simp [requeueOrDelete, h, hs, hd]

theorem requeueOrDelete_left {u : Word} {th : PSPThread} (h : s.thread? u = some th)
    (hs : th.status = .waiting ∨ (th.status = .dormant ∧ th.deletePending = false)) : requeueOrDelete u s = .next s := by
  rcases hs with hs | ⟨hs, hd⟩
  · simp [requeueOrDelete, h, hs]
  · simp [requeueOrDelete, h, hs, hd]

/-- A destroyed thread is gone, with its callbacks (R643, R658). -/
theorem State.destroyThread_thread? (s : State) (u v : Word) : (s.destroyThread u).thread? v = if v = u then none else s.thread? v :=
  find?_filter_key PSPThread.uid u v s.sched.threads

/-- No thread is current, and memory, the parameters and the clocks are those of `s`: where the idle credit starts. -/
structure Descheduled (s t : State) : Prop where
  current : t.sched.current = none
  mem : t.mem = s.mem
  cfg : t.cfg = s.cfg
  idleCycles : t.sched.idleCycles = s.sched.idleCycles
  now : t.sched.now = s.sched.now
  consumed : t.sched.consumed = s.sched.consumed
  downcount : t.sched.downcount = s.sched.downcount

theorem State.saveThread_descheduled (s : State) (u : Word) : Descheduled s (s.saveThread u) := ⟨rfl, rfl, rfl, rfl, rfl, rfl, rfl⟩

theorem requeueOrDelete_descheduled {t : State} (h : Descheduled s t) (u : Word) : Ensures (Descheduled s) (requeueOrDelete u t) := by
  obtain ⟨hcurrent, hmem, hcfg, hidle, hnow, hconsumed, hdown⟩ := h
  unfold requeueOrDelete
  split
  · exact .ite (.ite (.refuse _) (.next ⟨hcurrent, hmem, hcfg, hidle, hnow, hconsumed, hdown⟩))
      (.ite (.next ⟨hcurrent, hmem, hcfg, hidle, hnow, hconsumed, hdown⟩) (.next ⟨hcurrent, hmem, hcfg, hidle, hnow, hconsumed, hdown⟩))
  · exact .next ⟨hcurrent, hmem, hcfg, hidle, hnow, hconsumed, hdown⟩

/-- How a quantum that began its end at `s` has ended: memory is kept where the display list does, and the rest of `downcount` is
credited. -/
structure QuantumEnded (s t : State) : Prop where
  current : t.sched.current = none
  mem : s.cfg.displayStep = .identity → t.mem = s.mem
  idleCycles : t.sched.idleCycles = s.sched.idleCycles + s.sched.downcount.toNat
  now : t.sched.now = s.sched.now + s.sched.downcount.toNat
  consumed : t.sched.consumed = s.sched.consumed + s.sched.downcount.toNat

theorem Descheduled.ended {t : State} (h : Descheduled s t) : QuantumEnded s (t.creditIdle.displayStep.setPhase .frame) where
  current := by rw [finished_sched]; exact h.current
  mem hid := by
    have identity : t.creditIdle.cfg.displayStep = .identity := by rw [← hid, ← h.cfg]; rfl
    rw [State.displayStep_identity identity]
    exact h.mem
  idleCycles := by rw [finished_sched]; simp [State.creditIdle, h.idleCycles, h.downcount]
  now := by rw [finished_sched]; simp [State.creditIdle, h.now, h.downcount]
  consumed := by rw [finished_sched]; simp [State.creditIdle, h.consumed, h.downcount]

/-- A failure stops a computation. -/
theorem andThen_failed {t : State} (h : t.failure.isSome = true) (k : State → Result) : Machine.andThen (.next t) k = .next t := if_pos h

/-- What a computation ensures that has run to its end. -/
theorem Ensures.andThen_completed {P Q : State → Prop} {r : Result} {k : State → Result} (h : Ensures Q r)
    (hk : ∀ t, Q t → Ensures P (k t)) : Ensures (fun t => t.failure = none → P t) (Machine.andThen r k) := by
  cases r with
  | next t =>
    by_cases hf : t.failure = none
    · rw [andThen_next hf]
      exact fun u hu _ => hk t (h t rfl) u hu
    · rw [andThen_failed (Option.isSome_iff_ne_none.2 hf)]
      exact .next fun h => absurd h hf
  | fault e => exact .fault e
  | refused e => exact .refused e

theorem finishStep_ended (s : State) : Ensures (fun t => t.failure = none → QuantumEnded s t) (finishStep s) := by
  refine Ensures.andThen_completed (Q := Descheduled s) ?_ fun t ht => .next ht.ended
  split
  · exact requeueOrDelete_descheduled (s.saveThread_descheduled _) _
  · exact .next ⟨‹_›, rfl, rfl, rfl, rfl, rfl, rfl⟩

end

/-- Settles O56: each clause is one phase of the quantum (`step_host` to `step_finish`) on the state that its hypotheses describe. -/
theorem quantumContextSwitch : Obligations.QuantumContextSwitch := by
  unfold Obligations.QuantumContextSwitch
  intro s running live outside
  refine ⟨fun h => ?call, fun h hspent => ?returned, fun h hp => ?pending, fun th h hleft hsel => ?start, fun h hp hover => ?stopped,
    fun c h hp hq hpc hc => ?exit, fun u th h hcur hth => ⟨fun hs room => ?requeued, fun hs hd => ?destroyed, fun hs => ?left⟩,
    fun h => ?credit⟩
  case call =>
    obtain ⟨hphase, hconsumed, hcpu, hmem⟩ := beginCall_frame s
    refine ⟨_, step_host running live outside h, hphase, hconsumed, hcpu, hmem, fun hnil => ?_, fun n rest hcons => ?_⟩
    · rw [beginCall_of_nil hnil]
      exact ⟨rfl, hnil⟩
    · rw [beginCall_of_cons hcons]
      exact ⟨rfl, rfl⟩
  case returned =>
    refine ⟨_, step_frame running live outside h, ?_⟩
    rw [frameStep_spent hspent]
    exact ⟨rfl, rfl, rfl⟩
  case pending =>
    refine ⟨by simp [State.runsNext, running, live, outside, h, hp], fun t ht => ?_⟩
    rw [step_run running live outside h, runStep_pending hp] at ht
    exact ((fetchAndExecute_phase s).accounted (P := PhaseSame s) (f := State.account) fun _ => id).ensures t ht |>.trans h
  case start =>
    obtain ⟨hth, rest, hq⟩ := selectReady_eq_some hsel
    refine ⟨_, step_frame running live outside h, ?_⟩
    rw [frameStep_selected hleft hsel]
    refine ⟨rfl, rfl, rfl, (State.updateThread_lookup hth fun r => { r with status := .running }).1, ?_, rfl, rfl⟩
    change s.sched.readyQueue = th.uid :: s.sched.readyQueue.erase th.uid
    rw [hq, List.erase_cons_head]
  case stopped =>
    obtain ⟨hcpu, hmem, hphase, hyield, hnow, -⟩ := endRunLoop_frame s
    exact ⟨_, (step_run running live outside h).trans (runStep_over hp hover), hcpu, hmem, hphase, hyield, hnow⟩
  case exit =>
    obtain ⟨hcpu, hmem, hphase, -, -, hthreads⟩ := endRunLoop_frame (exitCurrent c (s.x 2#5) false s)
    refine ⟨_, (step_run running live outside h).trans (runStep_exit hp hq hpc hc), hcpu, hmem, hphase, ?_⟩
    rw [hthreads, exitCurrent_thread? (State.currentThread?_thread? hc).2, Bool.or_false]
  case requeued =>
    have saved := saveThread_thread? hth
    obtain ⟨t, ht, core, -, hready, -, hqueue, -⟩ := enqueueReady_spec saved (show s.sched.readyQueue.length < s.cfg.readyCapacity from room)
    have e := finishStep_current hcur ((requeueOrDelete_running saved hs).trans ht) (core.failure.trans running)
    refine ⟨_, (step_finish running live outside h).trans e, (finished_thread? t u).trans hready, ?_⟩
    rw [finished_sched]
    exact hqueue.trans (by rw [saveThread_priorityOf]; rfl)
  case destroyed =>
    have e := finishStep_current hcur (requeueOrDelete_destroyed (saveThread_thread? hth) hs hd) running
    refine ⟨_, (step_finish running live outside h).trans e, ?_, ?_⟩
    · rw [finished_thread?, State.destroyThread_thread?, if_pos rfl]
    · rw [finished_sched]
      simp [State.creditIdle, State.destroyThread]
  case left =>
    have saved := saveThread_thread? hth
    have e := finishStep_current hcur (requeueOrDelete_left saved hs) running
    refine ⟨_, (step_finish running live outside h).trans e, (finished_thread? _ u).trans saved, ?_⟩
    rw [finished_sched]
    rfl
  case credit =>
    rw [step_finish running live outside h]
    intro t ht hf
    obtain ⟨hcurrent, hmem, hidle, hnow, hconsumed⟩ := finishStep_ended s t ht hf
    exact ⟨hcurrent, hmem, hidle, hnow, hconsumed⟩

end Sys2Proof.Machine
end

section
/-! PROOF. Nested handlers (48_scheduler.md R637, R638, R640; 60_exceptions.md R708 to R713): a callback, an interrupt and an alarm all enter
by `State.enterHandler`, and all return by `State.leaveHandler`. -/

namespace Sys2Proof.Machine

open Sys2Proof

/-! ### The entry (R637, R710) -/

/-- A handler has been entered from `s` with its arguments: the live ProcessorState is saved, the poison is written, and memory, the other
registers and the interrupt enable are as before. -/
def HandlerEntered (s t : State) (handler a0 a1 a2 : Word) : Prop :=
  t.sched.nested = some s.cpu ∧ t.cpu.pc = handler ∧ t.pending = false ∧ t.mem = s.mem ∧ FprSame s t ∧ VprSame s t ∧ VcSame s t ∧
    FlagsSame s t ∧ t.cpu.hi = 0xDEADBEEF#32 ∧ t.cpu.lo = 0xDEADBEEF#32 ∧ t.sched.intrEnabled = s.sched.intrEnabled ∧
    ∀ r : GReg, t.x r = if r = 4#5 then a0 else if r = 5#5 then a1 else if r = 6#5 then a2
      else if r = 31#5 then s.cfg.handlerReturnAddr
      else if r.toNat ∈ [1, 7, 8, 9, 10, 11, 12, 13, 14, 15, 24, 25] then 0xDEADBEEF#32 else s.x r

/-- The poisoned set (44_system.md R402) but for the registers that pass the arguments. -/
theorem isPoisoned_iff_of_ne {r : GReg} (h4 : r ≠ 4#5) (h5 : r ≠ 5#5) (h6 : r ≠ 6#5) :
    isPoisoned r.toNat = true ↔ r.toNat ∈ [1, 7, 8, 9, 10, 11, 12, 13, 14, 15, 24, 25] := by
  have n4 : r.toNat ≠ 4 := fun h => h4 (BitVec.eq_of_toNat_eq h)
  have n5 : r.toNat ≠ 5 := fun h => h5 (BitVec.eq_of_toNat_eq h)
  have n6 : r.toNat ≠ 6 := fun h => h6 (BitVec.eq_of_toNat_eq h)
  rw [isPoisoned_iff]
  simp [n4, n5, n6]

theorem enterHandler_entered (s : State) (handler a0 a1 a2 : Word) : HandlerEntered s (s.enterHandler handler a0 a1 a2) handler a0 a1 a2 := by
  refine ⟨rfl, rfl, rfl, rfl, fun _ => rfl, fun _ => rfl, fun _ => rfl, ⟨rfl, rfl, rfl⟩, rfl, rfl, rfl, fun r => ?_⟩
  rw [State.enterHandler_x]
  by_cases h4 : r = 4#5
  · simp [h4]
  · by_cases h5 : r = 5#5
    · simp [h5]
    · by_cases h6 : r = 6#5
      · simp [h6]
      · simp only [h4, h5, h6, if_false, isPoisoned_iff_of_ne h4 h5 h6]

/-- The state whose first pending entry is taken out (R640). -/
def State.popped (s : State) (rest : List PendingEntry) (n : Nat) : State :=
  { s with sched := { s.sched with pendingIntr := rest, phase := .interrupts n } }

/-- The queue of pending entries is no part of what the entry of a handler saves or keeps. -/
theorem HandlerEntered.of_popped {s t : State} {rest : List PendingEntry} {n : Nat} {handler a0 a1 a2 : Word}
    (h : HandlerEntered (s.popped rest n) t handler a0 a1 a2) : HandlerEntered s t handler a0 a1 a2 := by
  obtain ⟨hn, hpc, hp, hm, hfpr, hvpr, hvc, hflags, hrest⟩ := h
  exact ⟨hn, hpc, hp, hm, hfpr, hvpr, hvc, ⟨hflags.fcr31, hflags.fpcond, hflags.llBit⟩, hrest⟩

/-! ### What is entered in steps 4 and 5 (R638, R640) -/

section
variable {s : State}

theorem callbackStep_cons {u : Word} {c : Callback} (h : s.callback? u = some c) (rest : List Word) :
    callbackStep (u :: rest) s = s.enterHandler c.handler (BitVec.ofNat 32 c.notifyCount) c.notifyArg c.arg := by
  rw [callbackStep, h]

variable {e : PendingEntry} {rest : List PendingEntry} (hq : s.sched.pendingIntr = e :: rest) (n : Nat)
include hq

/-- With interrupts disabled the queue is kept (R708). -/
theorem interruptStep_disabled (off : s.sched.intrEnabled = false) : interruptStep (n + 1) s = s.setPhase .reevaluate := by
  simp [interruptStep, hq, off]

variable (on : s.sched.intrEnabled = true)
include on

/-- An enabled record of the first entry is entered (R709, R710). -/
theorem interruptStep_entered {num sub : Word} {h : IntrHandler} (he : e = .interrupt num sub) (hh : s.intrHandler? num sub = some h)
    (enabled : h.enabled = true) : interruptStep (n + 1) s = (s.popped rest n).enterHandler h.handler sub h.arg 0#32 := by
  subst he
  have found : (s.popped rest n).intrHandler? num sub = some h := hh
  unfold interruptStep
  rw [hq]
  dsimp only
  rw [if_pos on]
  split
  next h' hh' =>
    obtain rfl := Option.some.inj (hh'.symm.trans found)
    exact if_pos enabled
  next hnone => exact absurd (hnone.symm.trans found) nofun

/-- An entry without an enabled record is dropped. -/
theorem interruptStep_dropped {num sub : Word} (he : e = .interrupt num sub)
    (hh : ∀ h, s.intrHandler? num sub = some h → h.enabled = false) : interruptStep (n + 1) s = s.popped rest n := by
  subst he
  unfold interruptStep
  rw [hq]
  dsimp only
  rw [if_pos on]
  split
  next h hh' => exact if_neg (by simp [hh h hh'])
  next => rfl

theorem interruptStep_alarm {handler arg : Word} (he : e = .alarm handler arg) :
    interruptStep (n + 1) s = (s.popped rest n).enterHandler handler arg 0#32 0#32 := by
  subst he
  simp [interruptStep, hq, on, State.popped]

end

/-! ### The return (R637, R711) -/

section
variable {s : State}

theorem step_return {saved : ProcessorState} (running : s.failure = none) (live : s.refused = none) (hn : s.sched.nested = some saved)
    (hpc : s.cpu.pc = s.cfg.handlerReturnAddr) (hp : s.pending = false) : step s = .next (afterNested (s.leaveHandler saved)) := by
  rw [step_eq_liveStep running live, liveStep, hn]
  exact if_pos ⟨hpc, hp⟩

/-- What remains of a phase after a nested run touches the callbacks alone (R638). -/
theorem afterNested_frame (s : State) : (afterNested s).cpu = s.cpu ∧ (afterNested s).sched.nested = s.sched.nested ∧
    (afterNested s).mem = s.mem ∧ (afterNested s).sched.intrEnabled = s.sched.intrEnabled ∧
    (afterNested s).sched.threads = s.sched.threads := by
  unfold afterNested
  split <;> exact ⟨rfl, rfl, rfl, rfl, rfl⟩

/-- The callback that ran is no longer notified, and the next one is due (R638). -/
theorem afterNested_callback {u : Word} {rest : List Word} {c : Callback} (h : s.sched.phase = .callbacks (u :: rest))
    (hc : s.callback? u = some c) : (afterNested s).sched.phase = .callbacks rest ∧
    (afterNested s).callback? u = some { c with notifyCount := 0 } := by
  have cleared := s.updateCallback_callback? u u (fun q => { q with notifyCount := 0 }) fun _ => rfl
  rw [if_pos rfl, hc] at cleared
  rw [afterNested, h]
  exact ⟨rfl, cleared⟩

end

/-- Settles O57: every handler is entered from the state that the scheduler left (`enterHandler_entered`), and the trampoline restores what
the entry saved (`step_return`). -/
theorem handlersEnterAndReturn : Obligations.HandlersEnterAndReturn := by
  unfold Obligations.HandlersEnterAndReturn
  refine ⟨?enter, ?leave⟩
  case enter =>
    intro s entered hentered running live outside
    have enters (handler a0 a1 a2 : Word) : entered (s.enterHandler handler a0 a1 a2) handler a0 a1 a2 :=
      (hentered _ _ _ _ _).2 (enterHandler_entered s handler a0 a1 a2)
    have entersPopped (rest : List PendingEntry) (n : Nat) (handler a0 a1 a2 : Word) :
        entered ((s.popped rest n).enterHandler handler a0 a1 a2) handler a0 a1 a2 :=
      (hentered _ _ _ _ _).2 (enterHandler_entered _ handler a0 a1 a2).of_popped
    refine ⟨fun u rest c h hc => ⟨_, step_callbacks running live outside h, ?callback⟩,
      fun n e rest h hq => ⟨fun off => ⟨_, step_interrupts running live outside h, ?disabled⟩, fun on => ⟨fun num sub hr he hh enabled =>
        ⟨_, step_interrupts running live outside h, ?interrupt⟩, fun num sub he hh => ⟨_, step_interrupts running live outside h, ?dropped⟩,
        fun handler arg he => ⟨_, step_interrupts running live outside h, ?alarm⟩⟩⟩⟩
    case callback =>
      rw [callbackStep_cons hc]
      exact enters _ _ _ _
    case disabled =>
      rw [interruptStep_disabled hq n off]
      exact ⟨hq, outside, rfl, rfl, rfl⟩
    case interrupt =>
      rw [interruptStep_entered hq n on he hh enabled]
      exact ⟨rfl, entersPopped rest n _ _ _ _⟩
    case dropped =>
      rw [interruptStep_dropped hq n on he hh]
      exact ⟨rfl, outside, rfl, rfl⟩
    case alarm =>
      rw [interruptStep_alarm hq n on he]
      exact ⟨rfl, entersPopped rest n _ _ _ _⟩
  case leave =>
    intro s saved running live hn hpc hp
    obtain ⟨hcpu, hnested, hmem, hintr, hthreads⟩ := afterNested_frame (s.leaveHandler saved)
    refine ⟨_, step_return running live hn hpc hp, hcpu, hnested, hmem, hintr, hthreads, fun u rest c h hc => ?_⟩
    exact afterNested_callback (s := s.leaveHandler saved) h hc

end Sys2Proof.Machine
end

section
/-! PROOF. The re-evaluation of the waiting threads (48_scheduler.md R642, R650) and the expiry of alarms (R640; 92_eei_decisions.md D80): a
thread is released from the state that its wait's effect leaves (`setResult_release_spec`), and the expired alarms are sorted by an
insertion that keeps the order of creation among equal deadlines. -/

namespace Sys2Proof.Machine

open Sys2Proof

/-! ### The condition of a wait (R650) -/

/-- What each wait type waits for. -/
def WaitHolds (s : State) (th : PSPThread) : Prop :=
  (th.wait = .sleep ∧ 0 < th.wakeupCount) ∨ (th.wait = .delay ∧ ∃ d, th.deadline = some d ∧ d ≤ s.sched.now) ∨
    (∃ q need o, th.wait = .sema q need ∧ s.sema? q = some o ∧ need ≤ o.count) ∨
    (∃ q m mode out o, th.wait = .eventFlag q m mode out ∧ s.eventFlag? q = some o ∧
      if mode.getLsbD 0 then o.bits &&& m ≠ 0#32 else o.bits &&& m = m) ∨
    (∃ v w, th.wait = .threadEnd v ∧ s.thread? v = some w ∧ w.status = .dormant) ∨
    ∃ id, th.wait = .external id ∧ Config.extWaitDone id s = true

theorem waitDone_iff (s : State) (th : PSPThread) : s.waitDone th = true ↔ WaitHolds s th := by
  unfold State.waitDone WaitHolds
  cases th.wait with
  | none => simp
  | sleep => simp
  | delay => cases th.deadline <;> simp
  | sema q need => cases hq : s.sema? q <;> simp [hq]
  | eventFlag q m mode out => cases hq : s.eventFlag? q <;> simp [hq, evfMatch_iff]
  | threadEnd v => cases hv : s.thread? v <;> simp [hv]
  | external id => simp

theorem timedOut_iff (s : State) (th : PSPThread) : s.timedOut th = true ↔ ∃ d, th.deadline = some d ∧ d ≤ s.sched.now := by
  unfold State.timedOut
  cases th.deadline <;> simp

/-! ### One waiting thread (R642) -/

section
variable {s : State} {u : Word} {th : PSPThread} (h : s.thread? u = some th)
include h

/-- A satisfied wait: its effect, then the release with its value. -/
theorem reevaluateOne_done {t : State} (done : s.waitDone th = true) (effect : waitEffect th s = .next t) (hf : t.failure = none) :
    reevaluateOne u s = release u (t.setResult u (s.waitValue th)) := by
  simp only [reevaluateOne, h, done, if_true, effect]
  exact andThen_next hf _

/-- A satisfied wait whose effect fails. -/
theorem reevaluateOne_failed {t : State} (done : s.waitDone th = true) (effect : waitEffect th s = .next t)
    (hf : t.failure.isSome = true) : reevaluateOne u s = .next t := by
  simp only [reevaluateOne, h, done, if_true, effect]
  exact andThen_failed hf _

theorem reevaluateOne_timedOut (waits : s.waitDone th = false) (late : s.timedOut th = true) :
    reevaluateOne u s = release u (s.setResult u s.cfg.err.waitTimeout) := by
  simp [reevaluateOne, h, waits, late]

theorem reevaluateOne_waits (waits : s.waitDone th = false) (early : s.timedOut th = false) : reevaluateOne u s = .next s := by
  simp [reevaluateOne, h, waits, early]

variable (notCurrent : s.sched.current ≠ some u) (room : s.sched.readyQueue.length < s.cfg.readyCapacity)
include notCurrent room

/-- The release of a thread from a state that nothing has changed. -/
theorem release_unchanged (v : Word) : ∃ t, release u (s.setResult u v) = .next t ∧ Released u th v s t ∧ t.mem = s.mem ∧
    t.sched.semaphores = s.sched.semaphores ∧ t.sched.eventFlags = s.sched.eventFlags :=
  setResult_release_spec ⟨rfl, rfl, rfl, rfl, rfl⟩ notCurrent h h rfl (fun _ _ => rfl) rfl room v

/-- The release of a thread from a state in which memory, the semaphores or the event flags have changed. -/
theorem release_effect {s' : State} (core : CoreSame s s') (rest : { s'.sched with
      semaphores := s.sched.semaphores, eventFlags := s.sched.eventFlags } = s.sched) (v : Word) :
    ∃ t, release u (s'.setResult u v) = .next t ∧ Released u th v s t ∧ t.mem = s'.mem ∧
      t.sched.semaphores = s'.sched.semaphores ∧ t.sched.eventFlags = s'.sched.eventFlags := by
  have threads : s'.sched.threads = s.sched.threads := by
    have e := congrArg (fun q : Scheduler => q.threads) rest
    exact e
  have look (w : Word) : s'.thread? w = s.thread? w := by rw [State.thread?, threads, State.thread?]
  refine setResult_release_spec core notCurrent h ((look u).trans h) rfl (fun w _ => look w) ?_ room v
  rw [← threads]
  exact rest

variable (running : s.failure = none) (done : s.waitDone th = true)
include running done

/-- A wait without an effect. -/
theorem reevaluateOne_released {v : Word} (effect : waitEffect th s = .next s) (value : s.waitValue th = v) :
    ∃ t, reevaluateOne u s = .next t ∧ Released u th v s t ∧ t.mem = s.mem ∧ t.sched.semaphores = s.sched.semaphores ∧
      t.sched.eventFlags = s.sched.eventFlags := by
  rw [reevaluateOne_done h done effect running, value]
  exact release_unchanged h notCurrent room v

/-- A sleeping thread takes its wakeup (R650). -/
theorem reevaluateOne_sleep (hw : th.wait = .sleep) : ∃ t, reevaluateOne u s = .next t ∧
    Released u { th with wakeupCount := th.wakeupCount - 1 } s.cfg.err.ok s t ∧ t.mem = s.mem ∧
    t.sched.semaphores = s.sched.semaphores ∧ t.sched.eventFlags = s.sched.eventFlags := by
  have effect : waitEffect th s = .next (s.updateThread th.uid fun t => { t with wakeupCount := t.wakeupCount - 1 }) := by
    rw [waitEffect, hw]
  have value : s.waitValue th = s.cfg.err.ok := by rw [State.waitValue, hw]
  rw [reevaluateOne_done h done effect running, value]
  obtain rfl := State.thread?_uid h
  obtain ⟨hself, hothers⟩ := State.updateThread_lookup h fun t => { t with wakeupCount := t.wakeupCount - 1 }
  exact setResult_release_spec (s₀ := s) (s := s.updateThread th.uid _) ⟨rfl, rfl, rfl, rfl, rfl⟩ notCurrent h hself rfl hothers rfl room _

/-- A thread that waits for a semaphore takes its count (R650). -/
theorem reevaluateOne_sema {q : Word} {need : Int} {o : Semaphore} (hw : th.wait = .sema q need) (hq : s.sema? q = some o) :
    ∃ t, reevaluateOne u s = .next t ∧ Released u th s.cfg.err.ok s t ∧ t.mem = s.mem ∧
      t.sched.eventFlags = s.sched.eventFlags ∧
      ∀ w, t.sema? w = if w = q then some { o with count := o.count - need } else s.sema? w := by
  have effect : waitEffect th s = .next (s.setSemaCount q (o.count - need)) := by
    rw [waitEffect, hw]
    simp [hq]
  have value : s.waitValue th = s.cfg.err.ok := by rw [State.waitValue, hw]
  rw [reevaluateOne_done h done effect running, value]
  obtain ⟨t, ht, released, hmem, hsema, hflags⟩ := release_effect (s' := s.setSemaCount q (o.count - need)) h notCurrent room
    ⟨rfl, rfl, rfl, rfl, rfl⟩ rfl s.cfg.err.ok
  refine ⟨t, ht, released, hmem, hflags, fun w => ?_⟩
  have counts := s.setSemaCount_sema? q w (o.count - need)
  rw [hq] at counts
  rw [State.sema?, hsema]
  exact counts

end

/-! ### The report of an event flag (R678) -/

/-- The bits after a match, the clears of the mode in order (R678). -/
theorem evfClear_eq (bits pattern mode : Word) : evfClear bits pattern mode =
    if mode.getLsbD 4 then 0#32 else if mode.getLsbD 5 then bits &&& ~~~pattern else bits := rfl

section
variable {s : State} {o : EventFlag} {out : Word} (word pattern mode : Word)

/-- The report writes the old bits, unless its address is 0, and the mode clears its bits. -/
theorem evfReport_ok (h : out = 0#32 ∨ Accessible s out 4 4) : evfReport word o pattern mode out s =
    .next ((if out = 0#32 then s else s.storeWord out o.bits).setEventBits o.uid (evfClear o.bits pattern mode)) := by
  unfold evfReport
  dsimp only
  by_cases h0 : out = 0#32
  · simp [h0]
  · have accessible : accessFault s.cfg out 4 4 = none := h.resolve_left h0
    simp [h0, accessible]

/-- A bad report address fails, a misaligned one too [log 18]. -/
theorem evfReport_bad (h0 : out ≠ 0#32) (h : ¬ Accessible s out 4 4) :
    evfReport word o pattern mode out s = .next (s.latchFailure .dataAddress word out) := by
  unfold Accessible at h
  unfold evfReport
  dsimp only
  rw [if_neg h0]
  split
  · rfl
  · contradiction

/-- What a report leaves: everything but memory and its flag. -/
theorem report_frame (s : State) (o : EventFlag) (out b : Word) :
    let t := (if out = 0#32 then s else s.storeWord out o.bits).setEventBits o.uid b
    CoreSame s t ∧ t.mem = (if out = 0#32 then s.mem else (s.storeWord out o.bits).mem) ∧
      t.sched = (s.setEventBits o.uid b).sched := by
  by_cases h0 : out = 0#32
  · simp only [if_pos h0]
    exact ⟨⟨rfl, rfl, rfl, rfl, rfl⟩, rfl, trivial⟩
  · simp only [h0, if_false]
    refine ⟨⟨?_, ?_, ?_, ?_, ?_⟩, rfl, ?_⟩ <;> simp [State.setEventBits]

/-- The event flags after a change of the bits of one. -/
theorem setEventBits_lookup {q : Word} (h : s.eventFlag? q = some o) (b w : Word) :
    (s.setEventBits o.uid b).eventFlag? w = if w = q then some { o with bits := b } else s.eventFlag? w := by
  obtain rfl := State.eventFlag?_uid h
  rw [State.setEventBits_eventFlag?, h]
  rfl

end

section
variable {s : State} {u : Word} {th : PSPThread} (h : s.thread? u = some th) (running : s.failure = none)
  (done : s.waitDone th = true) {q m mode out : Word} {o : EventFlag} (hw : th.wait = .eventFlag q m mode out)
  (hq : s.eventFlag? q = some o)
include h running done hw hq

/-- A thread that waits for an event flag reports the old bits and clears them as its mode says. -/
theorem reevaluateOne_eventFlag (notCurrent : s.sched.current ≠ some u) (room : s.sched.readyQueue.length < s.cfg.readyCapacity)
    (hout : out = 0#32 ∨ Accessible s out 4 4) : ∃ t, reevaluateOne u s = .next t ∧ Released u th s.cfg.err.ok s t ∧
      t.mem = (if out = 0#32 then s.mem else (s.storeWord out o.bits).mem) ∧ t.sched.semaphores = s.sched.semaphores ∧
      ∀ w, t.eventFlag? w = if w = q then some { o with
        bits := if mode.getLsbD 4 then 0#32 else if mode.getLsbD 5 then o.bits &&& ~~~m else o.bits } else s.eventFlag? w := by
  have effect : waitEffect th s = evfReport 0#32 o m mode out s := by
    rw [waitEffect, hw]
    simp [hq]
  have value : s.waitValue th = s.cfg.err.ok := by rw [State.waitValue, hw]
  obtain ⟨core, mem, sched⟩ := report_frame s o out (evfClear o.bits m mode)
  rw [evfReport_ok _ _ _ hout] at effect
  rw [reevaluateOne_done h done effect (core.failure.trans running), value]
  obtain ⟨t, ht, released, hmem, hsema, hflags⟩ := release_effect h notCurrent room core (by rw [sched]; rfl) s.cfg.err.ok
  refine ⟨t, ht, released, hmem.trans mem, hsema.trans (by rw [sched]; rfl), fun w => ?_⟩
  rw [State.eventFlag?, hflags, sched]
  exact setEventBits_lookup hq _ w

theorem reevaluateOne_eventFlag_bad (h0 : out ≠ 0#32) (hout : ¬ Accessible s out 4 4) :
    reevaluateOne u s = .next { s with failure := some ⟨.dataAddress, s.cpu.pc, 0#32, out⟩ } := by
  have effect : waitEffect th s = evfReport 0#32 o m mode out s := by
    rw [waitEffect, hw]
    simp [hq]
  rw [evfReport_bad _ _ _ h0 hout, State.latchFailure_of_none running] at effect
  exact reevaluateOne_failed h done effect rfl

end

/-! ### The expired alarms (D80) -/

theorem insertAlarm_perm (a : Alarm) (l : List Alarm) : (insertAlarm a l).Perm (a :: l) := by
  induction l with
  | nil => exact .refl _
  | cons b rest ih =>
    unfold insertAlarm
    split
    · exact .refl _
    · exact (ih.cons b).trans (.swap a b rest)

section
variable {l : List Alarm} (sorted : l.Pairwise fun o p => o.deadline ≤ p.deadline) (a : Alarm)
include sorted

theorem insertAlarm_sorted : (insertAlarm a l).Pairwise fun o p => o.deadline ≤ p.deadline := by
  induction l with
  | nil => simp [insertAlarm]
  | cons b rest ih =>
    obtain ⟨hb, hrest⟩ := List.pairwise_cons.1 sorted
    unfold insertAlarm
    split
    next hab => exact List.pairwise_cons.2 ⟨List.forall_mem_cons.2 ⟨hab.le, fun o ho => hab.le.trans (hb o ho)⟩, sorted⟩
    next hab =>
      refine List.pairwise_cons.2 ⟨fun o ho => ?_, ih hrest⟩
      rcases List.mem_cons.1 ((insertAlarm_perm a rest).subset ho) with rfl | ho
      · exact Nat.le_of_not_lt hab
      · exact hb o ho

/-- Among equal deadlines the inserted alarm is last. -/
theorem insertAlarm_filter (d : Nat) : (insertAlarm a l).filter (fun o => o.deadline = d) =
    (l.filter fun o => o.deadline = d) ++ [a].filter fun o => o.deadline = d := by
  induction l with
  | nil => rfl
  | cons b rest ih =>
    obtain ⟨hb, hrest⟩ := List.pairwise_cons.1 sorted
    unfold insertAlarm
    split
    next hab =>
      by_cases had : a.deadline = d
      · have later : (b :: rest).filter (fun o => o.deadline = d) = [] := by
          refine List.filter_eq_nil_iff.2 (List.forall_mem_cons.2 ⟨by simp; omega, fun o ho => ?_⟩)
          have := hb o ho
          simp
          omega
        rw [List.filter_cons, later]
        simp [had]
      · simp [List.filter_cons, had]
    next => rw [List.filter_cons, List.filter_cons, ih hrest]; split <;> rfl

end

/-- The alarms of a list in order of deadline, ties in the order of the list. -/
def sortAlarms (l : List Alarm) : List Alarm := l.foldl (fun l a => insertAlarm a l) []

theorem sortAlarms_append (l : List Alarm) (a : Alarm) : sortAlarms (l ++ [a]) = insertAlarm a (sortAlarms l) := by
  simp [sortAlarms]

theorem sortAlarms_perm (l : List Alarm) : (sortAlarms l).Perm l := by
  induction l using List.reverseRecOn with
  | nil => exact .refl _
  | append_singleton l a ih =>
    rw [sortAlarms_append]
    exact (insertAlarm_perm a _).trans ((ih.cons a).trans (List.perm_append_singleton a l).symm)

theorem sortAlarms_sorted (l : List Alarm) : (sortAlarms l).Pairwise fun o p => o.deadline ≤ p.deadline := by
  induction l using List.reverseRecOn with
  | nil => exact .nil
  | append_singleton l a ih => exact sortAlarms_append l a ▸ insertAlarm_sorted ih a

theorem sortAlarms_filter (l : List Alarm) (d : Nat) :
    (sortAlarms l).filter (fun o => o.deadline = d) = l.filter fun o => o.deadline = d := by
  induction l using List.reverseRecOn with
  | nil => rfl
  | append_singleton l a ih => rw [sortAlarms_append, insertAlarm_filter (sortAlarms_sorted l), ih, List.filter_append]

/-! ### What the re-evaluation keeps for the alarms -/

/-- The time, the alarms and the pending entries are as before. -/
structure AlarmsKept (s t : State) : Prop where
  now : t.sched.now = s.sched.now
  alarms : t.sched.alarms = s.sched.alarms
  pendingIntr : t.sched.pendingIntr = s.sched.pendingIntr

section
variable {s t : State} (h : AlarmsKept s t)
include h

theorem AlarmsKept.setResult (u v : Word) : AlarmsKept s (t.setResult u v) := by
  unfold State.setResult
  split
  · exact ⟨by simp [h.now], by simp [h.alarms], by simp [h.pendingIntr]⟩
  · exact ⟨h.now, h.alarms, h.pendingIntr⟩

theorem AlarmsKept.release (u : Word) : Ensures (AlarmsKept s) (release u t) := .ite (.refuse _) (.next ⟨h.now, h.alarms, h.pendingIntr⟩)

theorem AlarmsKept.evfReport (word : Word) (o : EventFlag) (pattern mode out : Word) :
    Ensures (AlarmsKept s) (evfReport word o pattern mode out t) := by
  refine .ite (.next ⟨h.now, h.alarms, h.pendingIntr⟩) ?_
  split
  · refine .next ?_
    unfold State.latchFailure
    split
    · exact h
    · exact ⟨h.now, h.alarms, h.pendingIntr⟩
  · have sched := t.storeWord_sched out o.bits
    exact .next ⟨(congrArg Scheduler.now sched).trans h.now, (congrArg Scheduler.alarms sched).trans h.alarms,
      (congrArg Scheduler.pendingIntr sched).trans h.pendingIntr⟩

theorem AlarmsKept.waitEffect (th : PSPThread) : Ensures (AlarmsKept s) (waitEffect th t) := by
  unfold Machine.waitEffect
  cases th.wait with
  | sleep => exact .next ⟨h.now, h.alarms, h.pendingIntr⟩
  | sema u need =>
    dsimp only
    split
    · exact .next ⟨h.now, h.alarms, h.pendingIntr⟩
    · exact .next h
  | eventFlag u pattern mode out =>
    dsimp only
    split
    · exact h.evfReport _ _ _ _ _
    · exact .next h
  | none | delay | threadEnd | external => exact .next h

theorem AlarmsKept.reevaluateOne (u : Word) : Ensures (AlarmsKept s) (reevaluateOne u t) := by
  unfold Machine.reevaluateOne
  split
  · exact .next h
  · exact .ite ((h.waitEffect _).andThen fun _ k => (k.setResult _ _).release u) (.ite ((h.setResult _ _).release u) (.next h))

theorem AlarmsKept.reevaluateAll (l : List Word) : Ensures (AlarmsKept s) (reevaluateAll l t) := by
  induction l generalizing t with
  | nil => exact .next h
  | cons u rest ih => exact (h.reevaluateOne u).andThen fun t ht => ih ht

end

/-- The expiry of alarms, after a re-evaluation that failed nowhere. -/
structure AlarmsExpired (s t : State) : Prop where
  phase : t.sched.phase = .finish
  alarms : t.sched.alarms = s.sched.alarms.filter fun o => s.sched.now < o.deadline
  pendingIntr : t.sched.pendingIntr =
    s.sched.pendingIntr ++ (sortAlarms (s.sched.alarms.filter fun o => o.deadline ≤ s.sched.now)).map fun o => .alarm o.handler o.arg

theorem AlarmsKept.expired {s t : State} (h : AlarmsKept s t) : AlarmsExpired s (t.expireAlarms.setPhase .finish) := by
  refine ⟨rfl, ?_, ?_⟩
  · rw [← h.alarms, ← h.now]
    rfl
  · rw [← h.alarms, ← h.now, ← h.pendingIntr]
    rfl

theorem reevaluateStep_expired (s : State) : Ensures (fun t => t.failure = none → AlarmsExpired s t) (reevaluateStep s) :=
  (AlarmsKept.reevaluateAll ⟨rfl, rfl, rfl⟩ s.sched.waitingList).andThen_completed fun _ ht => .next ht.expired

/-- Settles O58: the condition is that of the wait type (`waitDone_iff`), each type has its effect and value, and the alarms that expire are
sorted (`sortAlarms_sorted`) with ties in order of creation (`sortAlarms_filter`). -/
theorem waitReevaluation : Obligations.WaitReevaluation := by
  unfold Obligations.WaitReevaluation
  refine ⟨?waiter, ?alarms⟩
  case waiter =>
    intro s u th holds h notCurrent room running hholds
    have hdone : holds ↔ s.waitDone th = true := hholds.trans (waitDone_iff s th).symm
    have waits (hn : ¬ holds) : s.waitDone th = false := Bool.eq_false_iff.2 (mt hdone.2 hn)
    refine ⟨fun hh hw => reevaluateOne_sleep h notCurrent room running (hdone.1 hh) hw, fun hh hw => ?delay,
      fun q need o hh hw hq => reevaluateOne_sema h notCurrent room running (hdone.1 hh) hw hq,
      fun q m mode out o hh hw hq => ⟨reevaluateOne_eventFlag h running (hdone.1 hh) hw hq notCurrent room,
        reevaluateOne_eventFlag_bad h running (hdone.1 hh) hw hq⟩,
      fun v w hh hw hv => ?threadEnd, fun id hh hw => ?external, fun d hn hd late => ?timeout, fun hn early => ?still⟩
    case delay =>
      exact reevaluateOne_released h notCurrent room running (hdone.1 hh) (by rw [waitEffect, hw]) (by rw [State.waitValue, hw])
    case threadEnd =>
      exact reevaluateOne_released h notCurrent room running (hdone.1 hh) (by rw [waitEffect, hw]) (by simp [State.waitValue, hw, hv])
    case external =>
      exact reevaluateOne_released h notCurrent room running (hdone.1 hh) (by rw [waitEffect, hw]) (by rw [State.waitValue, hw])
    case timeout =>
      rw [reevaluateOne_timedOut h (waits hn) ((timedOut_iff s th).2 ⟨d, hd, late⟩)]
      exact release_unchanged h notCurrent room _
    case still =>
      refine reevaluateOne_waits h (waits hn) (Bool.eq_false_iff.2 fun late => ?_)
      obtain ⟨d, hd, hle⟩ := (timedOut_iff s th).1 late
      exact Nat.not_lt.2 hle (early d hd)
  case alarms =>
    rintro s expired running live outside hphase rfl
    rw [step_reevaluate running live outside hphase]
    refine ⟨fun hempty => ?_, fun t ht hf => ?_⟩
    · refine ⟨s.expireAlarms.setPhase .finish, ?_, running, rfl, rfl⟩
      rw [reevaluateStep, hempty]
      exact andThen_next running _
    · obtain ⟨hfinish, halarms, hpending⟩ := reevaluateStep_expired s t ht hf
      exact ⟨hfinish, halarms, _, sortAlarms_perm _, sortAlarms_sorted _, sortAlarms_filter _, hpending⟩

end Sys2Proof.Machine
end

section
/-! PROOF. The semaphore and event-flag commands (48_scheduler.md R668 to R681): the object that the UID names, what its change or its
deletion leaves of the table, the waits at their call, and the report of an event flag to memory. -/

namespace Sys2Proof.Machine

open Sys2Proof

/-! ### The object that a UID names (R621) -/

section
variable {s : State} {u : Word}

theorem withSema_known {o : Semaphore} (h : s.sema? u = some o) (k : Semaphore → Result) : withSema u s k = k o := by rw [withSema, h]

theorem withSema_unknown (h : s.sema? u = none) (k : Semaphore → Result) : withSema u s k = answer s.cfg.err.unknownUid s := by
  rw [withSema, h]

theorem withEventFlag_known {o : EventFlag} (h : s.eventFlag? u = some o) (k : EventFlag → Result) : withEventFlag u s k = k o := by
  rw [withEventFlag, h]

theorem withEventFlag_unknown (h : s.eventFlag? u = none) (k : EventFlag → Result) :
    withEventFlag u s k = answer s.cfg.err.unknownUid s := by rw [withEventFlag, h]

/-- A command of the caller outside a nested run (R695). -/
theorem outsideNested_withCaller {c : PSPThread} (hc : s.currentThread? = some c) (outside : s.sched.nested = none)
    (k : PSPThread → Result) : outsideNested s (withCaller s k) = k c := by
  rw [outsideNested_none outside, withCaller_of_some hc]

theorem State.anyWaiter_iff (s : State) (p : Wait → Bool) :
    s.anyWaiter p = true ↔ ∃ th, th ∈ s.sched.threads ∧ th.status = .waiting ∧ p th.wait = true := by simp [State.anyWaiter]

end

/-! ### Semaphores (R668 to R673) -/

section
variable {s : State} {a : CommandArgs} {o : Semaphore}

/-- A command that replaces the semaphores by `l`, in which `find` looks them up. -/
theorem answered_semaphores {r : Result} {l : List Semaphore} {find : Word → Option Semaphore}
    (e : r = answerOk { s with sched := { s.sched with semaphores := l } }) (hl : ∀ u, l.find? (fun o => o.uid == u) = find u) :
    ∃ t, r = .next t ∧ Answered s.cfg.err.ok s t ∧ { t.sched with semaphores := s.sched.semaphores } = s.sched ∧
      ∀ u, t.sema? u = find u := by
  obtain ⟨t, hr, ha, hs⟩ := answered_of_sched e
  exact ⟨t, hr, ha, by rw [hs], fun u => by rw [State.sema?, hs]; exact hl u⟩

/-- A command that gives a known semaphore the count `n`. -/
theorem answered_setSemaCount {r : Result} {q : Word} (h : s.sema? q = some o) {n : Int} (e : r = answerOk (s.setSemaCount q n)) :
    ∃ t, r = .next t ∧ Answered s.cfg.err.ok s t ∧ { t.sched with semaphores := s.sched.semaphores } = s.sched ∧
      ∀ u, t.sema? u = if u = q then some { o with count := n } else s.sema? u := by
  refine answered_semaphores e fun u => ?_
  have found := s.setSemaCount_sema? q u n
  rw [h] at found
  exact found

theorem cmdCreateSema_illegal (h : a.a2.toInt < 0 ∨ a.a3.toInt ≤ 0 ∨ a.a3.toInt < a.a2.toInt) :
    cmdCreateSema a s = answer s.cfg.err.illegalCount s := if_pos h

theorem cmdCreateSema_eq {u : Word} (h : ¬ (a.a2.toInt < 0 ∨ a.a3.toInt ≤ 0 ∨ a.a3.toInt < a.a2.toInt)) (hu : s.freshUid = some u) :
    cmdCreateSema a s = answer u { s.issueUid u with
      sched := { (s.issueUid u).sched with semaphores := s.sched.semaphores ++ [⟨u, a.a2.toInt, a.a3.toInt⟩] } } :=
  (if_neg h).trans (withFreshUid_of_some hu _)

/-- Creating a semaphore (R668). -/
theorem cmdCreateSema_spec (h : ¬ (a.a2.toInt < 0 ∨ a.a3.toInt ≤ 0 ∨ a.a3.toInt < a.a2.toInt))
    (room : s.sched.uids.length < 2 ^ 31 - 1) : ∃ t u, cmdCreateSema a s = .next t ∧ Answered u s t ∧ Issued u s t ∧
      { t.sched with semaphores := s.sched.semaphores, uids := s.sched.uids } = s.sched ∧
      t.sched.semaphores = s.sched.semaphores ++ [⟨u, a.a2.toInt, a.a3.toInt⟩] := by
  obtain ⟨u, hu, hfresh, hpos⟩ := State.freshUid_spec room
  obtain ⟨t, hr, ha, hs⟩ := answered_of_eq (s := s) (cmdCreateSema_eq h hu) ⟨rfl, rfl, rfl, rfl, rfl⟩ rfl
  exact ⟨t, u, hr, ha, ⟨hpos, hfresh, by rw [hs]; rfl⟩, by rw [hs]; rfl, by rw [hs]⟩

section
variable (h : s.sema? a.a0 = some o)
include h

theorem cmdDeleteSema_refused (waiter : ∃ th need, th ∈ s.sched.threads ∧ th.status = .waiting ∧ th.wait = .sema a.a0 need) :
    cmdDeleteSema a s = .refused .unmodelledKernelCase := by
  obtain ⟨th, need, hth, hs, hw⟩ := waiter
  refine (withSema_known h _).trans (if_pos ((s.anyWaiter_iff _).2 ⟨th, hth, hs, ?_⟩))
  simp [hw, State.sema?_uid h]

/-- Deleting a semaphore that no thread waits for (R669). -/
theorem cmdDeleteSema_spec (free : ∀ th need, th ∈ s.sched.threads → th.status = .waiting → th.wait ≠ .sema a.a0 need) :
    ∃ t, cmdDeleteSema a s = .next t ∧ Answered s.cfg.err.ok s t ∧ { t.sched with semaphores := s.sched.semaphores } = s.sched ∧
      ∀ u, t.sema? u = if u = a.a0 then none else s.sema? u := by
  refine answered_semaphores ((withSema_known h _).trans (if_neg fun waiter => ?_)) fun u => ?_
  · obtain ⟨th, hth, hs, hw⟩ := (s.anyWaiter_iff _).1 waiter
    split at hw
    next q need heq =>
      obtain rfl : q = a.a0 := by simpa [State.sema?_uid h] using hw
      exact free th need hth hs heq
    next => cases hw
  · rw [State.sema?_uid h]
    exact find?_filter_key Semaphore.uid a.a0 u s.sched.semaphores

theorem cmdSignalSema_eq : cmdSignalSema a s = if a.a1.toInt < 0 then answer s.cfg.err.illegalCount s
    else if o.maxCount < o.count + a.a1.toInt then answer s.cfg.err.semaOvf s
    else answerOk (s.setSemaCount a.a0 (o.count + a.a1.toInt)) := by
  rw [cmdSignalSema, withSema_known h, State.sema?_uid h]

theorem cmdPollSema_eq : cmdPollSema a s = if a.a1.toInt ≤ 0 then answer s.cfg.err.illegalCount s
    else if a.a1.toInt ≤ o.count then answerOk (s.setSemaCount a.a0 (o.count - a.a1.toInt))
    else answer s.cfg.err.semaZero s := by
  rw [cmdPollSema, withSema_known h, State.sema?_uid h]

end

section
variable {c : PSPThread} (hc : s.currentThread? = some c) (outside : s.sched.nested = none) (cb : Bool)
include hc outside

theorem waitSemaWith_unknown (h : s.sema? a.a0 = none) : waitSemaWith cb a s = answer s.cfg.err.unknownUid s :=
  (outsideNested_withCaller hc outside _).trans (withSema_unknown h _)

theorem waitSemaWith_illegal (h : s.sema? a.a0 = some o) (illegal : a.a1.toInt ≤ 0 ∨ o.maxCount < a.a1.toInt) :
    waitSemaWith cb a s = answer s.cfg.err.illegalCount s :=
  (outsideNested_withCaller hc outside _).trans ((withSema_known h _).trans (if_pos illegal))

/-- A wait for a legal count reads its timeout, and then takes the count or blocks (R671). -/
theorem waitSemaWith_legal (h : s.sema? a.a0 = some o) (positive : 0 < a.a1.toInt) (le : a.a1.toInt ≤ o.maxCount) :
    waitSemaWith cb a s = withTimeout a.a2 s fun dl =>
      if a.a1.toInt ≤ o.count then answerOk (s.setSemaCount a.a0 (o.count - a.a1.toInt))
      else block c (.sema a.a0 a.a1.toInt) dl cb s := by
  have legal : ¬ (a.a1.toInt ≤ 0 ∨ o.maxCount < a.a1.toInt) := by omega
  rw [waitSemaWith, outsideNested_withCaller hc outside, withSema_known h, if_neg legal, State.sema?_uid h]

end

end

/-! ### The modes of an event flag (R678; D44) -/

/-- A word without bits outside `0x31` is one of the first 50 words. -/
theorem toNat_lt_of_and_compl {m : Word} (h : m &&& ~~~0x31#32 = 0#32) : m.toNat < 50 := by
  have only : m = m &&& 0x31#32 := by
    calc m = m &&& (0x31#32 ||| ~~~0x31#32) := BitVec.and_allOnes.symm
      _ = (m &&& 0x31#32) ||| (m &&& ~~~0x31#32) := BitVec.and_or_distrib_left
      _ = m &&& 0x31#32 := by rw [h, BitVec.or_zero]
  rw [only, BitVec.toNat_and]
  exact Nat.lt_succ_of_le Nat.and_le_right

theorem evfModeOk_small {n : Nat} (h : n < 50) : evfModeOk (BitVec.ofNat 32 n) = true ↔
    BitVec.ofNat 32 n ∈ ([0x00#32, 0x01#32, 0x10#32, 0x11#32, 0x20#32, 0x21#32] : List Word) := by
  interval_cases n <;> decide

/-- The legal modes. -/
theorem evfModeOk_iff (m : Word) :
    evfModeOk m = true ↔ m ∈ ([0x00#32, 0x01#32, 0x10#32, 0x11#32, 0x20#32, 0x21#32] : List Word) := by
  by_cases hm : m.toNat < 50
  · simpa using evfModeOk_small hm
  · refine iff_of_false (fun ok => hm (toNat_lt_of_and_compl ?_)) fun legal => hm ?_
    · rw [evfModeOk, Bool.and_eq_true] at ok
      exact eq_of_beq ok.1
    · simp only [List.mem_cons, List.not_mem_nil, or_false] at legal
      rcases legal with rfl | rfl | rfl | rfl | rfl | rfl <;> decide

/-! ### Event flags (R674 to R681) -/

section
variable {s : State} {a : CommandArgs} {o : EventFlag}

/-- A command that replaces the event flags by `l`, in which `find` looks them up. -/
theorem answered_eventFlags {r : Result} {l : List EventFlag} {find : Word → Option EventFlag}
    (e : r = answerOk { s with sched := { s.sched with eventFlags := l } }) (hl : ∀ u, l.find? (fun o => o.uid == u) = find u) :
    ∃ t, r = .next t ∧ Answered s.cfg.err.ok s t ∧ { t.sched with eventFlags := s.sched.eventFlags } = s.sched ∧
      ∀ u, t.eventFlag? u = find u := by
  obtain ⟨t, hr, ha, hs⟩ := answered_of_sched e
  exact ⟨t, hr, ha, by rw [hs], fun u => by rw [State.eventFlag?, hs]; exact hl u⟩

theorem cmdCreateEventFlag_eq {u : Word} (hu : s.freshUid = some u) :
    cmdCreateEventFlag a s = answer u { s.issueUid u with
      sched := { (s.issueUid u).sched with eventFlags := s.sched.eventFlags ++ [⟨u, a.a2⟩] } } :=
  withFreshUid_of_some hu _

/-- Creating an event flag (R674). -/
theorem cmdCreateEventFlag_spec (room : s.sched.uids.length < 2 ^ 31 - 1) :
    ∃ t u, cmdCreateEventFlag a s = .next t ∧ Answered u s t ∧ Issued u s t ∧
      { t.sched with eventFlags := s.sched.eventFlags, uids := s.sched.uids } = s.sched ∧
      t.sched.eventFlags = s.sched.eventFlags ++ [⟨u, a.a2⟩] := by
  obtain ⟨u, hu, hfresh, hpos⟩ := State.freshUid_spec room
  obtain ⟨t, hr, ha, hs⟩ := answered_of_eq (s := s) (cmdCreateEventFlag_eq (a := a) hu) ⟨rfl, rfl, rfl, rfl, rfl⟩ rfl
  exact ⟨t, u, hr, ha, ⟨hpos, hfresh, by rw [hs]; rfl⟩, by rw [hs]; rfl, by rw [hs]⟩

section
variable (h : s.eventFlag? a.a0 = some o)
include h

/-- A command that gives a known event flag the bits `b` (R676, R677). -/
theorem answered_setEventBits {r : Result} {b : Word} (e : r = answerOk (s.setEventBits o.uid b)) :
    ∃ t, r = .next t ∧ Answered s.cfg.err.ok s t ∧ { t.sched with eventFlags := s.sched.eventFlags } = s.sched ∧
      ∀ u, t.eventFlag? u = if u = a.a0 then some { o with bits := b } else s.eventFlag? u :=
  answered_eventFlags e fun u => setEventBits_lookup h b u

theorem cmdDeleteEventFlag_refused
    (waiter : ∃ th m mode out, th ∈ s.sched.threads ∧ th.status = .waiting ∧ th.wait = .eventFlag a.a0 m mode out) :
    cmdDeleteEventFlag a s = .refused .unmodelledKernelCase := by
  obtain ⟨th, m, mode, out, hth, hs, hw⟩ := waiter
  refine (withEventFlag_known h _).trans (if_pos ((s.anyWaiter_iff _).2 ⟨th, hth, hs, ?_⟩))
  simp [hw, State.eventFlag?_uid h]

/-- Deleting an event flag that no thread waits for (R675). -/
theorem cmdDeleteEventFlag_spec
    (free : ∀ th m mode out, th ∈ s.sched.threads → th.status = .waiting → th.wait ≠ .eventFlag a.a0 m mode out) :
    ∃ t, cmdDeleteEventFlag a s = .next t ∧ Answered s.cfg.err.ok s t ∧ { t.sched with eventFlags := s.sched.eventFlags } = s.sched ∧
      ∀ u, t.eventFlag? u = if u = a.a0 then none else s.eventFlag? u := by
  refine answered_eventFlags ((withEventFlag_known h _).trans (if_neg fun waiter => ?_)) fun u => ?_
  · obtain ⟨th, hth, hs, hw⟩ := (s.anyWaiter_iff _).1 waiter
    split at hw
    next q m mode out heq =>
      obtain rfl : q = a.a0 := by simpa [State.eventFlag?_uid h] using hw
      exact free th m mode out hth hs heq
    next => cases hw
  · rw [State.eventFlag?_uid h]
    exact find?_filter_key EventFlag.uid a.a0 u s.sched.eventFlags

end

/-! ### The report to memory (R678) -/

section
variable {r : Result} {q m mode out : Word} (h : s.eventFlag? q = some o) (running : s.failure = none)
  (e : r = andThen (evfReport s.ir o m mode out s) answerOk)
include running e

include h in
/-- A command that reports the old bits and answers OK: memory changes by the report alone. -/
theorem answered_report (hout : out = 0#32 ∨ Accessible s out 4 4) :
    ∃ t, r = .next t ∧ Answered s.cfg.err.ok s { t with mem := s.mem } ∧
      t.mem = (if out = 0#32 then s.mem else (s.storeWord out o.bits).mem) ∧
      { t.sched with eventFlags := s.sched.eventFlags } = s.sched ∧
      ∀ u, t.eventFlag? u = if u = q then some { o with
        bits := if mode.getLsbD 4 then 0#32 else if mode.getLsbD 5 then o.bits &&& ~~~m else o.bits } else s.eventFlag? u := by
  obtain ⟨core, mem, sched⟩ := report_frame s o out (evfClear o.bits m mode)
  rw [evfReport_ok _ _ _ hout, andThen_next (core.failure.trans running)] at e
  generalize (if out = 0#32 then s else s.storeWord out o.bits).setEventBits o.uid (evfClear o.bits m mode) = u at core mem sched e
  obtain ⟨t, ht, ha, hs⟩ := answer_answered s.cfg.err.ok (s := s) (u := { u with mem := s.mem })
    ⟨core.cpu, core.failure, core.refused, core.cfg, core.ir⟩ rfl
  obtain rfl := Host.Outcome.next.inj ht
  have hsched : (u.setX 2 s.cfg.err.ok).sched = (s.setEventBits o.uid (evfClear o.bits m mode)).sched := (State.setX_sched ..).trans sched
  refine ⟨u.setX 2 s.cfg.err.ok, e.trans (by rw [answerOk, core.cfg]; rfl), ha, (State.setX_mem ..).trans mem, ?_, fun w => ?_⟩
  · rw [hsched]
    rfl
  · rw [State.eventFlag?, hsched]
    exact setEventBits_lookup h _ w

/-- A command whose report fails [log 18]. -/
theorem fatal_report (h0 : out ≠ 0#32) (hout : ¬ Accessible s out 4 4) : ∃ t, r = .next t ∧ FatalOnly .dataAddress out s t := by
  rw [evfReport_bad _ _ _ h0 hout, State.latchFailure_of_none running] at e
  exact ⟨_, e.trans (andThen_failed rfl _), rfl⟩

end

/-- A poll of a flag with a legal mode reports or answers an error (R681). -/
theorem cmdPollEventFlag_eq (h : s.eventFlag? a.a0 = some o) : cmdPollEventFlag a s =
    if !evfModeOk a.a2 then answer s.cfg.err.illegalMode s
    else if evfMatch o.bits a.a1 a.a2 then andThen (evfReport s.ir o a.a1 a.a2 a.a3 s) answerOk
    else answer s.cfg.err.evfCond s := withEventFlag_known h _

section
variable {c : PSPThread} (hc : s.currentThread? = some c) (outside : s.sched.nested = none) (cb : Bool)
include hc outside

theorem waitEventFlagWith_unknown (h : s.eventFlag? a.a0 = none) : waitEventFlagWith cb a s = answer s.cfg.err.unknownUid s :=
  (outsideNested_withCaller hc outside _).trans (withEventFlag_unknown h _)

theorem waitEventFlagWith_illegal (h : s.eventFlag? a.a0 = some o) (illegal : ¬ evfModeOk a.a2 = true) :
    waitEventFlagWith cb a s = answer s.cfg.err.illegalMode s :=
  (outsideNested_withCaller hc outside _).trans ((withEventFlag_known h _).trans (if_pos (by simpa using illegal)))

/-- A wait with a legal mode reads its timeout, and then reports or blocks (R679). -/
theorem waitEventFlagWith_legal (h : s.eventFlag? a.a0 = some o) (legal : evfModeOk a.a2 = true) :
    waitEventFlagWith cb a s = withTimeout a.a4 s fun dl =>
      if evfMatch o.bits a.a1 a.a2 then andThen (evfReport s.ir o a.a1 a.a2 a.a3 s) answerOk
      else block c (.eventFlag a.a0 a.a1 a.a2 a.a3) dl cb s := by
  rw [waitEventFlagWith, outsideNested_withCaller hc outside, withEventFlag_known h, if_neg (by simp [legal]), State.eventFlag?_uid h]

end

end

/-! ### The statement -/

/-- Settles O59: each command is one change of the object its UID names (`answered_setSemaCount`, `answered_setEventBits`), a report
(`answered_report`), a deletion or a block of the caller. -/
theorem semaphoreAndEventFlagCommands : Obligations.SemaphoreAndEventFlagCommands := by
  unfold Obligations.SemaphoreAndEventFlagCommands
  intro s a running
  refine ⟨fun h => answered_unchanged (cmdCreateSema_illegal h), fun h₁ h₂ h₃ room => cmdCreateSema_spec (by omega) room,
    cmdCreateEventFlag_spec, fun h => ⟨?unknownSema, ?unknownSemaWait⟩, fun h => ⟨?unknownFlag, ?unknownFlagWait⟩, fun o h => ?sema,
    fun o legal hit h hlegal hhit => ?flag⟩
  case unknownSema =>
    intro k hk
    simp only [List.mem_cons, List.not_mem_nil, or_false] at hk
    rcases hk with rfl | rfl | rfl <;> exact answered_unchanged (withSema_unknown h _)
  case unknownSemaWait =>
    intro c hc outside k hk
    simp only [List.mem_cons, List.not_mem_nil, or_false] at hk
    rcases hk with rfl | rfl <;> exact answered_unchanged (waitSemaWith_unknown hc outside _ h)
  case unknownFlag =>
    intro k hk
    simp only [List.mem_cons, List.not_mem_nil, or_false] at hk
    rcases hk with rfl | rfl | rfl | rfl <;> exact answered_unchanged (withEventFlag_unknown h _)
  case unknownFlagWait =>
    intro c hc outside k hk
    simp only [List.mem_cons, List.not_mem_nil, or_false] at hk
    rcases hk with rfl | rfl <;> exact answered_unchanged (waitEventFlagWith_unknown hc outside _ h)
  case sema =>
    have signal := cmdSignalSema_eq h
    have poll := cmdPollSema_eq h
    refine ⟨cmdDeleteSema_refused h, cmdDeleteSema_spec h, fun neg => answered_unchanged (signal.trans (if_pos neg)),
      fun nonneg exceeds => answered_unchanged (signal.trans ((if_neg (by omega)).trans (if_pos exceeds))),
      fun nonneg fits => answered_setSemaCount h (signal.trans ((if_neg (by omega)).trans (if_neg (by omega)))),
      fun nonpos => answered_unchanged (poll.trans (if_pos nonpos)),
      fun pos lacks => answered_unchanged (poll.trans ((if_neg (by omega)).trans (if_neg (by omega)))),
      fun pos has => answered_setSemaCount h (poll.trans ((if_neg (by omega)).trans (if_pos has))), ?_⟩
    intro c hc outside k cb hk
    have e : runCommand k a s = waitSemaWith cb a s := by obtain ⟨rfl, rfl⟩ | ⟨rfl, rfl⟩ := hk <;> rfl
    rw [e]
    refine ⟨fun illegal => answered_unchanged (waitSemaWith_illegal hc outside cb h illegal), fun positive le => ?_⟩
    rw [waitSemaWith_legal hc outside cb h positive le]
    refine ⟨fun dl hdl => ?_, fun h0 bad => withTimeout_fatal h0 running bad _⟩
    rw [withTimeout_of_timeoutIs hdl]
    refine ⟨fun has => answered_setSemaCount h (if_pos has), fun lacks => ?_⟩
    rw [if_neg (by omega)]
    exact block_blocked (State.currentThread?_thread? hc).2 _ dl cb
  case flag =>
    rw [← evfModeOk_iff] at hlegal
    rw [← evfMatch_iff] at hhit
    have legalMode (hl : legal) : ¬ ((!evfModeOk a.a2) = true) := by simp [hlegal.1 hl]
    have poll := cmdPollEventFlag_eq h
    have report (hl : legal) (hh : hit) : cmdPollEventFlag a s = andThen (evfReport s.ir o a.a1 a.a2 a.a3 s) answerOk :=
      poll.trans ((if_neg (legalMode hl)).trans (if_pos (hhit.1 hh)))
    refine ⟨cmdDeleteEventFlag_refused h, cmdDeleteEventFlag_spec h, answered_setEventBits h (withEventFlag_known h _),
      answered_setEventBits h (withEventFlag_known h _),
      fun hn => answered_unchanged (poll.trans (if_pos (by simpa using mt hlegal.2 hn))),
      fun hl hn => answered_unchanged (poll.trans ((if_neg (legalMode hl)).trans (if_neg (mt hhit.2 hn)))),
      fun hl hh => ⟨answered_report h running (report hl hh), fatal_report running (report hl hh)⟩, ?_⟩
    intro c hc outside k cb hk
    have e : runCommand k a s = waitEventFlagWith cb a s := by obtain ⟨rfl, rfl⟩ | ⟨rfl, rfl⟩ := hk <;> rfl
    rw [e]
    refine ⟨fun hn => answered_unchanged (waitEventFlagWith_illegal hc outside cb h (mt hlegal.2 hn)), fun hl => ?_⟩
    rw [waitEventFlagWith_legal hc outside cb h (hlegal.1 hl)]
    refine ⟨fun dl hdl => ?_, fun h0 bad => withTimeout_fatal h0 running bad _⟩
    rw [withTimeout_of_timeoutIs hdl]
    refine ⟨fun hh => answered_report h running (if_pos (hhit.1 hh)), fun hh => fatal_report running (if_pos (hhit.1 hh)), fun hn => ?_⟩
    rw [if_neg (mt hhit.2 hn)]
    exact block_blocked (State.currentThread?_thread? hc).2 _ dl cb

end Sys2Proof.Machine
end

section
/-! PROOF. The thread commands (48_scheduler.md R654 to R665): the record that a command adds, changes or destroys, the context that
`startThread` seeds, and the waits at their call. -/

namespace Sys2Proof.Machine

open Sys2Proof

/-! ### The change of one record -/

section
variable {s : State} {th : PSPThread} (h : s.thread? th.uid = some th) {f : PSPThread → PSPThread}
include h

theorem State.updateThread_onlyThread (hf : ∀ t, (f t).uid = t.uid) : OnlyThread th.uid (f th) s (s.updateThread th.uid f) := by
  obtain ⟨hself, hothers⟩ := State.updateThread_lookup h f hf
  exact ⟨hself, hothers, rfl⟩

/-- A command that changes a known thread's record and answers OK. -/
theorem answered_updateThread {r : Result} (e : r = answerOk (s.updateThread th.uid f)) (hf : ∀ t, (f t).uid = t.uid) :
    ∃ t, r = .next t ∧ Answered s.cfg.err.ok s t ∧ OnlyThread th.uid (f th) s t := by
  obtain ⟨t, hr, ha, hs⟩ := answered_of_sched e
  have same : t.sched = (s.updateThread th.uid f).sched := hs
  obtain ⟨hself, hothers, rest⟩ := State.updateThread_onlyThread h hf
  exact ⟨t, hr, ha, (State.thread?_congr same _).trans hself, fun v hv => (State.thread?_congr same v).trans (hothers v hv), by rw [same, rest]⟩

end

/-- The caller's exit changes its record alone (R656). -/
theorem exitCurrent_onlyThread {s : State} {c : PSPThread} (h : s.thread? c.uid = some c) (status : Word) (del : Bool) :
    OnlyThread c.uid { c with status := .dormant, exitStatus := status, deletePending := c.deletePending || del } s
      (exitCurrent c status del s) :=
  State.updateThread_onlyThread h
    (f := fun t => { t with status := .dormant, exitStatus := status, deletePending := t.deletePending || del }) fun _ => rfl

/-! ### Creating a thread (R654; D85) -/

section
variable {s : State} {a : CommandArgs}

/-- Only a stack that D85 allows is allocated [log 12]. -/
theorem State.stackOk_of_allocStack {n : Nat} {base : Word} (h : s.allocStack n = some base) : s.stackOk base n = true := by
  unfold State.allocStack at h
  split at h
  · split at h
    next ok => exact Option.some.inj h ▸ ok
    next => cases h
  · cases h

theorem State.stackOk_iff (base : Word) (n : Nat) : s.stackOk base n = true ↔
    (∃ w, w ∈ s.cfg.windows ∧ w.kind = .userRam ∧ w.base ≤ base.toNat ∧ base.toNat + n ≤ w.base + w.size) ∧
    ∀ th, th ∈ s.sched.threads → base.toNat + n ≤ th.stackBottom.toNat ∨ th.stackBottom.toNat + th.stackSize.toNat ≤ base.toNat := by
  simp [State.stackOk, and_assoc]

theorem cmdCreateThread_illegal (h : ¬ (0x08 ≤ a.a2.toNat ∧ a.a2.toNat ≤ 0x77)) :
    cmdCreateThread a s = answer s.cfg.err.illegalPriority s := by
  rw [← priorityOk_iff] at h
  exact if_pos (by simpa using h)

/-- The record of a new thread (R654). -/
def createdThread (s : State) (a : CommandArgs) (base u : Word) : PSPThread :=
  { uid := u, ctx := resetContext s.cfg 0, status := .dormant, priority := a.a2.toNat, wait := .none, deadline := none
    stackBottom := base, stackSize := BitVec.ofNat 32 (roundStack a.a3), entry := a.a1, deletePending := false, callbackPending := false
    wakeupCount := 0, gp := s.x 28#5, started := false, exitStatus := 0#32 }

section
variable (h : 0x08 ≤ a.a2.toNat ∧ a.a2.toNat ≤ 0x77)
include h

theorem cmdCreateThread_noMemory (hs : s.allocStack (roundStack a.a3) = none) : cmdCreateThread a s = answer s.cfg.err.noMemory s := by
  rw [← priorityOk_iff] at h
  simp [cmdCreateThread, h, hs]

theorem cmdCreateThread_eq {base u : Word} (hs : s.allocStack (roundStack a.a3) = some base) (hu : s.freshUid = some u) :
    cmdCreateThread a s = answer u { s.issueUid u with
      sched := { (s.issueUid u).sched with threads := s.sched.threads ++ [createdThread s a base u] } } := by
  rw [← priorityOk_iff] at h
  rw [cmdCreateThread, if_neg (by simp [h]), hs]
  exact withFreshUid_of_some hu _

/-- Creating a thread. -/
theorem cmdCreateThread_spec {base : Word} (hs : s.allocStack (roundStack a.a3) = some base) (room : s.sched.uids.length < 2 ^ 31 - 1) :
    ∃ t u, cmdCreateThread a s = .next t ∧ Answered u s t ∧ Issued u s t ∧
      { t.sched with threads := s.sched.threads, uids := s.sched.uids } = s.sched ∧
      t.sched.threads = s.sched.threads ++ [createdThread s a base u] := by
  obtain ⟨u, hu, hfresh, hpos⟩ := State.freshUid_spec room
  obtain ⟨t, hr, ha, hsched⟩ := answered_of_eq (s := s) (cmdCreateThread_eq h hs hu) ⟨rfl, rfl, rfl, rfl, rfl⟩ rfl
  exact ⟨t, u, hr, ha, ⟨hpos, hfresh, by rw [hsched]; rfl⟩, by rw [hsched]; rfl, by rw [hsched]⟩

end

/-! ### Starting a thread (R655) -/

theorem registerFile_getElem {n : Nat} (f : Nat → Word) {i : Nat} (h : i < n) : (registerFile n f)[i] = f i := by simp [registerFile]

section
variable (p : Params) (base : Nat) (entry sp gp size ptr : Word)

/-- The seeds of a start, and the reset values that no seed replaces (R741, R742). -/
theorem startContext_seeds (ctx : Context) (h : startContext p base entry sp gp size ptr = ctx) : ctx.pc = entry ∧
    ctx.gpr[0] = 0#32 ∧ ctx.gpr[4] = size ∧ ctx.gpr[5] = ptr ∧ ctx.gpr[28] = gp ∧ ctx.gpr[29] = sp ∧ ctx.gpr[31] = p.threadExitAddr ∧
    ctx.vfpuCtrl = resetVfpuCtrl ∧ ctx.fcr31 = 0#32 ∧ ctx.fpcond = false ∧ ctx.llBit = false := by
  subst h
  refine ⟨rfl, ?_, ?_, ?_, ?_, ?_, ?_, rfl, rfl, rfl, rfl⟩ <;> simp [startContext, resetContext, registerFile_getElem]

theorem initialWord_zero (h : p.resetRegPolicy = .zero) (k : Nat) : initialWord p base k = 0#32 := by rw [initialWord, h]

/-- Under the policy `Zero` every other register starts as 0 (R743). -/
theorem startContext_zero (h : p.resetRegPolicy = .zero) (ctx : Context) (hc : startContext p base entry sp gp size ptr = ctx) :
    ctx.hi = 0#32 ∧ ctx.lo = 0#32 ∧ (∀ r : FReg, ctx.fpr[r.toNat] = 0#32) ∧ (∀ r : VReg, ctx.vpr[r.toNat] = 0#32) ∧
      ∀ r : GReg, r.toNat ∉ [4, 5, 28, 29, 31] → ctx.gpr[r.toNat] = 0#32 := by
  subst hc
  refine ⟨initialWord_zero p base h _, initialWord_zero p base h _, fun r => ?_, fun r => ?_, fun r hr => ?_⟩
  · exact (registerFile_getElem _ r.isLt).trans (initialWord_zero p base h _)
  · exact (registerFile_getElem _ r.isLt).trans (initialWord_zero p base h _)
  · simp only [List.mem_cons, List.not_mem_nil, or_false, not_or] at hr
    obtain ⟨h4, h5, h28, h29, h31⟩ := hr
    simp [startContext, resetContext, registerFile_getElem, initialWord_zero p base h, Ne.symm h4, Ne.symm h5,
      Ne.symm h28, Ne.symm h29, Ne.symm h31]

end

/-- The context that `startThread` seeds. -/
def seededContext (s : State) (a : CommandArgs) (th : PSPThread) : Context :=
  startContext s.cfg s.drawCount th.entry (th.stackBottom + th.stackSize) th.gp a.a1 a.a2

/-- The state that a start makes READY. -/
def State.seeded (s : State) (a : CommandArgs) (th : PSPThread) : State :=
  (s.updateThread th.uid fun r => { r with ctx := seededContext s a th, started := true }).takeDraws drawsPerContext

section
variable {th : PSPThread} (h : s.thread? a.a0 = some th)
include h

theorem cmdStartThread_eq : cmdStartThread a s = if th.status ≠ .dormant then answer s.cfg.err.notDormant s
    else if th.started then refuse .unmodelledKernelCase else andThen (enqueueReady th.uid (s.seeded a th)) answerOk := by
  rw [cmdStartThread, h]
  rfl

theorem cmdStartThread_dormant (hs : th.status = .dormant) (first : th.started = false) :
    cmdStartThread a s = andThen (enqueueReady th.uid (s.seeded a th)) answerOk := by
  rw [cmdStartThread_eq h, if_neg (not_not.2 hs), if_neg (by simp [first])]

/-- Starting a DORMANT thread for the first time: it is READY with the seeded context. -/
theorem cmdStartThread_spec (running : s.failure = none) (hs : th.status = .dormant) (first : th.started = false)
    (room : s.sched.readyQueue.length < s.cfg.readyCapacity) : ∃ t, cmdStartThread a s = .next t ∧ Answered s.cfg.err.ok s t ∧
      t.thread? a.a0 = some { th with ctx := seededContext s a th, status := .ready, started := true } ∧
      (∀ v, v ≠ a.a0 → t.thread? v = s.thread? v) ∧
      { t.sched with threads := s.sched.threads, readyQueue := s.sched.readyQueue } = s.sched ∧
      t.sched.readyQueue = insertReady s.priorityOf a.a0 th.priority s.sched.readyQueue := by
  have start := cmdStartThread_dormant h hs first
  have uid := State.thread?_uid h
  rw [← uid] at h ⊢
  let seed : PSPThread → PSPThread := fun r => { r with ctx := seededContext s a th, started := true }
  obtain ⟨hself, hothers⟩ := State.updateThread_lookup h seed
  have prio : (s.seeded a th).priorityOf = s.priorityOf := funext fun v => s.updateThread_priorityOf th.uid v seed (fun _ => rfl) fun _ => rfl
  obtain ⟨t₁, ht₁, core, mem, self, others, queue, rest⟩ := enqueueReady_spec (s := s.seeded a th) hself room
  rw [ht₁, andThen_next (core.failure.trans running)] at start
  have answered : answerOk t₁ = answer s.cfg.err.ok t₁ := by rw [answerOk, core.cfg]; rfl
  obtain ⟨t, ht, ha, sched⟩ := answered_of_eq (start.trans answered)
    (⟨core.cpu, core.failure, core.refused, core.cfg, core.ir⟩ : CoreSame s t₁) mem
  refine ⟨t, ht, ha, (State.thread?_congr sched _).trans self, fun v hv => (State.thread?_congr sched v).trans ((others v hv).trans (hothers v hv)),
    ?_, ?_⟩
  · rw [sched]
    exact congrArg (fun q : Scheduler => { q with threads := s.sched.threads }) rest
  · rw [sched, queue, prio]
    rfl

end

/-! ### Deleting and waking a thread (R658, R662) -/

section
variable {th : PSPThread} (outside : s.sched.nested = none) (h : s.thread? a.a0 = some th)
include outside h

theorem cmdDeleteThread_known : cmdDeleteThread a s = if th.status ≠ .dormant then answer s.cfg.err.notDormant s
    else if s.anyWaiter (fun w => w == .threadEnd a.a0) then refuse .unmodelledKernelCase
    else answerOk (s.destroyThread a.a0) := by
  rw [cmdDeleteThread, outsideNested_none outside, h]
  dsimp only
  rw [State.thread?_uid h]

/-- Destroying a DORMANT thread that no thread waits for. -/
theorem cmdDeleteThread_spec (hs : th.status = .dormant)
    (free : ∀ w, w ∈ s.sched.threads → w.status = .waiting → w.wait ≠ .threadEnd a.a0) :
    ∃ t, cmdDeleteThread a s = .next t ∧ Answered s.cfg.err.ok s t ∧ t.sched = (s.destroyThread a.a0).sched := by
  refine answered_of_sched ((cmdDeleteThread_known outside h).trans ((if_neg (not_not.2 hs)).trans (if_neg fun waiter => ?_)))
  obtain ⟨w, hw, waiting, hend⟩ := (s.anyWaiter_iff _).1 waiter
  exact free w hw waiting (eq_of_beq hend)

end

theorem cmdWakeupThread_eq {th : PSPThread} (h : NamesThread s a.a0 th) : cmdWakeupThread a s =
    if th.status = .dormant then answer s.cfg.err.dormant s
    else answerOk (s.updateThread th.uid fun t => { t with wakeupCount := t.wakeupCount + 1 }) := withThread_of_names h _

/-! ### The commands of the caller (R656, R660, R663, R665) -/

section
variable {c : PSPThread} (hc : s.currentThread? = some c) (outside : s.sched.nested = none)
include hc outside

theorem sleepWith_eq (cb : Bool) : sleepWith cb s = if 0 < c.wakeupCount then
      answerOk (s.updateThread c.uid fun t => { t with wakeupCount := t.wakeupCount - 1, callbackPending := t.callbackPending || cb })
    else block c .sleep none cb s := outsideNested_withCaller hc outside _

theorem delayWith_eq (cb : Bool) (us : Word) : delayWith cb us s = block c .delay (some (s.deadlineAfter us)) cb s :=
  outsideNested_withCaller hc outside _

theorem cmdWaitThreadEnd_unknown (h0 : a.a0 ≠ 0#32) (h : s.thread? a.a0 = none) :
    cmdWaitThreadEnd a s = answer s.cfg.err.unknownUid s :=
  (outsideNested_withCaller hc outside _).trans (withThread_unknown h0 h _)

theorem cmdWaitThreadEnd_known {th : PSPThread} (h : NamesThread s a.a0 th) : cmdWaitThreadEnd a s = withTimeout a.a1 s fun dl =>
    if th.status = .dormant then answer th.exitStatus s else block c (.threadEnd th.uid) dl false s :=
  (outsideNested_withCaller hc outside _).trans (withThread_of_names h _)

end

end

/-! ### The statement -/

/-- Settles O60: each command is one change of the table, by the lemma of its name: a record added (`cmdCreateThread_spec`), seeded and made
READY (`cmdStartThread_spec`), destroyed (`cmdDeleteThread_spec`) or changed (`answered_updateThread`), or a block of the caller. -/
theorem threadCommands : Obligations.ThreadCommands := by
  unfold Obligations.ThreadCommands
  intro s a running
  refine ⟨fun h => answered_unchanged (cmdCreateThread_illegal h), fun n h₁ h₂ hn => ?create,
    fun h => answered_unchanged (by rw [runCommand, cmdStartThread, h]), fun th h => ?start, fun outside => ⟨?deleteUnknown, fun th h => ?delete⟩,
    fun h0 h => answered_unchanged (withThread_unknown h0 h _), fun th h => ?wakeup, fun c hc outside => ?caller, fun hn k hk => ?nested⟩
  case create =>
    obtain rfl : n = roundStack a.a3 := hn
    refine ⟨fun none => answered_unchanged (cmdCreateThread_noMemory ⟨h₁, h₂⟩ none), fun base hb => ?_⟩
    obtain ⟨window, disjoint⟩ := (State.stackOk_iff base _).1 (State.stackOk_of_allocStack hb)
    refine ⟨window, disjoint, fun room => ?_⟩
    obtain ⟨t, u, created⟩ := cmdCreateThread_spec ⟨h₁, h₂⟩ hb room
    exact ⟨t, u, _, created⟩
  case start =>
    have start := cmdStartThread_eq h
    refine ⟨fun hs => answered_unchanged (start.trans (if_pos hs)), fun hs started => start.trans ((if_neg (not_not.2 hs)).trans (if_pos started)),
      fun hs first full => ?_, fun hs first room => ?_⟩
    · refine (cmdStartThread_dormant h hs first).trans ?_
      rw [enqueueReady_full th.uid (show (s.seeded a th).cfg.readyCapacity ≤ (s.seeded a th).sched.readyQueue.length from full)]
      rfl
    · obtain ⟨t, ht, ha, self, others, rest, queue⟩ := cmdStartThread_spec h running hs first room
      obtain ⟨pc, x0, x4, x5, x28, x29, x31, vc, fcr, fpcond, ll⟩ := startContext_seeds _ _ _ _ _ _ _ _ (rfl : _ = seededContext s a th)
      exact ⟨t, _, ht, ha, self, others, rest, queue, pc, x0, x4, x5, x28, x29, x31, vc, fcr, fpcond, ll,
        fun zero => startContext_zero _ _ _ _ _ _ _ zero _ rfl⟩
  case deleteUnknown =>
    exact fun h => answered_unchanged ((outsideNested_none outside _).trans (by rw [h]))
  case delete =>
    have delete := cmdDeleteThread_known outside h
    refine ⟨fun hs => answered_unchanged (delete.trans (if_pos hs)), fun hs ⟨w, hw, waiting, hend⟩ => ?_, fun hs free => ?_⟩
    · have waiter := (s.anyWaiter_iff fun w => w == .threadEnd a.a0).2 ⟨w, hw, waiting, beq_iff_eq.2 hend⟩
      exact delete.trans ((if_neg (not_not.2 hs)).trans (if_pos waiter))
    · obtain ⟨t, ht, ha, sched⟩ := cmdDeleteThread_spec outside h hs free
      refine ⟨t, ht, ha, fun v => (State.thread?_congr sched v).trans (s.destroyThread_thread? a.a0 v), ?_, ?_, ?_, ?_⟩ <;>
        rw [sched] <;> simp only [State.destroyThread, bne_eq_decide_ne]
  case wakeup =>
    have wakeup := cmdWakeupThread_eq h
    exact ⟨fun hs => answered_unchanged (wakeup.trans (if_pos hs)),
      fun hs => answered_updateThread (NamesThread.thread? h) (wakeup.trans (if_neg hs)) fun _ => rfl⟩
  case caller =>
    have known := (State.currentThread?_thread? hc).2
    refine ⟨fun k cb hk => ?sleep, fun k cb hk n hn => ?delay, fun h0 h => answered_unchanged (cmdWaitThreadEnd_unknown hc outside h0 h),
      fun th h => ?waitEnd, fun k del hk => ?exit⟩
    case sleep =>
      have e : runCommand k a s = sleepWith cb s := by obtain ⟨rfl, rfl⟩ | ⟨rfl, rfl⟩ := hk <;> rfl
      rw [e, sleepWith_eq hc outside]
      refine ⟨fun pos => ?_, fun zero => ?_⟩
      · rw [if_pos pos]
        exact answered_updateThread known rfl fun _ => rfl
      · rw [if_neg (by omega)]
        exact block_blocked known _ _ cb
    case delay =>
      have e : runCommand k a s = delayWith cb a.a0 s := by obtain ⟨rfl, rfl⟩ | ⟨rfl, rfl⟩ := hk <;> rfl
      rw [e, delayWith_eq hc outside, hn.deadlineAfter_eq]
      exact block_blocked known _ _ cb
    case waitEnd =>
      change (∀ dl, _ → (_ → ∃ t, cmdWaitThreadEnd a s = _ ∧ _) ∧ (_ → ∃ t, cmdWaitThreadEnd a s = _ ∧ _)) ∧
        (_ → _ → ∃ t, cmdWaitThreadEnd a s = _ ∧ _)
      rw [cmdWaitThreadEnd_known hc outside h]
      refine ⟨fun dl hdl => ?_, fun h0 bad => withTimeout_fatal h0 running bad _⟩
      rw [withTimeout_of_timeoutIs hdl]
      refine ⟨fun hs => answered_unchanged (if_pos hs), fun hs => ?_⟩
      rw [if_neg hs]
      exact block_blocked known _ dl false
    case exit =>
      have e : runCommand k a s = .next (exitCurrent c a.a0 del s) := by
        obtain ⟨rfl, rfl⟩ | ⟨rfl, rfl⟩ := hk <;> exact outsideNested_withCaller hc outside _
      exact ⟨_, e, ⟨rfl, rfl, rfl, rfl, rfl⟩, rfl, exitCurrent_onlyThread known a.a0 del⟩
  case nested =>
    simp only [List.mem_cons, List.not_mem_nil, or_false] at hk
    rcases hk with rfl | rfl | rfl | rfl | rfl | rfl | rfl | rfl | rfl | rfl | rfl | rfl <;> exact outsideNested_some hn _

end Sys2Proof.Machine
end
